-- ==== Sys2Proof/Word.lean ====
section
/-! DEFINITION. Word.lean: the bit vectors the manual treats as bits, and the small types that the operands of a
command and the state share. The part has no register window: bytes travel on its links, and only the frame count,
the chart clock, run ids, sequence numbers and masks are words that wrap. -/

namespace Sys2Proof

/-- A character's eight data bits (R140). -/
abbrev Byte := BitVec 8
/-- Run ids, the air sequence, CRC-16 values, 2⁻¹⁶-turn phases. -/
abbrev Word16 := BitVec 16
/-- The frame count, chart-clock minutes, angles, the abandonment number. -/
abbrev Word32 := BitVec 32
/-- A moment, in units of 1/120 microsecond from an arbitrary origin (DESIGN CHOICE, log 2): every period, guard
interval and expiry of R1 is a whole number of these units at both frame rates. -/
abbrev Time := Nat

/-- The two control ports (00_scope.md, Connections). -/
inductive Port where
  | a
  | b
deriving DecidableEq, Repr

/-- The other control port. -/
def Port.other : Port → Port
  | .a => .b
  | .b => .a

/-- One value for each control port. -/
structure PerPort (α : Type) where
  a : α
  b : α
deriving DecidableEq, Repr

/-- The value of one port. -/
def PerPort.get {α : Type} (v : PerPort α) : Port → α
  | .a => v.a
  | .b => v.b

/-- Both ports' values with one port's replaced. -/
def PerPort.set {α : Type} (v : PerPort α) (p : Port) (x : α) : PerPort α :=
  match p with
  | .a => { v with a := x }
  | .b => { v with b := x }

/-- The same value for both ports. -/
def PerPort.both {α : Type} (x : α) : PerPort α := { a := x, b := x }

/-- A character on a link: its stop bit was found at the high level, or it is a bad character (R140). -/
inductive Character where
  | good (b : Byte)
  | bad
deriving DecidableEq, Repr

/-- The levels of the strap inputs, true for high (00_scope.md, Signal summary). -/
structure Straps where
  frate : Bool
  role1 : Bool
  role0 : Bool
deriving DecidableEq, Repr

/-- A pulse or expiry that may serve, with the PARTNER-ALARM level sampled at it (true: asserted; R170). -/
inductive PulseEvent where
  | internal (palarm : Bool)
  | reference (moment : Time) (palarm : Bool)
  | loss (palarm : Bool)
deriving DecidableEq, Repr

/-- The role a partner report shows (R161, byte 5). -/
inductive ReportRole where
  | main
  | standby
  | handingOver
deriving DecidableEq, Repr

/-- The swap word of a partner report (R161, byte 16). -/
inductive SwapWord where
  | none
  | request
  | offer
  | release
deriving DecidableEq, Repr

/-- The content of a partner report (R161), without its lead and its check. -/
structure Report where
  frame : Word32
  role : ReportRole
  airSeq : Word16
  runId : Word16
  cursor : Word32
  level : Byte
  alarm : Bool
  swap : SwapWord
  lineFrame : Word32
deriving DecidableEq, Repr

end Sys2Proof
end

