-- ==== Sys2Proof/Config.lean ====
section
/-! DEFINITION. Config.lean: what is fixed for a part: the two frame rates with the times and the budget they give
(R1), and the limits of the key-figures table of 00_scope.md. The manual leaves no value free that a command
produces, so there is no free value here (log 26). -/

namespace Sys2Proof

/-- The frame rate, read from the FRATE strap at the end of hard reset (R1). -/
inductive FrameRate where
  | fps25
  | fps2997
deriving DecidableEq, Repr

namespace Config

/-- The nominal period: 40 ms, or 1,001/30 ms (R1), in units of 1/120 microsecond. -/
def nominal : FrameRate → Time
  | .fps25 => 4800000
  | .fps2997 => 4004000

/-- Three quarters of the nominal period: the guard interval, 30 ms or 25.025 ms (R1). -/
def guardInterval : FrameRate → Time
  | .fps25 => 3600000
  | .fps2997 => 3003000

/-- One and a quarter nominal periods, the loss and regain expiry: 50 ms or 41.708 ms (R1, R6, R8). -/
def expiry : FrameRate → Time
  | .fps25 => 6000000
  | .fps2997 => 5005000

/-- The frame budget B (R1). -/
def budget : FrameRate → Nat
  | .fps25 => 24000
  | .fps2997 => 20000

/-- The loader floor while the ingest queue is filling (R132). -/
def loaderFloor : Nat := 3000
/-- The overhead of a chart (R126). -/
def overhead : Nat := 400
/-- Wind frame slots (R18). -/
def slotCount : Nat := 48
/-- Station records (R34). -/
def maxStations : Nat := 32
/-- Coastline segments (R43). -/
def maxSegments : Nat := 512
/-- Points of the pool (R43, R44). -/
def poolSize : Nat := 16384
/-- Entries of the ingest queue (R146). -/
def queueSize : Nat := 64
/-- Records of the take error log (R90). -/
def takeLogSize : Nat := 8
/-- Frames a PUBLISH may stay deferred (R80). -/
def deferralFrames : Word32 := 50#32
/-- Qualifying starts for a relaxation (R134). -/
def relaxationStarts : Nat := 100
/-- Missed periods that lose the partner (R164). -/
def missedLimit : Nat := 3
/-- The loss count of forced takeover and self-release (R164, R170). -/
def lossLimit : Nat := 25
/-- The command codes of R176's table; a code not in it is unknown (R178). -/
def commandCodes : List Byte :=
  [0x10, 0x11, 0x12, 0x13, 0x14, 0x15, 0x16, 0x17, 0x18, 0x19, 0x1A, 0x1B, 0x20, 0x21, 0x28, 0x29, 0x2A, 0x2C, 0x2D,
   0x2E, 0x30, 0x31, 0x32, 0x33, 0x38, 0x3C, 0x40, 0x41, 0x42, 0x48, 0x49, 0x50, 0x51, 0x52, 0x53, 0x54, 0x55, 0x56,
   0x5F]

end Config
end Sys2Proof
end

