-- ==== Sys2Proof/Syntax.lean ====
section
/-! DEFINITION. Syntax.lean: the commands of spec/opcode_table.json, one constructor per row. A request carries its
port and its parameter bytes as they were framed (R176), so that a wrong length is a form of the command too (its
status is RANGE). Timed events carry their moment where the state does not give it. -/

namespace Sys2Proof

/-- The commands: requests, characters on the links, pulses, and the part's own timed events. -/
inductive Instr where
  /-- HARD_RESET (R16). -/
  | hardReset
  /-- END_OF_HARD_RESET (R16): the straps are the levels read at that moment. -/
  | endOfHardReset (moment : Time) (straps : Straps)
  /-- INTERNAL_PULSE (R4). -/
  | internalPulse (palarm : Bool)
  /-- REFERENCE_PULSE (R5). -/
  | referencePulse (moment : Time) (palarm : Bool)
  /-- LOSS_EXPIRY (R6). -/
  | lossExpiry (palarm : Bool)
  /-- REGAIN_EXPIRY (R8). -/
  | regainExpiry
  /-- COMPOSITION_COMPLETION (R11). -/
  | compositionCompletion
  /-- COMPOSITION_BUDGET_SPENT (R11). -/
  | compositionBudgetSpent
  /-- TAKE_EXPIRY (R80): taken with the serving pulse e at which it comes about (log 1). -/
  | takeExpiry (e : PulseEvent)
  /-- RELAXATION (R134): taken with the serving pulse e at which it comes about (log 1). -/
  | relaxation (e : PulseEvent)
  /-- STALE (R145): taken with the serving pulse e at which it comes about (log 1). -/
  | stale (e : PulseEvent)
  /-- PARTNER_LOSS (R164): taken with the serving pulse e at which it comes about (log 1). -/
  | partnerLoss (e : PulseEvent)
  /-- PARTNER_REPORT (R163). -/
  | partnerReport (r : Report)
  /-- PARTNER_REPORT_TIMEOUT (R163): taken with the serving pulse e at which it comes about (log 1). -/
  | partnerReportTimeout (e : PulseEvent)
  /-- INGEST_CHARACTER (R140). -/
  | ingestCharacter (c : Character)
  /-- SYMBOL_OUTPUT_DONE (R149). -/
  | symbolOutputDone
  /-- LOADER_MOVE (R151). -/
  | loaderMove
  /-- REQUEST_FRAME_ERROR (R177): c is the character that ends the frame. -/
  | requestFrameError (p : Port) (c : Character)
  /-- PORT_RECEIVE_TIMEOUT (R177). -/
  | portReceiveTimeout (p : Port)
  /-- UNKNOWN (R178): code is the frame's command code. -/
  | unknown (p : Port) (code : Byte)
  /-- BUSY (R179): code is the frame's command code. -/
  | busy (p : Port) (code : Byte)
  /-- REPLY_SENT (R179). -/
  | replySent (p : Port)
  /-- REQUEST_HOLD (R65). -/
  | requestHold (p : Port) (params : List Byte)
  /-- RECLAIM (R66): ignored is bits 1..7 of its parameter byte. -/
  | reclaim (ignored : BitVec 7)
  /-- RELEASE_HOLD (R67). -/
  | releaseHold (p : Port) (params : List Byte)
  /-- SET_VIEW (R57). -/
  | setView (p : Port) (params : List Byte)
  /-- SET_CURSOR (R58). -/
  | setCursor (p : Port) (params : List Byte)
  /-- SET_LAYERS (R59). -/
  | setLayers (p : Port) (params : List Byte)
  /-- SET_GAUGE (R60). -/
  | setGauge (p : Port) (params : List Byte)
  /-- CLEAR_GAUGE (R60). -/
  | clearGauge (p : Port) (params : List Byte)
  /-- SET_AREAS (R61). -/
  | setAreas (p : Port) (params : List Byte)
  /-- COPY_AIR_TO_DRAFT (R62). -/
  | copyAirToDraft (p : Port) (params : List Byte)
  /-- READ_PLAN (R63). -/
  | readPlan (p : Port) (params : List Byte)
  /-- SET_AIR_LOCK (R69). -/
  | setAirLock (p : Port) (params : List Byte)
  /-- CLEAR_AIR_LOCK (R70). -/
  | clearAirLock (p : Port) (params : List Byte)
  /-- READ_RUN_STATUS (R28). -/
  | readRunStatus (p : Port) (params : List Byte)
  /-- READ_FRAME_TABLE (R30). -/
  | readFrameTable (p : Port) (params : List Byte)
  /-- LOAD_SEGMENT (R45). -/
  | loadSegment (p : Port) (params : List Byte)
  /-- DELETE_SEGMENT (R46). -/
  | deleteSegment (p : Port) (params : List Byte)
  /-- READ_SEGMENTS (R47). -/
  | readSegments (p : Port) (params : List Byte)
  /-- LOAD_STATION (R38). -/
  | loadStation (p : Port) (params : List Byte)
  /-- DELETE_STATION (R40). -/
  | deleteStation (p : Port) (params : List Byte)
  /-- READ_STATION (R41). -/
  | readStation (p : Port) (params : List Byte)
  /-- SUBMIT_TAKE (R73). -/
  | submitTake (p : Port) (params : List Byte)
  /-- FLUSH_TAKES (R91). -/
  | flushTakes (p : Port) (params : List Byte)
  /-- READ_COMPLETIONS (R89). -/
  | readCompletions (p : Port) (params : List Byte)
  /-- READ_TAKE_LOG (R90). -/
  | readTakeLog (p : Port) (params : List Byte)
  /-- READ_FRAME_RECORD (R136). -/
  | readFrameRecord (p : Port) (params : List Byte)
  /-- READ_TIMING (R15). -/
  | readTiming (p : Port) (params : List Byte)
  /-- READ_INGEST_STATUS (R156). -/
  | readIngestStatus (p : Port) (params : List Byte)
  /-- SET_INGEST_LEVELS (R150). -/
  | setIngestLevels (p : Port) (params : List Byte)
  /-- INGEST_RESET (R157). -/
  | ingestReset (p : Port) (params : List Byte)
  /-- READ_OUTPUT_STATUS (R173): palarm is the PARTNER-ALARM level at that moment. -/
  | readOutputStatus (p : Port) (params : List Byte) (palarm : Bool)
  /-- SET_AUTO_TAKEOVER (R170). -/
  | setAutoTakeover (p : Port) (params : List Byte)
  /-- READ_NOTICE (R182). -/
  | readNotice (p : Port) (params : List Byte)
  /-- SET_NOTICE_MASK (R181). -/
  | setNoticeMask (p : Port) (params : List Byte)
  /-- READ_FAULT_STATUS (R183). -/
  | readFaultStatus (p : Port) (params : List Byte)
  /-- READ_HEALTH (R185). -/
  | readHealth (p : Port) (params : List Byte)
  /-- SET_THRESHOLD (R185). -/
  | setThreshold (p : Port) (params : List Byte)
  /-- CLEAR_HEALTH (R186). -/
  | clearHealth (p : Port) (params : List Byte)
  /-- SET_ALARM_ENABLE (R186). -/
  | setAlarmEnable (p : Port) (params : List Byte)
  /-- RESTART (R187). -/
  | restart (p : Port) (params : List Byte)
  /-- PORT_CHARACTER (R177): palarm is the PARTNER-ALARM level, read when the character completes READ OUTPUT STATUS. -/
  | portCharacter (p : Port) (b : Byte) (palarm : Bool)
  /-- PARTNER_LINK_CHARACTER (R163). -/
  | partnerLinkCharacter (c : Character)
  /-- POWER_LOSS (R172). -/
  | powerLoss
deriving DecidableEq, Repr

end Sys2Proof
end

