-- ==== Sys2Proof/WellFormed.lean ====
section
/-! DEFINITION. WellFormed.lean: which commands the links can carry. A request frame has at most 249 parameter bytes
(R176: the length counts the command code and the parameters and is at most 250), and UNKNOWN names a code that is not
in the table of R176 (R178). Every other operand is admitted at every value of its type. -/

namespace Sys2Proof

/-- The parameters fit a request frame (R176). -/
def framable (params : List Byte) : Bool := params.length ≤ 249

/-- The command can arrive. -/
def Instr.wellFormed : Instr → Bool
  | .hardReset => true
  | .endOfHardReset _ _ => true
  | .internalPulse _ => true
  | .referencePulse _ _ => true
  | .lossExpiry _ => true
  | .regainExpiry => true
  | .compositionCompletion => true
  | .compositionBudgetSpent => true
  | .takeExpiry _ => true
  | .relaxation _ => true
  | .stale _ => true
  | .partnerLoss _ => true
  | .partnerReport _ => true
  | .partnerReportTimeout _ => true
  | .ingestCharacter _ => true
  | .symbolOutputDone => true
  | .loaderMove => true
  | .requestFrameError _ _ => true
  | .portReceiveTimeout _ => true
  | .unknown _ code => !Config.commandCodes.contains code
  | .busy _ _ => true
  | .replySent _ => true
  | .requestHold _ params => framable params
  | .reclaim _ => true
  | .releaseHold _ params => framable params
  | .setView _ params => framable params
  | .setCursor _ params => framable params
  | .setLayers _ params => framable params
  | .setGauge _ params => framable params
  | .clearGauge _ params => framable params
  | .setAreas _ params => framable params
  | .copyAirToDraft _ params => framable params
  | .readPlan _ params => framable params
  | .setAirLock _ params => framable params
  | .clearAirLock _ params => framable params
  | .readRunStatus _ params => framable params
  | .readFrameTable _ params => framable params
  | .loadSegment _ params => framable params
  | .deleteSegment _ params => framable params
  | .readSegments _ params => framable params
  | .loadStation _ params => framable params
  | .deleteStation _ params => framable params
  | .readStation _ params => framable params
  | .submitTake _ params => framable params
  | .flushTakes _ params => framable params
  | .readCompletions _ params => framable params
  | .readTakeLog _ params => framable params
  | .readFrameRecord _ params => framable params
  | .readTiming _ params => framable params
  | .readIngestStatus _ params => framable params
  | .setIngestLevels _ params => framable params
  | .ingestReset _ params => framable params
  | .readOutputStatus _ params _ => framable params
  | .setAutoTakeover _ params => framable params
  | .readNotice _ params => framable params
  | .setNoticeMask _ params => framable params
  | .readFaultStatus _ params => framable params
  | .readHealth _ params => framable params
  | .setThreshold _ params => framable params
  | .clearHealth _ params => framable params
  | .setAlarmEnable _ params => framable params
  | .restart _ params => framable params
  | .portCharacter _ _ _ => true
  | .partnerLinkCharacter _ => true
  | .powerLoss => true

end Sys2Proof
end

