-- ==== Sys2Proof/Decode.lean ====
section
/-! DEFINITION. Decode.lean: the command that a word spells by the bits of spec/opcode_table.json. No row of that table
gives bits (every row's list of fields is empty and none has a fixed pattern), so no word spells a command. Requests,
ingest units and partner reports reach the part character by character; Machine/Operands.lean and the receivers read
them. -/

namespace Sys2Proof

/-- The command a word of nbits bits spells: none, for no row of the table gives bits (log 32). -/
def decodeTableWord (_nbits _w : Nat) : Option Instr := none

end Sys2Proof
end

