-- ==== Sys2Proof/Machine/State.lean ====
section
/-! DEFINITION. Machine/State.lean: everything the manual gives the part to hold, as plain data, block by block in the
order of 00_scope.md, and the state after hard reset. What the manual names twice is stored once: tag states, the pool
use, the pending classes TAKE and INGEST, the last frame record and the output lines are views (log 14). -/

namespace Sys2Proof.Machine

/-! ### The part -/

/-- Whether the part runs, is held by RESET, or has no supply (R16, R159, R172). -/
inductive Power where
  | running
  | inReset
  | unpowered
deriving DecidableEq, Repr

/-! ### Model runs and wind frames (chapter 02) -/

/-- A pair of wind components, tenths of a knot (R18). -/
structure WindPair where
  u : Int
  v : Int
deriving DecidableEq, Repr

/-- The owner of a wind frame (R18). -/
inductive Owner where
  | current
  | next
deriving DecidableEq, Repr

/-- The state of a wind frame (R18). -/
inductive FrameState where
  | filling
  | complete
  | incomplete
deriving DecidableEq, Repr

/-- One wind frame (R18): `grid` has 32 rows, south first, of 48 pairs, west first. -/
structure WindFrame where
  owner : Owner
  offset : Nat
  state : FrameState
  mask : Word32
  clamped : Bool
  grid : List (List WindPair)
deriving DecidableEq, Repr

/-- A run's id, base time and expected frame count (R17). -/
structure RunRecord where
  id : Word16
  base : Word32
  expected : Nat
deriving DecidableEq, Repr

/-- The states of a NEXT that is not ABSENT (R17). -/
inductive NextState where
  | opened
  | ended
  | ready
deriving DecidableEq, Repr

/-- The NEXT record (R17). -/
structure NextRun where
  state : NextState
  run : RunRecord
  sent : Nat
  short : Bool
deriving DecidableEq, Repr

/-- The wind part of the forecast store: `none` is ABSENT for a run and FREE for a slot. -/
structure Fsw where
  current : Option RunRecord
  next : Option NextRun
  abandonment : Word32
  slots : List (Option WindFrame)
deriving DecidableEq, Repr

/-! ### Tide stations and coastline (chapter 03) -/

/-- The writer of a station record (R35). -/
inductive Source where
  | loader
  | portA
  | portB
deriving DecidableEq, Repr

/-- One harmonic term (R35). -/
structure Constituent where
  omega : Word32
  amp : Nat
  phase : Word16
deriving DecidableEq, Repr

/-- A station record as stored (R35). -/
structure Station where
  number : Nat
  z0 : Int
  hmin : Int
  hmax : Int
  constituents : List Constituent
  source : Source
  clamped : Bool
deriving DecidableEq, Repr

/-- The class of a coastline segment (R43). -/
inductive SegClass where
  | coast
  | island
  | area
  | minor
deriving DecidableEq, Repr

/-- A point of the chart, chart units. -/
structure Point where
  x : Nat
  y : Nat
deriving DecidableEq, Repr

/-- A bounding box, all four bounds inclusive (R43). -/
structure Box where
  xmin : Nat
  ymin : Nat
  xmax : Nat
  ymax : Nat
deriving DecidableEq, Repr

/-- A coastline segment (R43). -/
structure Segment where
  id : Nat
  cls : SegClass
  points : List Point
  box : Box
deriving DecidableEq, Repr

/-- The tide and coast part of the forecast store: both lists ascend by their keys (R34, R43). -/
structure Fst where
  stations : List Station
  segments : List Segment
deriving DecidableEq, Repr

/-! ### Chart plans and the edit hold (chapter 04) -/

/-- A layer set (R51). -/
structure Layers where
  coast : Bool
  wind : Bool
  tide : Bool
  areas : Bool
deriving DecidableEq, Repr

/-- A gauge of a plan: a station number and the curve flag (R51). -/
structure Gauge where
  station : Nat
  curve : Bool
deriving DecidableEq, Repr

/-- A plan (R51). `gauges` has twelve slots; H is not stored, it follows from W. -/
structure Plan where
  seq : Word16
  x0 : Nat
  y0 : Nat
  w : Nat
  cursor : Word32
  layers : Layers
  stride : Nat
  gauges : List (Option Gauge)
  areas : List Nat
deriving DecidableEq, Repr

/-- The hold event of a port (R64, R68). -/
inductive HoldEvent where
  | none
  | granted
  | lost
deriving DecidableEq, Repr

/-- The plan unit: `hold` and `lock` are the port that holds or has set, `none` for FREE and CLEAR. -/
structure Pln where
  draft : Plan
  air : Plan
  hold : Option Port
  waiting : PerPort Bool
  event : PerPort HoldEvent
  lock : Option Port
deriving DecidableEq, Repr

/-- The default plan (R71). -/
def Plan.default : Plan where
  seq := 0#16
  x0 := 0
  y0 := 0
  w := 65535
  cursor := 0#32
  layers := { coast := true, wind := false, tide := false, areas := false }
  stride := 1
  gauges := List.replicate 12 none
  areas := []

/-! ### Tide and wind results, frame records and charts (chapters 06 to 08) -/

/-- The trend of a gauge (R102). -/
inductive Trend where
  | slack
  | rising
  | falling
deriving DecidableEq, Repr

/-- The status of a gauge result (R104). -/
inductive GaugeStatus where
  | live
  | held
  | noStation
deriving DecidableEq, Repr

/-- The values of a gauge result (R104). -/
structure GaugeValues where
  height : Int
  level : Nat
  offScale : Bool
  rate : Int
  trend : Trend
deriving DecidableEq, Repr

/-- A gauge result; its values are all present or all absent (R104). -/
structure GaugeResult where
  slot : Nat
  station : Nat
  status : GaugeStatus
  values : Option GaugeValues
deriving DecidableEq, Repr

/-- The status of a wind result (R110). -/
inductive WindStatus where
  | drawn
  | heldFirst
  | heldLast
  | noData
  | off
deriving DecidableEq, Repr

/-- A wind result (R116). -/
structure WindResult where
  status : WindStatus
  t0 : Word32
  t1 : Word32
  f : Nat
  arrows : Nat
deriving DecidableEq, Repr

/-- A frame record (R135). `runId` is 0 when CURRENT is ABSENT. -/
structure FrameRecord where
  frame : Word32
  airSeq : Word16
  runId : Word16
  cursor : Word32
  level : Nat
  cost : Nat
  budget : Nat
  wind : WindResult
  coastSegments : Nat
  coastPoints : Nat
  areaCount : Nat
  gauges : List GaugeResult
deriving DecidableEq, Repr

/-- A gauge slot of a snapshot: what the plan names and the station record, or that there is none (R42, R125). -/
structure SnapGauge where
  slot : Nat
  gauge : Gauge
  record : Option Station
deriving DecidableEq, Repr

/-- A COMPLETE frame of CURRENT in a snapshot (R25): its valid offset and its grid. -/
structure SnapFrame where
  offset : Nat
  grid : List (List WindPair)
deriving DecidableEq, Repr

/-- The snapshot of a composition (R125); `frames` ascend by offset. -/
structure Snapshot where
  frame : Word32
  plan : Plan
  current : Option RunRecord
  frames : List SnapFrame
  gauges : List SnapGauge
  segments : List Segment
  lastGauges : List GaugeResult
  queueLevel : Nat
deriving DecidableEq, Repr

/-- A composition in flight: its snapshot, chosen level, cost and A (R125, R133), and whether the composer has spent A
on it and stopped work (R11). -/
structure Composition where
  snap : Snapshot
  level : Nat
  cost : Nat
  budget : Nat
  stopped : Bool
deriving DecidableEq, Repr

/-- An exact point of the picture: (x / den, y / den) in chart units (log 19). -/
structure PicturePoint where
  x : Int
  y : Int
  den : Nat
deriving DecidableEq, Repr

/-- A straight stroke within the picture. -/
structure Stroke where
  start : PicturePoint
  stop : PicturePoint
deriving DecidableEq, Repr

/-- A line of the coastline or of an area highlight as drawn: its strokes, cut off at the picture's edge (R127, R128,
R131). -/
structure DrawnLine where
  id : Nat
  cls : SegClass
  strokes : List Stroke
deriving DecidableEq, Repr

/-- An arrow with its speed, force and sector, or a calm mark (R119 to R123). -/
inductive WindMark where
  | arrow (speed force sector : Nat)
  | calm (speed : Nat)
deriving DecidableEq, Repr

/-- A mark at an arrow position (R111, R113, R123). -/
structure DrawnMark where
  column : Nat
  row : Nat
  at_ : Point
  mark : WindMark
deriving DecidableEq, Repr

/-- A gauge as drawn (R105 to R107): its result, the figure in whole centimetres, and the levels of its curve, point
−12 first, where a curve is drawn (R103). -/
structure DrawnGauge where
  result : GaugeResult
  figure_ : Option Int
  curve : Option (List Nat)
deriving DecidableEq, Repr

/-- A finished chart: what is drawn, lowest layer first, over the view of its plan, and its frame record (R11, R123). -/
structure Chart where
  record : FrameRecord
  viewX0 : Nat
  viewY0 : Nat
  viewW : Nat
  coast : List DrawnLine
  highlights : List DrawnLine
  wind : List DrawnMark
  gauges : List DrawnGauge
deriving DecidableEq, Repr

/-- The composer (chapter 08). Its snapshot and records stand with the compositions and charts of FCY. -/
structure Cmp where
  sticky : Nat
  relax : Nat
  previousLate : Bool
deriving DecidableEq, Repr

/-! ### The frame cycle (chapter 01) -/

/-- The reference state. -/
inductive RefState where
  | acquiring
  | locked
  | lost
  | regaining
deriving DecidableEq, Repr

/-- The frame cycle. The composition-in-flight flag is set while `inFlight` holds a composition; `displayed` is `none`
for the EMPTY chart, and the last frame record is the displayed chart's. -/
structure Fcy where
  rate : FrameRate
  ref : RefState
  count : Word32
  lastServing : Time
  lastReference : Option Time
  regain : Nat
  timer : Option Time
  inFlight : Option Composition
  completed : Option Chart
  displayed : Option Chart
deriving DecidableEq, Repr

/-! ### Takes (chapter 05) -/

/-- A line mode (R86, R159). -/
inductive LineMode where
  | live
  | pass
  | check
deriving DecidableEq, Repr

/-- The kinds of take with the parameters each uses (R73). -/
inductive TakeKind where
  | publish (n : Nat)
  | sweep (n : Nat) (target : Word32)
  | adopt
  | line (mode : LineMode)
  | swap
deriving DecidableEq, Repr

/-- The completion statuses (R88). -/
inductive TakeStatus where
  | done
  | doneLate
  | doneHeld
  | tooLate
  | expired
  | superseded
  | notReady
  | flushed
  | notInStep
  | swapFailed
deriving DecidableEq, Repr

/-- Start and target of the swept view of a publish (R79, R82). -/
structure SweptView where
  x0Start : Nat
  x0Target : Nat
  y0Start : Nat
  y0Target : Nat
  wStart : Nat
  wTarget : Nat
deriving DecidableEq, Repr

/-- A sweep record (R82): a SWEEP has no swept view. -/
structure SweepRecord where
  n : Nat
  k : Nat
  cursorStart : Word32
  cursorTarget : Word32
  view : Option SweptView
deriving DecidableEq, Repr

/-- The state of a queue entry (R76). A SWEEPING entry carries its sweep record, the status fixed at its application and
the frame of its application (R79, R83). -/
inductive EntryState where
  | queued
  | deferred
  | sweeping (sweep : SweepRecord) (status : TakeStatus) (applied : Word32)
  | negotiating
deriving DecidableEq, Repr

/-- An entry of the take queue (R76). `past` says that the take was past at acceptance (R75), which its status needs;
`abandonment` is the number an ADOPT recorded at acceptance (R27). -/
structure TakeEntry where
  port : Port
  tag : Nat
  kind : TakeKind
  due : Word32
  urgent : Bool
  force : Bool
  past : Bool
  state : EntryState
  abandonment : Word32
deriving DecidableEq, Repr

/-- The kind as a completion record names it (R88). -/
inductive TakeSort where
  | publish
  | sweep
  | adopt
  | line
  | swap
deriving DecidableEq, Repr

/-- A completion record (R88). -/
structure Completion where
  port : Port
  tag : Nat
  sort : TakeSort
  status : TakeStatus
  applied : Word32
  due : Word32
deriving DecidableEq, Repr

/-- The codes of TS1 and TS0 (R92). -/
inductive TsCode where
  | none
  | one
  | several
  | flushed
deriving DecidableEq, Repr

/-- The take engine. Completion lists and the error log are oldest first. -/
structure Tke where
  queue : List TakeEntry
  completions : PerPort (List Completion)
  log : List Completion
  flushMark : Bool
  ts : TsCode
deriving DecidableEq, Repr

/-! ### The ingest link (chapter 09) -/

/-- A receiver mark (R146). -/
inductive Mark where
  | none
  | framing
  | check
  | length
  | stale
deriving DecidableEq, Repr

/-- An entry of the ingest queue (R146); an absent type, length or overrun mark is `none`. -/
structure IngestUnit where
  mark : Mark
  type_ : Option Byte
  length_ : Option Nat
  payload : List Byte
  overrun : Option Nat
deriving DecidableEq, Repr

/-- The flow-control symbols (R149). -/
inductive Symbol where
  | pause
  | continue_
deriving DecidableEq, Repr

/-- The kinds of loader error (R154). -/
inductive LoaderErrorKind where
  | type_
  | size
  | order
  | closed
  | full
  | range
deriving DecidableEq, Repr

/-- The last loader error record (R154). -/
structure LoaderError where
  kind : LoaderErrorKind
  type_ : Byte
  runId : Word16
  station : Nat
  since : Nat
  unread : Bool
deriving DecidableEq, Repr

/-- The ingest unit. `reception` is `none` in HUNTING and holds the bytes after the lead in RECEIVING. -/
structure Ing where
  reception : Option (List Byte)
  gap : Nat
  queue : List IngestUnit
  overrun : Option Nat
  halt : Nat
  resume : Nat
  inBand : Bool
  holdOff : Bool
  sending : Option Symbol
  waitingSymbol : Option Symbol
  grant : Nat
  lastError : Option LoaderError
deriving DecidableEq, Repr

/-! ### Output and redundant pairs (chapter 10) -/

/-- The strap role (R160). -/
inductive StrapRole where
  | sole
  | pairFirst
  | pairSecond
deriving DecidableEq, Repr

/-- The role (R160). -/
inductive Role where
  | sole
  | main
  | standby
  | handingOver
deriving DecidableEq, Repr

/-- The side of a negotiation (R167). -/
inductive Side where
  | mainSide
  | standbySide
deriving DecidableEq, Repr

/-- The origin of a negotiation (R167). -/
inductive Origin where
  | take
  | request
  | automatic
deriving DecidableEq, Repr

/-- The stage of a negotiation (R168, R169, R173). -/
inductive Stage where
  | requesting
  | released
  | waiting
  | offering
  | withdrawn
  | releaseReceived
deriving DecidableEq, Repr

/-- A SWAP entry joined to a negotiation, named by port and tag (R167). -/
structure JoinedEntry where
  port : Port
  tag : Nat
deriving DecidableEq, Repr

/-- A negotiation record (R167). `offerSeen` is the note of R168; `automatic` tells that the record was made by an
automatic negotiation, whatever its origin has become since (R170, log 27); `passed` counts the stage frames F−2, F−1,
F, F+1 that lie behind the record (log 18). -/
structure Negotiation where
  lineFrame : Word32
  side : Side
  origin : Origin
  automatic : Bool
  force : Bool
  stage : Stage
  offerSeen : Bool
  entries : List JoinedEntry
  passed : Nat
deriving DecidableEq, Repr

/-- A report in reception on the partner link: the bytes after its lead and the serving pulses since its lead (R163). -/
structure LinkReception where
  bytes : List Byte
  pulses : Nat
deriving DecidableEq, Repr

/-- The five values the composer hands over at a composition start (R135, R162). -/
structure Handed where
  frame : Word32
  airSeq : Word16
  runId : Word16
  cursor : Word32
  level : Nat
deriving DecidableEq, Repr

/-- The output and pair unit. -/
structure Opr where
  strap : StrapRole
  role : Role
  lineMode : LineMode
  frameLineMode : LineMode
  nextLineMode : LineMode
  partnerPresent : Bool
  partnerSeen : Bool
  missed : Nat
  lossCount : Nat
  inStep : Bool
  matchRun : Nat
  mismatchRun : Nat
  inHand : Option Report
  mains : List Report
  handed : Handed
  sent : Option Report
  link : Option LinkReception
  negotiation : Option Negotiation
  autoTakeover : Bool
deriving DecidableEq, Repr

/-! ### Control ports, notices and health (chapter 11) -/

/-- The reply statuses (R178). -/
inductive Status where
  | done
  | pending
  | busy
  | frameError
  | unknown
  | notHolder
  | locked
  | range
  | full
  | notFound
  | tagInUse
deriving DecidableEq, Repr

/-- A reply: its command code, status and data (R176). -/
structure Reply where
  code : Byte
  status : Status
  data : List Byte
deriving DecidableEq, Repr

/-- A set of notice classes (R180). -/
structure Notices where
  fault : Bool
  ingest : Bool
  hold : Bool
  take : Bool
  run : Bool
  step : Bool
deriving DecidableEq, Repr

/-- The pending classes that are stored: raised and cleared by events (R180). TAKE and INGEST follow conditions. -/
structure Raised where
  fault : Bool
  hold : Bool
  run : Bool
  step : Bool
deriving DecidableEq, Repr

/-- The fault causes (R183). -/
structure Causes where
  referenceLost : Bool
  partnerLost : Bool
  healthTripped : Bool
  roleChange : Bool
deriving DecidableEq, Repr

/-- The six health counters (the table before R184). -/
inductive Counter where
  | lateFrames
  | degradedEntries
  | ingestErrors
  | overruns
  | referenceLosses
  | stepLosses
deriving DecidableEq, Repr

/-- One value for each health counter. -/
structure PerCounter (α : Type) where
  lateFrames : α
  degradedEntries : α
  ingestErrors : α
  overruns : α
  referenceLosses : α
  stepLosses : α
deriving DecidableEq, Repr

/-- The control and notice unit. `receiver` is `none` in HUNTING and holds the bytes after the lead in RECEIVING. -/
structure Cnu where
  receiver : PerPort (Option (List Byte))
  reply : PerPort (Option Reply)
  waiting : PerPort (Option Reply)
  raised : PerPort Raised
  mask : PerPort Notices
  causes : PerPort Causes
  trippedSince : PerPort (PerCounter Bool)
  counters : PerCounter Nat
  thresholds : PerCounter Nat
  tripped : PerCounter Bool
  alarmEnable : Bool
deriving DecidableEq, Repr

/-! ### The whole part -/

/-- The state of the part, with the queue of commands that wait (the model's own). `palarm` is the level of the
PARTNER-ALARM input as last presented, true for asserted (log 6). -/
structure State where
  power : Power
  palarm : Bool
  fcy : Fcy
  fsw : Fsw
  fst : Fst
  pln : Pln
  tke : Tke
  cmp : Cmp
  ing : Ing
  opr : Opr
  cnu : Cnu
  pending : List Instr
deriving DecidableEq, Repr

/-- The reasons a command could fault: none. The manual describes no event that stops the part other than RESET and loss
of supply, which are states of it (log 26). -/
inductive Fault where
deriving DecidableEq, Repr

/-- The reasons a command is not carried out. -/
inductive Refusal where
  /-- Raised by an arm of exec whose command has no meaning yet. Safe: nothing is claimed of that command. -/
  | notModelled (mnemonic : String)
deriving DecidableEq, Repr

/-! ### Reset values -/

/-- FSW at hard reset (R31). -/
def Fsw.reset : Fsw where
  current := none
  next := none
  abandonment := 0#32
  slots := List.replicate 48 none

/-- FST at hard reset (R49). -/
def Fst.reset : Fst where
  stations := []
  segments := []

/-- PLN at hard reset (R71). -/
def Pln.reset : Pln where
  draft := Plan.default
  air := Plan.default
  hold := none
  waiting := .both false
  event := .both .none
  lock := none

/-- TKE at hard reset (R93). -/
def Tke.reset : Tke where
  queue := []
  completions := .both []
  log := []
  flushMark := false
  ts := .none

/-- CMP at hard reset (R138). -/
def Cmp.reset : Cmp where
  sticky := 0
  relax := 0
  previousLate := false

/-- CNU at hard reset (R188). -/
def Cnu.reset : Cnu where
  receiver := .both none
  reply := .both none
  waiting := .both none
  raised := .both { fault := false, hold := false, run := false, step := false }
  mask := .both { fault := true, ingest := true, hold := true, take := true, run := true, step := true }
  causes := .both { referenceLost := false, partnerLost := false, healthTripped := false, roleChange := false }
  trippedSince := .both { lateFrames := false, degradedEntries := false, ingestErrors := false, overruns := false,
                          referenceLosses := false, stepLosses := false }
  counters := { lateFrames := 0, degradedEntries := 0, ingestErrors := 0, overruns := 0, referenceLosses := 0,
                stepLosses := 0 }
  thresholds := { lateFrames := 25, degradedEntries := 10, ingestErrors := 50, overruns := 1, referenceLosses := 1,
                  stepLosses := 3 }
  tripped := { lateFrames := false, degradedEntries := false, ingestErrors := false, overruns := false,
               referenceLosses := false, stepLosses := false }
  alarmEnable := true

/-- OPR at hard reset, with the strap role and role it has read (R160, R174) and the values handed over for frame 1. -/
def Opr.reset (strap : StrapRole) (role : Role) : Opr where
  strap := strap
  role := role
  lineMode := .pass
  frameLineMode := .pass
  nextLineMode := .pass
  partnerPresent := false
  partnerSeen := false
  missed := 0
  lossCount := 0
  inStep := false
  matchRun := 0
  mismatchRun := 0
  inHand := none
  mains := []
  handed := { frame := 1#32, airSeq := 0#16, runId := 0#16, cursor := 0#32, level := 0 }
  sent := none
  link := none
  negotiation := none
  autoTakeover := true

/-- The composition of frame 1, begun at the end of hard reset from the default plan over an empty store (R10, R138). -/
def Composition.first (budget : Nat) : Composition where
  snap := { frame := 1#32, plan := Plan.default, current := none, frames := [], gauges := [], segments := [],
            lastGauges := [], queueLevel := 0 }
  level := 0
  cost := 400
  budget := budget
  stopped := false

/-- FCY at the end of a hard reset at moment t (R16). -/
def Fcy.reset (t : Time) (rate : FrameRate) : Fcy where
  rate := rate
  ref := .acquiring
  count := 0#32
  lastServing := t
  lastReference := none
  regain := 0
  timer := some (t + Config.nominal rate)
  inFlight := some (Composition.first (Config.budget rate))
  completed := none
  displayed := none

/-- ING at hard reset, with the CONTINUE symbol made at its end (R158) and the grant of frame period 0 (R138). -/
def Ing.reset (rate : FrameRate) : Ing where
  reception := none
  gap := 0
  queue := []
  overrun := none
  halt := 48
  resume := 16
  inBand := true
  holdOff := false
  sending := some .continue_
  waitingSymbol := none
  grant := Config.budget rate - 400
  lastError := none

/-- The part right after a hard reset that ended at moment 0 with FRATE, ROLE1 and ROLE0 low and PARTNER-ALARM released
(DESIGN CHOICE of the straps, the origin of time and the input level, log 7); nothing is waiting. -/
def State.reset : State where
  power := .running
  palarm := false
  fcy := Fcy.reset 0 .fps25
  fsw := Fsw.reset
  fst := Fst.reset
  pln := Pln.reset
  tke := Tke.reset
  cmp := Cmp.reset
  ing := Ing.reset .fps25
  opr := Opr.reset .sole .sole
  cnu := Cnu.reset
  pending := []

end Sys2Proof.Machine
end

