-- ==== Sys2Proof/Machine/Operands.lean ====
section
/-! DEFINITION. Machine/Operands.lean: every byte layout of the manual, each in one place: little-endian fields, the
CRC-16, request and reply frames (R176), station records (chapter 03), ingest payloads (R141), partner reports (R161),
and the codes of statuses, kinds and states in replies. -/

namespace Sys2Proof.Machine

/-! ### Numbers in bytes: least significant byte first (00_scope.md, Numbers and bytes) -/

/-- A byte of value n modulo 256. -/
def byte (n : Nat) : Byte := BitVec.ofNat 8 n

/-- The two-byte value of bytes 0 and 1. -/
def le16 (b0 b1 : Byte) : Word16 := b1 ++ b0

/-- The four-byte value of bytes 0 to 3. -/
def le32 (b0 b1 b2 b3 : Byte) : Word32 := (b3 ++ b2) ++ (b1 ++ b0)

/-- Two bytes of a word, the least significant first. -/
def bytes16 (w : Word16) : List Byte := [w.extractLsb' 0 8, w.extractLsb' 8 8]

/-- Four bytes of a word, the least significant first. -/
def bytes32 (w : Word32) : List Byte :=
  [w.extractLsb' 0 8, w.extractLsb' 8 8, w.extractLsb' 16 8, w.extractLsb' 24 8]

/-- Two bytes of a natural number. -/
def nat16 (n : Nat) : List Byte := bytes16 (BitVec.ofNat 16 n)

/-- Two bytes of a signed number. -/
def int16 (n : Int) : List Byte := bytes16 (BitVec.ofInt 16 n)

/-- Four bytes of a signed number. -/
def int32 (n : Int) : List Byte := bytes32 (BitVec.ofInt 32 n)

/-- The number of a bit. -/
def bit (b : Bool) : Nat := if b then 1 else 0

/-- The number whose bits, bit 0 first, are given. -/
def bits : List Bool → Nat
  | [] => 0
  | b :: rest => bit b + 2 * bits rest

/-- A byte of flags, bit 0 first; the bits above the list read 0. -/
def flagByte (l : List Bool) : Byte := byte (bits l)

/-- A clamp into lo..hi (00_scope.md, Arithmetic). -/
def clampInt (lo hi v : Int) : Int := if v < lo then lo else if hi < v then hi else v

/-- A clamp of natural numbers into lo..hi. -/
def clampNat (lo hi v : Nat) : Nat := if v < lo then lo else if hi < v then hi else v

/-- The height of a view, floor(W × 9 / 16) (R51). -/
def heightOf (w : Nat) : Nat := w * 9 / 16

/-- H of a plan (R51). -/
def Plan.h (p : Plan) : Nat := heightOf p.w

/-! ### CRC-16 (R141, R161): polynomial x¹⁶ + x¹² + x⁵ + 1, register from 0xFFFF, most significant bit first -/

/-- One bit of the division. -/
def crcBit (r : Word16) : Word16 := if r.msb then (r <<< 1) ^^^ 0x1021#16 else r <<< 1

/-- One byte enters the register. -/
def crcByte (r : Word16) (b : Byte) : Word16 :=
  crcBit (crcBit (crcBit (crcBit (crcBit (crcBit (crcBit (crcBit (r ^^^ (b.setWidth 16 <<< 8)))))))))

/-- The CRC of a list of bytes in the order sent. -/
def crc16 (bs : List Byte) : Word16 := bs.foldl crcByte 0xFFFF#16

/-! ### Codes -/

/-- The codes of the reply statuses (R178). -/
def Status.code : Status → Byte
  | .done => 0 | .pending => 1 | .busy => 2 | .frameError => 3 | .unknown => 4 | .notHolder => 5
  | .locked => 6 | .range => 7 | .full => 8 | .notFound => 9 | .tagInUse => 10

/-- The codes of the completion statuses (R88). -/
def TakeStatus.code : TakeStatus → Byte
  | .done => 0 | .doneLate => 1 | .doneHeld => 2 | .tooLate => 3 | .expired => 4 | .superseded => 5
  | .notReady => 6 | .flushed => 7 | .notInStep => 8 | .swapFailed => 9

/-- The kind a completion record names. -/
def TakeKind.sort : TakeKind → TakeSort
  | .publish _ => .publish | .sweep _ _ => .sweep | .adopt => .adopt | .line _ => .line | .swap => .swap

/-- The codes of the kinds (R73). -/
def TakeSort.code : TakeSort → Byte
  | .publish => 0 | .sweep => 1 | .adopt => 2 | .line => 3 | .swap => 4

/-- The codes of the line modes (R73, R173). -/
def LineMode.code : LineMode → Byte
  | .live => 0 | .pass => 1 | .check => 2

/-- The line mode of a code; a code above 2 names none (R73). -/
def LineMode.ofCode : Nat → Option LineMode
  | 0 => some .live | 1 => some .pass | 2 => some .check | _ => none

/-- The codes of the reference states (R15). -/
def RefState.code : RefState → Byte
  | .acquiring => 0 | .locked => 1 | .lost => 2 | .regaining => 3

/-- The codes of the roles (R173). -/
def Role.code : Role → Byte
  | .sole => 0 | .main => 1 | .standby => 2 | .handingOver => 3

/-- The codes of the strap roles (R173). -/
def StrapRole.code : StrapRole → Byte
  | .sole => 0 | .pairFirst => 1 | .pairSecond => 2

/-- The codes of the negotiation stages (R173). -/
def Stage.code : Stage → Byte
  | .requesting => 1 | .released => 2 | .waiting => 3 | .offering => 4 | .withdrawn => 5 | .releaseReceived => 6

/-- The codes of the origins (R173). -/
def Origin.code : Origin → Nat
  | .take => 0 | .request => 1 | .automatic => 2

/-- The codes of the hold events (R182). -/
def HoldEvent.code : HoldEvent → Byte
  | .none => 0 | .granted => 1 | .lost => 2

/-- The code of a port that holds or has set: 0 for none, 1 for A, 2 for B (R63, R65, R69). -/
def portCode : Option Port → Byte
  | none => 0 | some .a => 1 | some .b => 2

/-- The codes of the segment classes (R45). -/
def SegClass.code : SegClass → Byte
  | .coast => 0 | .island => 1 | .area => 2 | .minor => 3

/-- The class of a code; a code above 3 names none (R45). -/
def SegClass.ofCode : Nat → Option SegClass
  | 0 => some .coast | 1 => some .island | 2 => some .area | 3 => some .minor | _ => none

/-- The codes of the receiver marks (R156). -/
def Mark.code : Mark → Byte
  | .none => 0 | .framing => 1 | .check => 2 | .length => 3 | .stale => 4

/-- The codes of the loader error kinds (R156); 0 is none. -/
def LoaderErrorKind.code : LoaderErrorKind → Byte
  | .type_ => 1 | .size => 2 | .order => 3 | .closed => 4 | .full => 5 | .range => 6

/-- The symbols' characters (R149). -/
def Symbol.char : Symbol → Byte
  | .pause => 0xE1 | .continue_ => 0xE2

/-- The codes of the station sources (R41). -/
def Source.code : Source → Nat
  | .loader => 0 | .portA => 1 | .portB => 2

/-- The source a control port writes with (R38). -/
def Source.ofPort : Port → Source
  | .a => .portA | .b => .portB

/-- The codes of the wind statuses (R136). -/
def WindStatus.code : WindStatus → Byte
  | .drawn => 0 | .heldFirst => 1 | .heldLast => 2 | .noData => 3 | .off => 4

/-- The codes of the gauge statuses (R136). -/
def GaugeStatus.code : GaugeStatus → Byte
  | .live => 0 | .held => 1 | .noStation => 2

/-- The codes of the trends (R136). -/
def Trend.code : Trend → Nat
  | .slack => 0 | .rising => 1 | .falling => 2

/-- The TS code on the lines (TS1, TS0) (R92). -/
def TsCode.lines : TsCode → Bool × Bool
  | .none => (false, false) | .one => (false, true) | .several => (true, true) | .flushed => (true, false)

/-- A layer set as a byte: bit 0 COAST, bit 1 WIND, bit 2 TIDE, bit 3 AREAS (R59, R63). -/
def Layers.byte (l : Layers) : Byte := flagByte [l.coast, l.wind, l.tide, l.areas]

/-- The layer set of a byte; bits 4..7 are ignored (R59). -/
def Layers.ofByte (b : Byte) : Layers where
  coast := b.getLsbD 0
  wind := b.getLsbD 1
  tide := b.getLsbD 2
  areas := b.getLsbD 3

/-! ### Request and reply frames (R176) -/

/-- The sum of bytes modulo 256. -/
def sumBytes (bs : List Byte) : Byte := bs.foldl (· + ·) 0

/-- The check byte that makes the sum 0 modulo 256. -/
def checkByte (bs : List Byte) : Byte := 0 - sumBytes bs

/-- The characters of a request after its lead 0x5A: length, command code, parameters, check. -/
def requestBody (code : Byte) (params : List Byte) : List Byte :=
  let body := byte (params.length + 1) :: code :: params
  body ++ [checkByte body]

/-- A reply as sent: lead 0xA5, length, command code, status, data, check. -/
def Reply.frame (r : Reply) : List Byte :=
  let body := byte (r.data.length + 2) :: r.code :: r.status.code :: r.data
  0xA5 :: body ++ [checkByte body]

/-! ### Station records (chapter 03, Station record format) -/

/-- The constituents of a record as carried, eight bytes each. -/
def parseConstituents : List Byte → List Constituent
  | o0 :: o1 :: o2 :: o3 :: a0 :: a1 :: p0 :: p1 :: rest =>
    { omega := le32 o0 o1 o2 o3, amp := (le16 a0 a1).toNat, phase := le16 p0 p1 } :: parseConstituents rest
  | _ => []

/-- A station record as carried, before its clamps; `k` is the constituent count of byte 7. -/
structure CarriedStation where
  number : Nat
  z0 : Int
  hmin : Int
  hmax : Int
  k : Nat
  constituents : List Constituent
deriving DecidableEq, Repr

/-- The carried record of at least 8 bytes whose length is 8 + 8k for the count k in byte 7 (R37, R38, R153). -/
def parseStation : List Byte → Option CarriedStation
  | n :: z0 :: z1 :: l0 :: l1 :: h0 :: h1 :: k :: rest =>
    if rest.length = 8 * k.toNat then
      some { number := n.toNat, z0 := (le16 z0 z1).toInt, hmin := (le16 l0 l1).toInt, hmax := (le16 h0 h1).toInt,
             k := k.toNat, constituents := parseConstituents rest }
    else none
  | _ => none

/-- A constituent in the record format. -/
def Constituent.bytes (c : Constituent) : List Byte := bytes32 c.omega ++ nat16 c.amp ++ bytes16 c.phase

/-- A station record in the record format, with every value as stored (R41). -/
def Station.bytes (r : Station) : List Byte :=
  byte r.number :: int16 r.z0 ++ int16 r.hmin ++ int16 r.hmax ++ byte r.constituents.length ::
    (r.constituents.map Constituent.bytes).flatten

/-! ### Points and ids in parameters (R45, R61) -/

/-- The points of LOAD SEGMENT, four bytes each. -/
def parsePoints : List Byte → List Point
  | x0 :: x1 :: y0 :: y1 :: rest => { x := (le16 x0 x1).toNat, y := (le16 y0 y1).toNat } :: parsePoints rest
  | _ => []

/-- The ids of SET AREAS, two bytes each. -/
def parseIds : List Byte → List Nat
  | b0 :: b1 :: rest => (le16 b0 b1).toNat :: parseIds rest
  | _ => []

/-! ### Ingest payloads (R141) -/

/-- The pairs of a WIND ROW, four bytes each, signed. -/
def parsePairs : List Byte → List WindPair
  | u0 :: u1 :: v0 :: v1 :: rest => { u := (le16 u0 u1).toInt, v := (le16 v0 v1).toInt } :: parsePairs rest
  | _ => []

/-! ### Partner reports (R161) -/

/-- The role of a role byte; a byte outside 1..3 names none (R163). -/
def reportRoleOfByte (b : Byte) : Option ReportRole :=
  if b = 1 then some .main else if b = 2 then some .standby else if b = 3 then some .handingOver else none

/-- The role byte (R161). -/
def reportRoleCode : ReportRole → Byte
  | .main => 1 | .standby => 2 | .handingOver => 3

/-- The swap word of its byte; a byte above 3 asks for nothing (DESIGN CHOICE, log 21). -/
def swapOfByte (b : Byte) : SwapWord :=
  if b = 1 then .request else if b = 2 then .offer else if b = 3 then .release else .none

/-- The swap word's byte (R161). -/
def swapCode : SwapWord → Byte
  | .none => 0 | .request => 1 | .offer => 2 | .release => 3

/-- Bytes 1 to 20 of a report. -/
def reportBody (r : Report) : List Byte :=
  bytes32 r.frame ++ reportRoleCode r.role :: bytes16 r.airSeq ++ bytes16 r.runId ++ bytes32 r.cursor ++
    [r.level, flagByte [r.alarm], swapCode r.swap] ++ bytes32 r.lineFrame

/-- A report as sent: 23 bytes, the CRC least significant byte first (R161). -/
def reportBytes (r : Report) : List Byte := 0x96 :: reportBody r ++ bytes16 (crc16 (reportBody r))

/-- The report of the 22 bytes after a lead, when its CRC agrees and its role byte is one of 1..3 (R163). -/
def parseReport : List Byte → Option Report
  | [f0, f1, f2, f3, role, s0, s1, r0, r1, c0, c1, c2, c3, level, flags, swap, l0, l1, l2, l3, k0, k1] =>
    if crc16 [f0, f1, f2, f3, role, s0, s1, r0, r1, c0, c1, c2, c3, level, flags, swap, l0, l1, l2, l3] = le16 k0 k1 then
      (reportRoleOfByte role).map fun role =>
        { frame := le32 f0 f1 f2 f3, role := role, airSeq := le16 s0 s1, runId := le16 r0 r1,
          cursor := le32 c0 c1 c2 c3, level := level, alarm := flags.getLsbD 0, swap := swapOfByte swap,
          lineFrame := le32 l0 l1 l2 l3 }
    else none
  | _ => none

end Sys2Proof.Machine
end

