-- ==== Sys2Proof/Machine/Flags.lean ====
section
/-! DEFINITION. Machine/Flags.lean: notices, fault causes and health counters (chapter 11), and the lines that are views
of the state: ATTN, ALARM, and what the line and monitor outputs carry. -/

namespace Sys2Proof.Machine

/-! ### Six values, one for each counter -/

/-- The value of one counter. -/
def PerCounter.get {α : Type} (v : PerCounter α) : Counter → α
  | .lateFrames => v.lateFrames
  | .degradedEntries => v.degradedEntries
  | .ingestErrors => v.ingestErrors
  | .overruns => v.overruns
  | .referenceLosses => v.referenceLosses
  | .stepLosses => v.stepLosses

/-- The values with one counter's replaced. -/
def PerCounter.set {α : Type} (v : PerCounter α) (c : Counter) (x : α) : PerCounter α :=
  match c with
  | .lateFrames => { v with lateFrames := x }
  | .degradedEntries => { v with degradedEntries := x }
  | .ingestErrors => { v with ingestErrors := x }
  | .overruns => { v with overruns := x }
  | .referenceLosses => { v with referenceLosses := x }
  | .stepLosses => { v with stepLosses := x }

/-- The values in counter order. -/
def PerCounter.toList {α : Type} (v : PerCounter α) : List α :=
  [v.lateFrames, v.degradedEntries, v.ingestErrors, v.overruns, v.referenceLosses, v.stepLosses]

/-- The same value for every counter. -/
def PerCounter.all {α : Type} (x : α) : PerCounter α where
  lateFrames := x
  degradedEntries := x
  ingestErrors := x
  overruns := x
  referenceLosses := x
  stepLosses := x

/-- The counter of an index; an index above 5 names none (R185). -/
def Counter.ofIndex : Nat → Option Counter
  | 0 => some .lateFrames | 1 => some .degradedEntries | 2 => some .ingestErrors | 3 => some .overruns
  | 4 => some .referenceLosses | 5 => some .stepLosses | _ => none

/-! ### Fault causes and counters -/

/-- FAULT is raised for both control ports, adding a cause to each port's set (R183). -/
def raiseFault (add : Causes → Causes) (s : State) : State :=
  { s with cnu := { s.cnu with
      raised := { a := { s.cnu.raised.a with fault := true }, b := { s.cnu.raised.b with fault := true } }
      causes := { a := add s.cnu.causes.a, b := add s.cnu.causes.b } } }

/-- The cause REFERENCE LOST. -/
def Causes.addReference (c : Causes) : Causes := { c with referenceLost := true }
/-- The cause PARTNER LOST. -/
def Causes.addPartner (c : Causes) : Causes := { c with partnerLost := true }
/-- The cause HEALTH TRIPPED. -/
def Causes.addHealth (c : Causes) : Causes := { c with healthTripped := true }
/-- The cause ROLE CHANGE. -/
def Causes.addRole (c : Causes) : Causes := { c with roleChange := true }

/-- The trip condition of R184: the threshold is not 0, the counter is at or above it, and its flag is clear. -/
def trips (c : Counter) (s : State) : Bool :=
  s.cnu.thresholds.get c ≠ 0 && s.cnu.thresholds.get c ≤ s.cnu.counters.get c && !s.cnu.tripped.get c

/-- The test of a counter after an increase or a new threshold (R184, R185). -/
def testTrip (c : Counter) (s : State) : State :=
  if trips c s then
    raiseFault Causes.addHealth
      { s with cnu := { s.cnu with
          tripped := s.cnu.tripped.set c true
          trippedSince := { a := s.cnu.trippedSince.a.set c true, b := s.cnu.trippedSince.b.set c true } } }
  else s

/-- An increase of a health counter, saturating at 65,535, and its test (R184). -/
def increase (c : Counter) (s : State) : State :=
  testTrip c { s with cnu := { s.cnu with
    counters := s.cnu.counters.set c (min 65535 (s.cnu.counters.get c + 1)) } }

/-! ### Notices (R180) -/

/-- The RUN notice is raised for both ports (R24). -/
def raiseRun (s : State) : State :=
  { s with cnu := { s.cnu with
      raised := { a := { s.cnu.raised.a with run := true }, b := { s.cnu.raised.b with run := true } } } }

/-- The STEP notice is raised for both ports (R166). -/
def raiseStep (s : State) : State :=
  { s with cnu := { s.cnu with
      raised := { a := { s.cnu.raised.a with step := true }, b := { s.cnu.raised.b with step := true } } } }

/-- The HOLD notice is raised for one port (R68). -/
def raiseHold (p : Port) (s : State) : State :=
  { s with cnu := { s.cnu with raised := s.cnu.raised.set p { s.cnu.raised.get p with hold := true } } }

/-- The stored classes of one port are rewritten. -/
def updateRaised (p : Port) (f : Raised → Raised) (s : State) : State :=
  { s with cnu := { s.cnu with raised := s.cnu.raised.set p (f (s.cnu.raised.get p)) } }

/-- Error anywhere: an entry of the ingest queue has a receiver mark (R146). -/
def errorAnywhere (s : State) : Bool := s.ing.queue.any fun u => u.mark ≠ .none

/-- The last loader error record is unread (R154). -/
def loaderErrorUnread (s : State) : Bool :=
  match s.ing.lastError with
  | none => false
  | some e => e.unread

/-- The condition of the INGEST notice, one for the part (R155). -/
def ingestCondition (s : State) : Bool := errorAnywhere s || loaderErrorUnread s

/-- The pending set of a port (R180): TAKE while its completion list is non-empty (R88), INGEST while R155's condition
holds, the others as raised. -/
def pendingSet (s : State) (p : Port) : Notices where
  fault := (s.cnu.raised.get p).fault
  ingest := ingestCondition s
  hold := (s.cnu.raised.get p).hold
  take := !(s.tke.completions.get p).isEmpty
  run := (s.cnu.raised.get p).run
  step := (s.cnu.raised.get p).step

/-- A set of classes as a byte: FAULT, INGEST, HOLD, TAKE, RUN, STEP from bit 0 (R181). -/
def Notices.byte (n : Notices) : Byte := flagByte [n.fault, n.ingest, n.hold, n.take, n.run, n.step]

/-- The set of a byte; bits 6..7 are ignored (R181). -/
def Notices.ofByte (b : Byte) : Notices where
  fault := b.getLsbD 0
  ingest := b.getLsbD 1
  hold := b.getLsbD 2
  take := b.getLsbD 3
  run := b.getLsbD 4
  step := b.getLsbD 5

/-- The classes in both sets. -/
def Notices.inter (m n : Notices) : Notices where
  fault := m.fault && n.fault
  ingest := m.ingest && n.ingest
  hold := m.hold && n.hold
  take := m.take && n.take
  run := m.run && n.run
  step := m.step && n.step

/-- The pending and enabled classes of a port. -/
def shownSet (s : State) (p : Port) : Notices := (pendingSet s p).inter (s.cnu.mask.get p)

/-- The ATTN line of a port: asserted while a class is both pending and enabled (R180); released while the part does not
run (R188). -/
def attn (s : State) (p : Port) : Bool :=
  let n := shownSet s p
  s.power = .running && (n.fault || n.ingest || n.hold || n.take || n.run || n.step)

/-! ### ALARM (R172) -/

/-- A health counter is tripped. -/
def anyTripped (s : State) : Bool := s.cnu.tripped.toList.any id

/-- The ALARM output: the alarm enable is on and a counter is tripped, or the reference state is LOST; it reads asserted
while RESET is asserted and while the part is unpowered (R172). -/
def alarm (s : State) : Bool :=
  s.power ≠ .running || (s.cnu.alarmEnable && anyTripped s) || s.fcy.ref = .lost

/-! ### Outputs (R159) -/

/-- The part is in a role that drives the line, and runs (R159). -/
def lineDriven (s : State) : Bool := s.power = .running && (s.opr.role = .main || s.opr.role = .sole)

/-- What an output carries. -/
inductive OutputContent where
  /-- high impedance -/
  | released
  | background
  /-- a chart over the background -/
  | chartOver (c : Chart)
deriving DecidableEq, Repr

/-- The displayed chart over the background; the EMPTY chart draws nothing, so the output carries the background
(R14). -/
def shownChart : Option Chart → OutputContent
  | none => .background
  | some c => .chartOver c

/-- The line output (R14, R159). -/
def lineOutput (s : State) : OutputContent :=
  if lineDriven s then
    match s.opr.frameLineMode with
    | .live => shownChart s.fcy.displayed
    | .pass => .background
    | .check => .background
  else .released

/-- The monitor output while the part runs, in any role (R14, R159). -/
def monitorOutput (s : State) : OutputContent :=
  match s.opr.frameLineMode with
  | .live => shownChart s.fcy.displayed
  | .pass => .background
  | .check => shownChart s.fcy.displayed

/-- The last frame record: the displayed chart's (R12, R135). -/
def lastRecord (s : State) : Option FrameRecord := s.fcy.displayed.map Chart.record

end Sys2Proof.Machine
end

