-- ==== Sys2Proof/Machine/Ops.lean ====
section
/-! DEFINITION. Machine/Ops.lean: the operations the families share: rewriting one block of the state, the reached test
(R3), carrying out a request and sending its reply (R178, R179), and making the completion record of a take (R88). -/

namespace Sys2Proof.Machine

/-- The outcome of a command. -/
abbrev Result := Host.Outcome State Fault Refusal

/-! ### Rewriting one block -/

/-- FCY is rewritten. -/
def State.onFcy (s : State) (f : Fcy → Fcy) : State := { s with fcy := f s.fcy }
/-- FSW is rewritten. -/
def State.onFsw (s : State) (f : Fsw → Fsw) : State := { s with fsw := f s.fsw }
/-- FST is rewritten. -/
def State.onFst (s : State) (f : Fst → Fst) : State := { s with fst := f s.fst }
/-- PLN is rewritten. -/
def State.onPln (s : State) (f : Pln → Pln) : State := { s with pln := f s.pln }
/-- TKE is rewritten. -/
def State.onTke (s : State) (f : Tke → Tke) : State := { s with tke := f s.tke }
/-- CMP is rewritten. -/
def State.onCmp (s : State) (f : Cmp → Cmp) : State := { s with cmp := f s.cmp }
/-- ING is rewritten. -/
def State.onIng (s : State) (f : Ing → Ing) : State := { s with ing := f s.ing }
/-- OPR is rewritten. -/
def State.onOpr (s : State) (f : Opr → Opr) : State := { s with opr := f s.opr }
/-- CNU is rewritten. -/
def State.onCnu (s : State) (f : Cnu → Cnu) : State := { s with cnu := f s.cnu }

/-- An event of a part that runs; while RESET is asserted or without supply nothing happens (R16, R188; log 11). -/
def whileRunning (f : State → State) (s : State) : State := if s.power = .running then f s else s

/-! ### Frames -/

/-- Frame d is reached at count p: (p − d) mod 2³² < 2³¹ (R3). -/
def reached (d p : Word32) : Bool := (p - d).toNat < 2147483648

/-! ### Requests and replies -/

/-- A block's answer to a request: the status, the data and the state it leaves. -/
structure Answer where
  status : Status
  data : List Byte
  state : State

/-- An answer without data that changes nothing. -/
def refuse (status : Status) (s : State) : Answer := { status := status, data := [], state := s }

/-- DONE with data. -/
def done (data : List Byte) (s : State) : Answer := { status := .done, data := data, state := s }

/-- A block's rule for one command code, from the port and the parameter bytes. -/
abbrev Handler := Port → List Byte → State → Answer

/-- The port returns to HUNTING (R177). -/
def endFrame (p : Port) (s : State) : State :=
  s.onCnu fun c => { c with receiver := c.receiver.set p none }

/-- A reply is made: sent at once when none is in progress (R179). -/
def sendReply (p : Port) (r : Reply) (s : State) : State :=
  s.onCnu fun c => { c with reply := c.reply.set p (some r) }

/-- A reply made while one is in progress: it waits, or, when one waits already, the frame is discarded (R179). -/
def holdReply (p : Port) (r : Reply) (s : State) : State :=
  match s.cnu.waiting.get p with
  | none => s.onCnu fun c => { c with waiting := c.waiting.set p (some r) }
  | some _ => s

/-- A reply of a frame that has no effect: sent, or held behind the reply in progress (R179). -/
def postReply (p : Port) (r : Reply) (s : State) : State :=
  match s.cnu.reply.get p with
  | none => sendReply p r s
  | some _ => holdReply p r s

/-- A request with a known code completes: it executes and its reply is sent, or, while a reply is in progress, it is not
executed and BUSY waits (R178, R179). -/
def completeRequest (p : Port) (code : Byte) (params : List Byte) (h : Handler) (s : State) : State :=
  match s.cnu.reply.get p with
  | none =>
    let a := h p params (endFrame p s)
    sendReply p { code := code, status := a.status, data := a.data } a.state
  | some _ => holdReply p { code := code, status := .busy, data := [] } (endFrame p s)

/-- A row of the table that is a request: its frame has just completed on a running part (log 12). -/
def request (p : Port) (code : Byte) (params : List Byte) (h : Handler) (s : State) : State :=
  whileRunning (completeRequest p code params h) s

/-! ### Completions -/

/-- The queue without the entry of a port and tag. -/
def withoutEntry (p : Port) (tag : Nat) (q : List TakeEntry) : List TakeEntry :=
  q.filter fun e => !(e.port = p && e.tag = tag)

/-- The take error log with one more record, of which the eight most recent are kept (R90). -/
def appendLog (log : List Completion) (c : Completion) : List Completion :=
  (log ++ [c]).drop (log.length + 1 - Config.takeLogSize)

/-- The log after a record: only statuses other than DONE are kept in it (R88). -/
def logUnlessDone (log : List Completion) (c : Completion) : List Completion :=
  if c.status = .done then log else appendLog log c

/-- A completion record is appended to its port's list, and to the log unless its status is DONE (R88). -/
def recordCompletion (c : Completion) (s : State) : State :=
  s.onTke fun t => { t with
    completions := t.completions.set c.port (t.completions.get c.port ++ [c])
    log := logUnlessDone t.log c }

/-- The completion record of an entry (R88). -/
def completionOf (e : TakeEntry) (status : TakeStatus) (applied : Word32) : Completion where
  port := e.port
  tag := e.tag
  sort := e.kind.sort
  status := status
  applied := applied
  due := e.due

/-- A take completes: it leaves the queue and its record is made (R76, R88). -/
def completeTake (e : TakeEntry) (status : TakeStatus) (applied : Word32) (s : State) : State :=
  recordCompletion (completionOf e status applied)
    (s.onTke fun t => { t with queue := withoutEntry e.port e.tag t.queue })

/-- The entry of a port and tag. -/
def findEntry (p : Port) (tag : Nat) (q : List TakeEntry) : Option TakeEntry :=
  q.find? fun e => e.port = p && e.tag = tag

/-- A joined SWAP entry completes with the record's outcome (R87, R167). -/
def completeJoined (status : TakeStatus) (applied : Word32) (s : State) (j : JoinedEntry) : State :=
  match findEntry j.port j.tag s.tke.queue with
  | none => s
  | some e => completeTake e status applied s

/-! ### Places in lists -/

/-- A list with the element at index i replaced. -/
def setAt {α : Type} (l : List α) (i : Nat) (x : α) : List α := l.set i x

/-- An element put into an ascending list by its key, replacing the one of the same key (R34, R43). -/
def insertByKey {α : Type} (key : α → Nat) (x : α) : List α → List α
  | [] => [x]
  | y :: rest =>
    if key x < key y then x :: y :: rest
    else if key x = key y then x :: rest
    else y :: insertByKey key x rest

end Sys2Proof.Machine
end

