-- ==== Sys2Proof/Machine/Tide.lean ====
section
/-! DEFINITION. Machine/Tide.lean: the tide computation (chapter 06): the cosine table, heights, levels, rates, trends,
curves and gauge results, in exact integers with the rounding each rule states. -/

namespace Sys2Proof.Machine

/-! ### The cosine table (R97)

The first quarter is computed outside from 32,767 × cos(2πj / 1,024), rounded to nearest; the rest follows by the
symmetries of R97 (DEDUCED, log 24). -/

/-- Entries 0 to 31. -/
def quarterWave0 : List Nat :=
  [32767, 32766, 32765, 32761, 32757, 32752, 32745, 32737, 32728, 32717, 32705, 32692, 32678, 32663, 32646,
   32628, 32609, 32589, 32567, 32545, 32521, 32495, 32469, 32441, 32412, 32382, 32351, 32318, 32285, 32250,
   32213, 32176]

/-- Entries 32 to 63. -/
def quarterWave1 : List Nat :=
  [32137, 32098, 32057, 32014, 31971, 31926, 31880, 31833, 31785, 31736, 31685, 31633, 31580, 31526, 31470,
   31414, 31356, 31297, 31237, 31176, 31113, 31050, 30985, 30919, 30852, 30783, 30714, 30643, 30571, 30498,
   30424, 30349]

/-- Entries 64 to 95. -/
def quarterWave2 : List Nat :=
  [30273, 30195, 30117, 30037, 29956, 29874, 29791, 29706, 29621, 29534, 29447, 29358, 29268, 29177, 29085,
   28992, 28898, 28803, 28706, 28609, 28510, 28411, 28310, 28208, 28105, 28001, 27896, 27790, 27683, 27575,
   27466, 27356]

/-- Entries 96 to 127. -/
def quarterWave3 : List Nat :=
  [27245, 27133, 27019, 26905, 26790, 26674, 26556, 26438, 26319, 26198, 26077, 25955, 25832, 25708, 25582,
   25456, 25329, 25201, 25072, 24942, 24811, 24680, 24547, 24413, 24279, 24143, 24007, 23870, 23731, 23592,
   23452, 23311]

/-- Entries 128 to 159. -/
def quarterWave4 : List Nat :=
  [23170, 23027, 22884, 22739, 22594, 22448, 22301, 22154, 22005, 21856, 21705, 21554, 21403, 21250, 21096,
   20942, 20787, 20631, 20475, 20317, 20159, 20000, 19841, 19680, 19519, 19357, 19195, 19032, 18868, 18703,
   18537, 18371]

/-- Entries 160 to 191. -/
def quarterWave5 : List Nat :=
  [18204, 18037, 17869, 17700, 17530, 17360, 17189, 17018, 16846, 16673, 16499, 16325, 16151, 15976, 15800,
   15623, 15446, 15269, 15090, 14912, 14732, 14553, 14372, 14191, 14010, 13828, 13645, 13462, 13279, 13094,
   12910, 12725]

/-- Entries 192 to 223. -/
def quarterWave6 : List Nat :=
  [12539, 12353, 12167, 11980, 11793, 11605, 11417, 11228, 11039, 10849, 10659, 10469, 10278, 10087, 9896, 9704,
   9512, 9319, 9126, 8933, 8739, 8545, 8351, 8157, 7962, 7767, 7571, 7375, 7179, 6983, 6786, 6590]

/-- Entries 224 to 255. -/
def quarterWave7 : List Nat :=
  [6393, 6195, 5998, 5800, 5602, 5404, 5205, 5007, 4808, 4609, 4410, 4210, 4011, 3811, 3612, 3412, 3212, 3012,
   2811, 2611, 2410, 2210, 2009, 1809, 1608, 1407, 1206, 1005, 804, 603, 402, 201]

/-- Entries 256 to 256. -/
def quarterWave8 : List Nat :=
  [0]

/-- Entries 0 to 256: the first quarter of the wave. -/
def quarterWave : List Nat :=
  quarterWave0 ++ quarterWave1 ++ quarterWave2 ++ quarterWave3 ++ quarterWave4 ++ quarterWave5 ++
    quarterWave6 ++ quarterWave7 ++ quarterWave8

/-- Entry j of the table, j = 0..1,023 (R97). -/
def cosEntry (j : Nat) : Int :=
  if j ≤ 256 then (quarterWave.getD j 0 : Int)
  else if j ≤ 512 then -(quarterWave.getD (512 - j) 0 : Int)
  else if j ≤ 768 then -(quarterWave.getD (j - 512) 0 : Int)
  else (quarterWave.getD (1024 - j) 0 : Int)

/-! ### Angles (R96, R98) -/

/-- The angle of a constituent at time t, in 2⁻³² turn (R96). -/
def angle (c : Constituent) (t : Word32) : Nat := (c.phase.toNat * 65536 + c.omega.toNat * t.toNat) % 4294967296

/-- The table index of a constituent at time t: the angle's top ten bits (R98). -/
def tableIndex (c : Constituent) (t : Word32) : Nat := angle c t / 4194304

/-- The cosine of a constituent at time t (R98). -/
def cosOf (c : Constituent) (t : Word32) : Int := cosEntry (tableIndex c t)

/-- The sine: the cosine a quarter turn earlier (R98). -/
def sinOf (c : Constituent) (t : Word32) : Int := cosEntry ((tableIndex c t + 768) % 1024)

/-! ### Height and level (R99, R100) -/

/-- n / d to the nearest integer, ties away from zero (R99). -/
def roundAway (n : Int) (d : Nat) : Int :=
  if n < 0 then -(((n.natAbs * 2 + d) / (2 * d) : Nat) : Int) else (((n.natAbs * 2 + d) / (2 * d) : Nat) : Int)

/-- The height term of a constituent (R99). -/
def heightTerm (t : Word32) (c : Constituent) : Int := roundAway (c.amp * cosOf c t) 32768

/-- The sum of a list of integers. -/
def sumInt (l : List Int) : Int := l.foldr (· + ·) 0

/-- The height at time t, in millimetres, unclamped (R99). -/
def heightAt (st : Station) (t : Word32) : Int := st.z0 + sumInt (st.constituents.map (heightTerm t))

/-- The height is beyond the gauge's span (R100). -/
def offScale (st : Station) (h : Int) : Bool := h < st.hmin || st.hmax < h

/-- The gauge level of a height, percent of the span, rounded half up (R100). -/
def gaugeLevel (st : Station) (h : Int) : Nat :=
  let shown := clampInt st.hmin st.hmax h
  ((200 * (shown - st.hmin) + (st.hmax - st.hmin)) / (2 * (st.hmax - st.hmin))).toNat

/-! ### Rate and trend (R101, R102) -/

/-- The rate term R_i × (ω_i >> 10) × 1,508 of a constituent (R101). -/
def rateTerm (t : Word32) (c : Constituent) : Int :=
  roundAway (c.amp * sinOf c t) 32768 * ((c.omega.toNat / 1024 : Nat) : Int) * 1508

/-- The rate at time t, millimetres per hour, clamped (R101). -/
def rateAt (st : Station) (t : Word32) : Int :=
  clampInt (-9999) 9999 (-(Int.tdiv (sumInt (st.constituents.map (rateTerm t))) 16777216))

/-- The trend of a rate (R102). -/
def trendOf (rate : Int) : Trend := if 50 ≤ rate then .rising else if rate ≤ -50 then .falling else .slack

/-- The values of a gauge computed at time t (R99 to R102, R105). -/
def gaugeValues (st : Station) (t : Word32) : GaugeValues where
  height := heightAt st t
  level := gaugeLevel st (heightAt st t)
  offScale := offScale st (heightAt st t)
  rate := rateAt st t
  trend := trendOf (rateAt st t)

/-! ### The curve (R95, R103) -/

/-- The time of curve point j − 12, for j = 0..24: hourly about the cursor, modulo 2³² (R95). -/
def curveTime (cursor : Word32) (j : Nat) : Word32 := cursor + BitVec.ofInt 32 (60 * ((j : Int) - 12))

/-- The levels of the 25 curve points, point −12 first (R103). -/
def curveLevels (st : Station) (cursor : Word32) : List Nat :=
  (List.range 25).map fun j => gaugeLevel st (heightAt st (curveTime cursor j))

/-! ### Gauge results (R104 to R107) -/

/-- The values a HELD gauge takes: those of the last frame record's result of the same slot and station (R107). -/
def carriedValues (last : List GaugeResult) (slot station : Nat) : Option GaugeValues :=
  match last.find? fun g => g.slot = slot && g.station = station with
  | none => none
  | some g => g.values

/-- The result of one gauge of a snapshot at a level; the first case of R104 that applies. -/
def gaugeResult (snap : Snapshot) (level : Nat) (g : SnapGauge) : GaugeResult :=
  match g.record with
  | none => { slot := g.slot, station := g.gauge.station, status := .noStation, values := none }
  | some st =>
    if level = 3 then
      { slot := g.slot, station := g.gauge.station, status := .held,
        values := carriedValues snap.lastGauges g.slot g.gauge.station }
    else
      { slot := g.slot, station := g.gauge.station, status := .live, values := some (gaugeValues st snap.plan.cursor) }

/-- The gauge results of a composition, in slot order; none with the TIDE layer off (R104). -/
def gaugeResults (snap : Snapshot) (level : Nat) : List GaugeResult :=
  if snap.plan.layers.tide then snap.gauges.map (gaugeResult snap level) else []

/-- A gauge as drawn: the figure in whole centimetres, and the curve of a LIVE gauge with its flag set (R103, R105 to
R107). -/
def drawGauge (snap : Snapshot) (level : Nat) (g : SnapGauge) : DrawnGauge :=
  let result := gaugeResult snap level g
  { result := result
    figure_ := result.values.map fun v => Int.tdiv v.height 10
    curve :=
      match g.record with
      | none => none
      | some st => if level ≠ 3 && g.gauge.curve then some (curveLevels st snap.plan.cursor) else none }

/-- The gauges as drawn (R104). -/
def drawGauges (snap : Snapshot) (level : Nat) : List DrawnGauge :=
  if snap.plan.layers.tide then snap.gauges.map (drawGauge snap level) else []

end Sys2Proof.Machine
end

