-- ==== Sys2Proof/Machine/Wind.lean ====
section
/-! DEFINITION. Machine/Wind.lean: the wind computation (chapter 07): arrow positions, brackets, interpolation, speed,
force and sector, and the wind result. -/

namespace Sys2Proof.Machine

/-! ### Grid and view (R111 to R113) -/

/-- The chart position x of a grid column (R111). -/
def gridX (i : Nat) : Nat := 680 + 1360 * i

/-- The chart position y of a grid row (R111). -/
def gridY (j : Nat) : Nat := 1020 + 2040 * j

/-- A column stands in view: west bound inclusive, east bound exclusive (R112). -/
def columnInView (p : Plan) (i : Nat) : Bool := p.x0 ≤ gridX i && gridX i < p.x0 + p.w

/-- A row stands in view: south bound inclusive, north bound exclusive (R112). -/
def rowInView (p : Plan) (j : Nat) : Bool := p.y0 ≤ gridY j && gridY j < p.y0 + p.h

/-- The stride at a level (R113). -/
def strideAt (p : Plan) (level : Nat) : Nat := if level = 0 then p.stride else 2 * p.stride

/-- The columns of the arrow positions at stride s. -/
def arrowColumns (p : Plan) (s : Nat) : List Nat := (List.range 48).filter fun i => i % s = 0 && columnInView p i

/-- The rows of the arrow positions at stride s. -/
def arrowRows (p : Plan) (s : Nat) : List Nat := (List.range 32).filter fun j => j % s = 0 && rowInView p j

/-- The number of arrow positions at stride s (R113). -/
def arrowCount (p : Plan) (s : Nat) : Nat := (arrowColumns p s).length * (arrowRows p s).length

/-! ### Brackets (R114, R115) -/

/-- The cursor's relative minute (R114). -/
def relativeMinute (cursor base : Word32) : Int := (cursor - base).toInt

/-- The absolute valid time of an offset (R18, R114). -/
def validTime (base : Word32) (offset : Nat) : Word32 := base + BitVec.ofNat 32 offset

/-- The brackets of a composition: the status, the first frame used and the second, when two are used (R115). -/
structure Brackets where
  status : WindStatus
  first : SnapFrame
  second : Option SnapFrame
deriving DecidableEq, Repr

/-- Bracket selection among frames in ascending order of offset (R115); none without a frame. -/
def brackets (frames : List SnapFrame) (r : Int) : Option Brackets :=
  match (frames.filter fun f => (f.offset : Int) ≤ r).getLast?, (frames.filter fun f => r < (f.offset : Int)).head? with
  | some f0, some f1 => some { status := .drawn, first := f0, second := some f1 }
  | some f0, none => some { status := if (f0.offset : Int) = r then .drawn else .heldLast, first := f0, second := none }
  | none, some f1 => some { status := .heldFirst, first := f1, second := none }
  | none, none => none

/-- The interpolation fraction (R117). -/
def fraction (r : Int) (b : Brackets) : Nat :=
  match b.second with
  | none => 0
  | some f1 => ((r - b.first.offset) * 256 / ((f1.offset : Int) - b.first.offset)).toNat

/-- The brackets a snapshot's composition uses: none without the WIND layer, a CURRENT run or a frame (R110). -/
def snapBrackets (snap : Snapshot) : Option (RunRecord × Brackets) :=
  if snap.plan.layers.wind then
    match snap.current with
    | none => none
    | some run =>
      match brackets snap.frames (relativeMinute snap.plan.cursor run.base) with
      | none => none
      | some b => some (run, b)
  else none

/-- The wind result of a composition at a level (R110, R116). -/
def windResult (snap : Snapshot) (level : Nat) : WindResult :=
  match snapBrackets snap with
  | none => { status := if snap.plan.layers.wind then .noData else .off, t0 := 0#32, t1 := 0#32, f := 0, arrows := 0 }
  | some (run, b) =>
    { status := b.status
      t0 := validTime run.base b.first.offset
      t1 := validTime run.base ((b.second.getD b.first).offset)
      f := fraction (relativeMinute snap.plan.cursor run.base) b
      arrows := arrowCount snap.plan (strideAt snap.plan level) }

/-! ### Interpolation, speed and force (R118 to R120) -/

/-- One component between two frames (R118). -/
def interpolate (c0 c1 : Int) (f : Nat) : Int := c0 + ((c1 - c0) * f + 128) / 256

/-- The pair at a column and row of a grid. -/
def pairAt (grid : List (List WindPair)) (column row : Nat) : WindPair :=
  (grid.getD row []).getD column { u := 0, v := 0 }

/-- The wind at an arrow position (R118). -/
def windAt (b : Brackets) (f column row : Nat) : WindPair :=
  let p0 := pairAt b.first.grid column row
  match b.second with
  | none => p0
  | some f1 =>
    let p1 := pairAt f1.grid column row
    { u := interpolate p0.u p1.u f, v := interpolate p0.v p1.v f }

/-- The greatest s with s² ≤ n, for n below 2²², found bit by bit from the value s with the weights given. -/
def rootFrom (n : Nat) : List Nat → Nat → Nat
  | [], s => s
  | w :: rest, s => if (s + w) * (s + w) ≤ n then rootFrom n rest (s + w) else rootFrom n rest s

/-- floor(√n) for n below 2²² (R119). -/
def floorRoot (n : Nat) : Nat := rootFrom n [1024, 512, 256, 128, 64, 32, 16, 8, 4, 2, 1] 0

/-- The speed, tenths of a knot (R119). -/
def speedOf (p : WindPair) : Nat := floorRoot (p.u * p.u + p.v * p.v).toNat

/-- The lower bounds of forces 1 to 12 (R120). -/
def forceBounds : List Nat := [10, 35, 65, 105, 165, 215, 275, 335, 405, 475, 555, 635]

/-- The force of a speed: how many of the ascending bounds it reaches (R120). -/
def forceOf (speed : Nat) : Nat := (forceBounds.filter fun b => b ≤ speed).length

/-! ### Direction (R121, R122) -/

/-- The quadrant of the from-vector and the vector rotated into the first quadrant (R121). -/
def quadrant (e n : Int) : Nat × Int × Int :=
  if 0 ≤ e && 0 < n then (0, e, n)
  else if 0 < e && n ≤ 0 then (1, -n, e)
  else if e ≤ 0 && n < 0 then (2, -e, -n)
  else (3, n, -e)

/-- The sector boundaries within a quadrant: tangents times 65,536 (R122). -/
def sectorBounds : List Int := [13036, 43790, 98082, 329472]

/-- The sector of a wind whose force is at least 1 (R121, R122). -/
def sectorOf (p : WindPair) : Nat :=
  match quadrant (-p.u) (-p.v) with
  | (q, e, n) => (4 * q + (sectorBounds.filter fun t => n * t ≤ e * 65536).length) % 16

/-! ### Drawing (R123) -/

/-- The mark of a wind: an arrow, or a calm mark at force 0 (R120, R123). -/
def markOf (p : WindPair) : WindMark :=
  let speed := speedOf p
  if forceOf speed = 0 then .calm speed else .arrow speed (forceOf speed) (sectorOf p)

/-- The sector an arrow points toward (R123). -/
def pointsToward (sector : Nat) : Nat := (sector + 8) % 16

/-- The marks of a composition at a level, row by row from the south, west first (R113, R123). -/
def windMarks (snap : Snapshot) (level : Nat) : List DrawnMark :=
  match snapBrackets snap with
  | none => []
  | some (run, b) =>
    let f := fraction (relativeMinute snap.plan.cursor run.base) b
    let s := strideAt snap.plan level
    ((arrowRows snap.plan s).map fun j =>
      (arrowColumns snap.plan s).map fun i =>
        { column := i, row := j, at_ := { x := gridX i, y := gridY j }, mark := markOf (windAt b f i j) }).flatten

end Sys2Proof.Machine
end

