-- ==== Sys2Proof/Machine/Composer.lean ====
section
/-! DEFINITION. Machine/Composer.lean: the composer (chapter 08): the snapshot, the cost of a chart at each level, the
available budget, relaxation and level choice, the frame record and the chart, the loader grant, the two events of a
composition in flight (R11), and READ FRAME RECORD. -/

namespace Sys2Proof.Machine

/-! ### The snapshot (R125) -/

/-- The COMPLETE frames of CURRENT, in ascending order of offset (R25). -/
def currentFrames (s : State) : List SnapFrame :=
  match s.fsw.current with
  | none => []
  | some _ =>
    s.fsw.slots.foldr (fun slot acc =>
      match slot with
      | some f =>
        if f.owner = .current && f.state = .complete then
          insertByKey SnapFrame.offset { offset := f.offset, grid := f.grid } acc
        else acc
      | none => acc) []

/-- The station record of a number (R34). -/
def findStation (number : Nat) (l : List Station) : Option Station := l.find? fun st => st.number = number

/-- The non-empty gauge slots from slot i on, each with its station record (R42). -/
def snapGauges (stations : List Station) : Nat → List (Option Gauge) → List SnapGauge
  | _, [] => []
  | i, none :: rest => snapGauges stations (i + 1) rest
  | i, some g :: rest =>
    { slot := i, gauge := g, record := findStation g.station stations } :: snapGauges stations (i + 1) rest

/-- The gauge results of the last frame record (R107). -/
def lastGauges (s : State) : List GaugeResult :=
  match lastRecord s with
  | none => []
  | some r => r.gauges

/-- The snapshot of the composition that begins now (R125). -/
def snapshotOf (s : State) : Snapshot where
  frame := s.fcy.count + 1
  plan := s.pln.air
  current := s.fsw.current
  frames := currentFrames s
  gauges := snapGauges s.fst.stations 0 s.pln.air.gauges
  segments := s.fst.segments
  lastGauges := lastGauges s
  queueLevel := s.ing.queue.length

/-! ### Cost (R126 to R131) -/

/-- A bounding box meets the view of a plan (R127). -/
def meetsView (p : Plan) (b : Box) : Bool :=
  b.xmin + 1 ≤ p.x0 + p.w && p.x0 ≤ b.xmax && b.ymin + 1 ≤ p.y0 + p.h && p.y0 ≤ b.ymax

/-- The segments drawn at a level (R127, R128). -/
def coastSegments (snap : Snapshot) (level : Nat) : List Segment :=
  if snap.plan.layers.coast then
    snap.segments.filter fun g => meetsView snap.plan g.box && !(2 ≤ level && g.cls = .minor)
  else []

/-- The number of points a segment of n points draws at a level (R127, R128). -/
def pointsAt (level n : Nat) : Nat := if level < 2 then n else n / 2 + 1

/-- The sum of a list of natural numbers. -/
def sumNat (l : List Nat) : Nat := l.foldr (· + ·) 0

/-- The coast part: one unit a point (R127, R128). -/
def coastPoints (snap : Snapshot) (level : Nat) : Nat :=
  sumNat ((coastSegments snap level).map fun g => pointsAt level g.points.length)

/-- The wind part (R129). -/
def windCost (snap : Snapshot) (level : Nat) : Nat :=
  if snap.plan.layers.wind then 6 * arrowCount snap.plan (strideAt snap.plan level) else 0

/-- The charge of a gauge slot (R130). -/
def gaugeCost (level : Nat) (g : SnapGauge) : Nat :=
  match g.record with
  | none => 4
  | some st =>
    let k := st.constituents.length
    if level = 3 then 4 else if g.gauge.curve then 20 + 6 * k + 25 * (1 + 3 * k) else 20 + 6 * k

/-- The tide part (R130). -/
def tideCost (snap : Snapshot) (level : Nat) : Nat :=
  if snap.plan.layers.tide then sumNat (snap.gauges.map (gaugeCost level)) else 0

/-- The AREA segment of an id, if there is one (R131). -/
def areaSegment (snap : Snapshot) (id : Nat) : Option Segment :=
  snap.segments.find? fun g => g.id = id && g.cls = .area

/-- The AREA segments highlighted, in the order of the area list (R131). -/
def highlighted (snap : Snapshot) : List Segment :=
  if snap.plan.layers.areas then snap.plan.areas.filterMap (areaSegment snap) else []

/-- The cost of the chart at a level (R126). -/
def costAt (snap : Snapshot) (level : Nat) : Nat :=
  Config.overhead + coastPoints snap level + windCost snap level + tideCost snap level +
    40 * (highlighted snap).length

/-! ### Budget, relaxation, level choice and grant (R132 to R134, R137) -/

/-- The loader floor of the frame period beginning (R132). -/
def floorOf (halt queueLevel : Nat) : Nat := if halt ≤ queueLevel then Config.loaderFloor else 0

/-- The level below the sticky level fits and the composition begun last was not late (R134). -/
def qualifies (snap : Snapshot) (budget : Nat) (c : Cmp) : Bool :=
  costAt snap (c.sticky - 1) ≤ budget && !c.previousLate

/-- The relaxation step (R134). -/
def relaxationStep (snap : Snapshot) (budget : Nat) (c : Cmp) : Cmp :=
  if c.sticky = 0 then { c with relax := 0 }
  else if qualifies snap budget c then
    if c.relax + 1 = Config.relaxationStarts then { c with sticky := c.sticky - 1, relax := 0 }
    else { c with relax := c.relax + 1 }
  else { c with relax := 0 }

/-- The smallest level from the sticky level on whose cost is within A; none for a late composition (R133). -/
def fittingLevel (snap : Snapshot) (budget sticky : Nat) : Option Nat :=
  ([0, 1, 2, 3].filter fun l => sticky ≤ l && costAt snap l ≤ budget).head?

/-- The chosen level: 3 when none fits (R133). -/
def chosenLevel (snap : Snapshot) (budget sticky : Nat) : Nat := (fittingLevel snap budget sticky).getD 3

/-- The level choice: the previous-late flag, and a rise of the sticky level with its count (R133). -/
def levelChoice (snap : Snapshot) (budget : Nat) (s : State) : State :=
  let chosen := chosenLevel snap budget s.cmp.sticky
  let late := (fittingLevel snap budget s.cmp.sticky).isNone
  if s.cmp.sticky < chosen then
    increase .degradedEntries (s.onCmp fun c => { c with sticky := chosen, relax := 0, previousLate := late })
  else s.onCmp fun c => { c with previousLate := late }

/-- The values handed to OPR for the partner report (R135). -/
def handedOf (snap : Snapshot) (level : Nat) : Handed where
  frame := snap.frame
  airSeq := snap.plan.seq
  runId := match snap.current with | none => 0#16 | some r => r.id
  cursor := snap.plan.cursor
  level := level

/-- CMP's part of a composition start, after the take engine's (R10, R125 to R137): the snapshot, A, the relaxation
step, the level choice, the grant, and the composition in flight. -/
def beginComposition (s : State) : State :=
  let snap := snapshotOf s
  let floor := floorOf s.ing.halt snap.queueLevel
  let budget := Config.budget s.fcy.rate - floor
  let s1 := levelChoice snap budget (s.onCmp (relaxationStep snap budget))
  let level := s1.cmp.sticky
  let cost := costAt snap level
  ((s1.onIng fun i => { i with grant := max (Config.budget s.fcy.rate - cost) floor }).onOpr fun o =>
    { o with handed := handedOf snap level }).onFcy fun f =>
      { f with inFlight := some { snap := snap, level := level, cost := cost, budget := budget, stopped := false } }

/-! ### The frame record and the chart (R135, R123) -/

/-- The frame record of a composition (R135). -/
def frameRecord (c : Composition) : FrameRecord where
  frame := c.snap.frame
  airSeq := c.snap.plan.seq
  runId := match c.snap.current with | none => 0#16 | some r => r.id
  cursor := c.snap.plan.cursor
  level := c.level
  cost := c.cost
  budget := c.budget
  wind := windResult c.snap c.level
  coastSegments := (coastSegments c.snap c.level).length
  coastPoints := coastPoints c.snap c.level
  areaCount := (highlighted c.snap).length
  gauges := gaugeResults c.snap c.level

/-- The points of even index. -/
def evenPoints : List Point → List Point
  | [] => []
  | [p] => [p]
  | p :: _ :: rest => p :: evenPoints rest

/-- The reduced point set: the points of even index and the last point (R128). -/
def reducedPoints (pts : List Point) : List Point :=
  if pts.length % 2 = 0 then evenPoints pts ++ pts.getLast?.toList else evenPoints pts

/-- The points a segment is drawn with at a level (R127, R128, R131). -/
def pointsDrawn (level : Nat) (g : Segment) : List Point := if level < 2 then g.points else reducedPoints g.points

/-! ### Cutting at the picture's edge (R127, R131)

A stroke from p to q is cut to the part with parameter between two fractions, 0 at p and 1 at q. The picture spans
x0..x0 + W and y0..y0 + H (DESIGN CHOICE, log 19). -/

/-- A fraction; the denominator is positive. -/
structure Fraction where
  num : Int
  den : Nat
deriving DecidableEq, Repr

/-- One fraction is at most another. -/
def Fraction.le (a b : Fraction) : Bool := a.num * b.den ≤ b.num * a.den

/-- The greater of two fractions. -/
def Fraction.larger (a b : Fraction) : Fraction := if a.le b then b else a

/-- The lesser of two fractions. -/
def Fraction.smaller (a b : Fraction) : Fraction := if a.le b then a else b

/-- The parameters at which p + t × d lies within lo..hi: none, or from one fraction to another. -/
def spanWithin (lo hi p d : Int) : Option (Fraction × Fraction) :=
  if d = 0 then if lo ≤ p && p ≤ hi then some (⟨0, 1⟩, ⟨1, 1⟩) else none
  else if 0 < d then some (⟨lo - p, d.toNat⟩, ⟨hi - p, d.toNat⟩)
  else some (⟨p - hi, (-d).toNat⟩, ⟨p - lo, (-d).toNat⟩)

/-- The point of the stroke from p to q at a parameter. -/
def pointAt (p q : Point) (t : Fraction) : PicturePoint where
  x := p.x * t.den + ((q.x : Int) - p.x) * t.num
  y := p.y * t.den + ((q.y : Int) - p.y) * t.num
  den := t.den

/-- A stroke lies along the east or the north edge, which the view does not hold (R112). -/
def alongEdge (v : Plan) (k : Stroke) : Bool :=
  (k.start.x = (v.x0 + v.w) * k.start.den && k.stop.x = (v.x0 + v.w) * k.stop.den) ||
    (k.start.y = (v.y0 + v.h) * k.start.den && k.stop.y = (v.y0 + v.h) * k.stop.den)

/-- The part of the stroke from p to q within the picture, if there is one (R127). -/
def cutStroke (v : Plan) (p q : Point) : Option Stroke :=
  match spanWithin v.x0 (v.x0 + v.w) p.x ((q.x : Int) - p.x), spanWithin v.y0 (v.y0 + v.h) p.y ((q.y : Int) - p.y) with
  | some a, some b =>
    let first := Fraction.larger ⟨0, 1⟩ (a.1.larger b.1)
    let last := Fraction.smaller ⟨1, 1⟩ (a.2.smaller b.2)
    let k : Stroke := { start := pointAt p q first, stop := pointAt p q last }
    if first.le last && !alongEdge v k then some k else none
  | _, _ => none

/-- The strokes of a line within the picture, in order along the line (R127). -/
def cutLine (v : Plan) : List Point → List Stroke
  | p :: q :: rest => (cutStroke v p q).toList ++ cutLine v (q :: rest)
  | [_] => []
  | [] => []

/-- A segment as drawn in a view at a level (R127, R128, R131). -/
def drawLine (v : Plan) (level : Nat) (g : Segment) : DrawnLine where
  id := g.id
  cls := g.cls
  strokes := cutLine v (pointsDrawn level g)

/-- The highlights that draw something in the picture; one that lies outside the view draws nothing there (R131). -/
def drawHighlights (v : Plan) (level : Nat) (l : List Segment) : List DrawnLine :=
  (l.map (drawLine v level)).filter fun d => !d.strokes.isEmpty

/-- The finished chart of a composition (R11, R123). -/
def chartOf (c : Composition) : Chart where
  record := frameRecord c
  viewX0 := c.snap.plan.x0
  viewY0 := c.snap.plan.y0
  viewW := c.snap.plan.w
  coast := (coastSegments c.snap c.level).map (drawLine c.snap.plan c.level)
  highlights := drawHighlights c.snap.plan c.level (highlighted c.snap)
  wind := windMarks c.snap c.level
  gauges := drawGauges c.snap c.level

/-! ### COMPOSITION_COMPLETION and COMPOSITION_BUDGET_SPENT (R11) -/

/-- A composition whose cost is within A finishes: the flag is cleared and its chart waits for display (R11). -/
def complete (s : State) : State :=
  match s.fcy.inFlight with
  | none => s
  | some c =>
    if c.cost ≤ c.budget then s.onFcy fun f => { f with inFlight := none, completed := some (chartOf c) } else s

/-- The composer has spent A on a composition whose cost exceeds A: it stops work, and the composition stays in flight
(R11). -/
def spend (s : State) : State :=
  match s.fcy.inFlight with
  | none => s
  | some c =>
    if c.cost ≤ c.budget then s else s.onFcy fun f => { f with inFlight := some { c with stopped := true } }

/-- COMPOSITION_COMPLETION (R11). -/
def execCompositionCompletion (s : State) : Result := .next (whileRunning complete s)

/-- COMPOSITION_BUDGET_SPENT (R11). -/
def execCompositionBudgetSpent (s : State) : Result := .next (whileRunning spend s)

/-! ### READ FRAME RECORD (R136) -/

/-- A gauge result's eleven bytes (R136). -/
def GaugeResult.bytes (g : GaugeResult) : List Byte :=
  [byte g.slot, byte g.station, g.status.code] ++
    match g.values with
    | none => List.replicate 8 0
    | some v =>
      byte (1 + 2 * bit v.offScale + 4 * v.trend.code) :: int32 v.height ++ byte v.level :: int16 v.rate

/-- The layout of a frame record (R136). -/
def FrameRecord.bytes (r : FrameRecord) : List Byte :=
  1 :: bytes32 r.frame ++ bytes16 r.airSeq ++ bytes16 r.runId ++ bytes32 r.cursor ++ byte r.level :: nat16 r.cost ++
    nat16 r.budget ++ r.wind.status.code :: bytes32 r.wind.t0 ++ bytes32 r.wind.t1 ++ byte r.wind.f ::
    nat16 r.wind.arrows ++ nat16 r.coastSegments ++ nat16 r.coastPoints ++
    [byte r.areaCount, byte r.gauges.length] ++ (r.gauges.map GaugeResult.bytes).flatten

/-- The rule of READ FRAME RECORD (R136). -/
def reqReadFrameRecord : Handler := fun _ params s =>
  match params with
  | [] =>
    match lastRecord s with
    | none => done [0] s
    | some r => done r.bytes s
  | _ :: _ => refuse .range s

/-- READ_FRAME_RECORD (R136). -/
def execReadFrameRecord (p : Port) (params : List Byte) (s : State) : Result :=
  .next (request p 0x38 params reqReadFrameRecord s)

end Sys2Proof.Machine
end

