-- ==== Sys2Proof/Machine/Runs.lean ====
section
/-! DEFINITION. Machine/Runs.lean: model runs and wind frames (chapter 02): what the store does with each unit, adoption,
abandonment, READ RUN STATUS and READ FRAME TABLE. -/

namespace Sys2Proof.Machine

/-! ### The outcome of a unit (R19) -/

/-- DONE, or a loader error (R19). -/
inductive LoaderOutcome where
  | done
  | error (kind : LoaderErrorKind)
deriving DecidableEq, Repr

/-! ### Frames in slots (R18) -/

/-- The slot holds the frame of NEXT with an offset. -/
def isNextFrame (offset : Nat) (slot : Option WindFrame) : Bool :=
  match slot with
  | none => false
  | some f => f.owner = .next && f.offset = offset

/-- The frame of NEXT with an offset. -/
def nextFrame (offset : Nat) (slots : List (Option WindFrame)) : Option WindFrame :=
  (slots.find? (isNextFrame offset)).getD none

/-- The frame of NEXT with an offset is rewritten. -/
def onNextFrame (offset : Nat) (f : WindFrame → WindFrame) (slots : List (Option WindFrame)) :
    List (Option WindFrame) :=
  slots.map fun slot => if isNextFrame offset slot then slot.map f else slot

/-- The lowest-numbered FREE slot takes a frame; none when no slot is FREE (R21). -/
def claimSlot (f : WindFrame) : List (Option WindFrame) → Option (List (Option WindFrame))
  | [] => none
  | none :: rest => some (some f :: rest)
  | some g :: rest => (claimSlot f rest).map (some g :: ·)

/-- A grid with every pair (0, 0) (R21). -/
def blankGrid : List (List WindPair) := List.replicate 32 (List.replicate 48 { u := 0, v := 0 })

/-- A claimed frame of NEXT (R21). -/
def newFrame (offset : Nat) : WindFrame where
  owner := .next
  offset := offset
  state := .filling
  mask := 0#32
  clamped := false
  grid := blankGrid

/-- A component as stored (R22). -/
def clampWind (c : Int) : Int := clampInt (-1000) 1000 c

/-- A pair as stored (R22). -/
def clampPair (p : WindPair) : WindPair := { u := clampWind p.u, v := clampWind p.v }

/-- A row has a component outside ±1,000 (R22). -/
def rowClamps (pairs : List WindPair) : Bool := pairs.any fun p => clampPair p ≠ p

/-- A row is written into a frame: its pairs, its bit of the mask, the clamped attribute; the frame is FILLING (R22). -/
def storeRow (row : Nat) (pairs : List WindPair) (f : WindFrame) : WindFrame :=
  { f with
    state := .filling
    mask := f.mask ||| (1#32 <<< row)
    clamped := f.clamped || rowClamps pairs
    grid := setAt f.grid row (pairs.map clampPair) }

/-- A FRAME END makes a frame COMPLETE when its mask holds all 32 rows, else INCOMPLETE (R23). -/
def closeFrame (f : WindFrame) : WindFrame :=
  { f with state := if f.mask = BitVec.allOnes 32 then .complete else .incomplete }

/-! ### Units (R20 to R24, R27) -/

/-- A slot after every frame of an owner is freed. -/
def freeOf (o : Owner) (slot : Option WindFrame) : Option WindFrame :=
  match slot with
  | none => none
  | some f => if f.owner = o then none else some f

/-- Abandonment of a NEXT that is not ABSENT (R27); an ABSENT one leaves FSW as it is. -/
def abandonNext (w : Fsw) : Fsw :=
  match w.next with
  | none => w
  | some _ =>
    { w with next := none, abandonment := w.abandonment + 1, slots := w.slots.map (freeOf .next) }

/-- A run id is CURRENT's. -/
def isCurrent (w : Fsw) (id : Word16) : Bool :=
  match w.current with
  | none => false
  | some r => r.id = id

/-- A run id is that of an OPEN NEXT. -/
def isOpenNext (w : Fsw) (id : Word16) : Bool :=
  match w.next with
  | none => false
  | some n => n.state = .opened && n.run.id = id

/-- RUN START (R20). -/
def runStart (id : Word16) (base : Word32) (expected : Nat) (w : Fsw) : LoaderOutcome × Fsw :=
  if id = 0 then (.error .range, w)
  else if isCurrent w id then (.error .closed, w)
  else if isOpenNext w id then (.done, w)
  else
    (.done, { abandonNext w with
      next := some { state := .opened, run := { id := id, base := base, expected := clampNat 1 48 expected },
                     sent := 0, short := false } })

/-- The short flag of NEXT is set (R21). -/
def markShort (w : Fsw) : Fsw :=
  match w.next with
  | none => w
  | some n => { w with next := some { n with short := true } }

/-- WIND ROW (R21, R22). -/
def windRow (id : Word16) (offset row : Nat) (pairs : List WindPair) (w : Fsw) : LoaderOutcome × Fsw :=
  if isCurrent w id then (.error .closed, w)
  else if !isOpenNext w id then (.error .order, w)
  else if 4320 < offset then (.error .range, w)
  else if 31 < row then (.error .range, w)
  else
    match nextFrame offset w.slots with
    | some _ => (.done, { w with slots := onNextFrame offset (storeRow row pairs) w.slots })
    | none =>
      match claimSlot (storeRow row pairs (newFrame offset)) w.slots with
      | some slots => (.done, { w with slots := slots })
      | none => (.error .full, markShort w)

/-- FRAME END (R23). -/
def frameEnd (id : Word16) (offset : Nat) (w : Fsw) : LoaderOutcome × Fsw :=
  if isCurrent w id then (.error .closed, w)
  else if !isOpenNext w id then (.error .order, w)
  else if 4320 < offset then (.error .range, w)
  else
    match nextFrame offset w.slots with
    | none => (.error .order, w)
    | some _ => (.done, { w with slots := onNextFrame offset closeFrame w.slots })

/-- The number of frames of an owner in a state. -/
def countFrames (o : Owner) (st : FrameState) (slots : List (Option WindFrame)) : Nat :=
  slots.countP fun slot =>
    match slot with
    | none => false
    | some f => f.owner = o && f.state = st

/-- The READY test (R24). -/
def readyTest (n : NextRun) (slots : List (Option WindFrame)) : Bool :=
  !n.short && countFrames .next .filling slots = 0 && countFrames .next .incomplete slots = 0 &&
    countFrames .next .complete slots = n.run.expected && countFrames .next .complete slots = n.sent

/-- The NEXT record after its RUN END (R24). -/
def endRun (sent : Nat) (n : NextRun) (slots : List (Option WindFrame)) : NextRun :=
  let n' := { n with sent := sent }
  { n' with state := if readyTest n' slots then .ready else .ended }

/-- RUN END (R24); the RUN notice is raised with it, see `loadRunEnd`. -/
def runEnd (id : Word16) (sent : Nat) (w : Fsw) : LoaderOutcome × Fsw :=
  if isCurrent w id then (.error .closed, w)
  else if !isOpenNext w id then (.error .order, w)
  else
    match w.next with
    | none => (.error .order, w)
    | some n => (.done, { w with next := some (endRun sent n w.slots) })

/-- RUN END with the RUN notice for both ports when it is taken (R24). -/
def loadRunEnd (id : Word16) (sent : Nat) (s : State) : LoaderOutcome × State :=
  match runEnd id sent s.fsw with
  | (.done, w) => (.done, raiseRun { s with fsw := w })
  | (.error k, w) => (.error k, { s with fsw := w })

/-! ### Adoption (R26) -/

/-- A slot after an adoption: CURRENT's frame is freed and NEXT's becomes CURRENT's. -/
def adoptSlot (slot : Option WindFrame) : Option WindFrame :=
  match slot with
  | none => none
  | some f =>
    match f.owner with
    | .current => none
    | .next => some { f with owner := .current }

/-- The NEXT an adoption may take: READY, or with FORCE also ENDED with at least 2 COMPLETE frames, and not abandoned
since the take was accepted (R26, R27). -/
def adoptable (force : Bool) (recorded : Word32) (w : Fsw) : Option NextRun :=
  match w.next with
  | none => none
  | some n =>
    if recorded ≠ w.abandonment then none
    else if n.state = .ready then some n
    else if force && n.state = .ended && 2 ≤ countFrames .next .complete w.slots then some n
    else none

/-- An adoption carried out, or none when it is refused NOT READY (R26). -/
def adopt (force : Bool) (recorded : Word32) (w : Fsw) : Option Fsw :=
  match adoptable force recorded w with
  | none => none
  | some n => some { w with current := some n.run, next := none, slots := w.slots.map adoptSlot }

/-! ### READ RUN STATUS and READ FRAME TABLE (R28 to R30) -/

/-- The code of the NEXT state (R28). -/
def nextCode : Option NextRun → Byte
  | none => 0
  | some n =>
    match n.state with
    | .opened => 1
    | .ended => 2
    | .ready => 3

/-- A run record in READ RUN STATUS, zeros when it is absent: id, base time, expected count (R28). -/
def runBytes : Option RunRecord → List Byte
  | none => List.replicate 7 0
  | some r => bytes16 r.id ++ bytes32 r.base ++ [byte r.expected]

/-- The number of frames of an owner with the clamped attribute. -/
def countClamped (o : Owner) (slots : List (Option WindFrame)) : Nat :=
  slots.countP fun slot =>
    match slot with
    | none => false
    | some f => f.owner = o && f.clamped

/-- The data of READ RUN STATUS (R28). The frames-sent count of an ABSENT NEXT reads 0, also after an abandonment by a
restart, where the manual gives no value (DESIGN CHOICE, log 33). -/
def runStatus (w : Fsw) : List Byte :=
  byte (bit w.current.isSome) :: runBytes w.current ++ nextCode w.next :: runBytes (w.next.map NextRun.run) ++
    [byte (match w.next with | none => 0 | some n => n.sent),
     flagByte [match w.next with | none => false | some n => n.short]] ++ bytes32 w.abandonment ++
    [byte (w.slots.countP Option.isNone),
     byte (countFrames .current .complete w.slots), byte (countFrames .current .incomplete w.slots),
     byte (countFrames .current .filling w.slots),
     byte (countFrames .next .complete w.slots), byte (countFrames .next .incomplete w.slots),
     byte (countFrames .next .filling w.slots),
     byte (countClamped .current w.slots), byte (countClamped .next w.slots)]

/-- The rule of READ RUN STATUS, which clears the RUN notice for the port (R28, R29). -/
def reqReadRunStatus : Handler := fun p params s =>
  match params with
  | [] => done (runStatus s.fsw) (updateRaised p (fun r => { r with run := false }) s)
  | _ :: _ => refuse .range s

/-- The code of a frame state in a slot summary (R30). -/
def FrameState.code : FrameState → Nat
  | .filling => 0 | .complete => 1 | .incomplete => 2

/-- The code of an owner in a slot summary (R30). -/
def Owner.code : Owner → Nat
  | .current => 1 | .next => 2

/-- The summary of a slot (R30). A FREE slot's byte 0 is its slot number too: the rule's table gives byte 0 so for every slot,
its closing sentence owner 0 and every other field 0 (DESIGN CHOICE, log 40). -/
def slotSummary (n : Nat) (slot : Option WindFrame) : List Byte :=
  byte n ::
    match slot with
    | none => List.replicate 7 0
    | some f => byte (f.owner.code + 4 * f.state.code + 16 * bit f.clamped) :: nat16 f.offset ++ bytes32 f.mask

/-- The summaries of slots from n on. -/
def slotSummaries : Nat → List (Option WindFrame) → List Byte
  | _, [] => []
  | n, slot :: rest => slotSummary n slot ++ slotSummaries (n + 1) rest

/-- The rule of READ FRAME TABLE (R30). -/
def reqReadFrameTable : Handler := fun _ params s =>
  match params with
  | [start] =>
    if 47 < start.toNat then refuse .range s
    else
      let n := min 24 (48 - start.toNat)
      done (start :: byte n :: slotSummaries start.toNat ((s.fsw.slots.drop start.toNat).take n)) s
  | _ => refuse .range s

/-- READ_RUN_STATUS (R28, R29). -/
def execReadRunStatus (p : Port) (params : List Byte) (s : State) : Result :=
  .next (request p 0x20 params reqReadRunStatus s)

/-- READ_FRAME_TABLE (R30). -/
def execReadFrameTable (p : Port) (params : List Byte) (s : State) : Result :=
  .next (request p 0x21 params reqReadFrameTable s)

end Sys2Proof.Machine
end

