-- ==== Sys2Proof/Machine/Stations.lean ====
section
/-! DEFINITION. Machine/Stations.lean: tide stations and coastline (chapter 03): station writes from the loader and from a
control port, the segment list and its point pool, and their reading. -/

namespace Sys2Proof.Machine

/-- The port holds the edit hold (R64). -/
def holds (s : State) (p : Port) : Bool := s.pln.hold = some p

/-! ### Station records (R34 to R36) -/

/-- An amplitude as stored (R35). -/
def clampAmp (c : Constituent) : Constituent := { c with amp := clampNat 0 8000 c.amp }

/-- The record a carried one makes, with its clamps and the clamped attribute (R35). -/
def storedStation (source : Source) (c : CarriedStation) : Station :=
  let z0 := clampInt (-2000) 8000 c.z0
  let hmin := clampInt (-3000) 12000 c.hmin
  let hmax := clampInt (-3000) 12000 c.hmax
  let terms := c.constituents.map clampAmp
  { number := c.number, z0 := z0, hmin := hmin, hmax := hmax, constituents := terms, source := source,
    clamped := z0 ≠ c.z0 || hmin ≠ c.hmin || hmax ≠ c.hmax || terms ≠ c.constituents }

/-- A structurally impossible write (R36). -/
def impossible (c : CarriedStation) : Bool :=
  c.number = 0 || c.k = 0 || 16 < c.k || clampInt (-3000) 12000 c.hmax ≤ clampInt (-3000) 12000 c.hmin

/-- The table has a record of a number. -/
def hasStation (number : Nat) (l : List Station) : Bool := (findStation number l).isSome

/-- The table holds no record of the number and has no room for one (R37, R38). -/
def stationFull (number : Nat) (l : List Station) : Bool :=
  !hasStation number l && Config.maxStations ≤ l.length

/-- A record is inserted or replaced, in its place in the order (R34). -/
def putStation (st : Station) (f : Fst) : Fst := { f with stations := insertByKey Station.number st f.stations }

/-- TIDE STATION from the loader (R37). -/
def loadTideStation (c : CarriedStation) (s : State) : LoaderOutcome × State :=
  if impossible c then (.error .range, s)
  else if stationFull c.number s.fst.stations then (.error .full, s)
  else (.done, s.onFst (putStation (storedStation .loader c)))

/-- A station number appears in an air-plan gauge (R39). -/
def onAir (s : State) (number : Nat) : Bool :=
  s.pln.air.gauges.any fun g =>
    match g with
    | none => false
    | some g => g.station = number

/-- A station is protected: the air lock is set and it appears in an air-plan gauge (R38 to R40). -/
def stationLocked (s : State) (number : Nat) : Bool := s.pln.lock.isSome && onAir s number

/-- The rule of LOAD STATION (R38). -/
def reqLoadStation : Handler := fun p params s =>
  if !holds s p then refuse .notHolder s
  else
    match parseStation params with
    | none => refuse .range s
    | some c =>
      if impossible c then refuse .range s
      else if stationLocked s c.number then refuse .locked s
      else if stationFull c.number s.fst.stations then refuse .full s
      else
        let st := storedStation (Source.ofPort p) c
        let s' := s.onFst (putStation st)
        done [flagByte [hasStation c.number s.fst.stations, st.clamped], byte s'.fst.stations.length] s'

/-- The table without the record of a number (R40). -/
def removeStation (number : Nat) (f : Fst) : Fst :=
  { f with stations := f.stations.filter fun st => st.number ≠ number }

/-- The rule of DELETE STATION (R40). -/
def reqDeleteStation : Handler := fun p params s =>
  if !holds s p then refuse .notHolder s
  else
    match params with
    | [n] =>
      if n = 0 then refuse .range s
      else if stationLocked s n.toNat then refuse .locked s
      else if !hasStation n.toNat s.fst.stations then refuse .notFound s
      else
        let s' := s.onFst (removeStation n.toNat)
        done [byte s'.fst.stations.length] s'
    | _ => refuse .range s

/-- The rule of READ STATION: the directory for 0, else one record (R41). -/
def reqReadStation : Handler := fun _ params s =>
  match params with
  | [n] =>
    if n = 0 then
      done (byte s.fst.stations.length :: s.fst.stations.map fun st => byte st.number) s
    else
      match findStation n.toNat s.fst.stations with
      | none => refuse .notFound s
      | some st => done (byte (st.source.code + 4 * bit st.clamped) :: st.bytes) s
  | _ => refuse .range s

/-! ### The segment list (R43, R44) -/

/-- The pool use: the total of the point counts (R44). -/
def poolUse (l : List Segment) : Nat := sumNat (l.map fun g => g.points.length)

/-- The segment of an id. -/
def findSegment (id : Nat) (l : List Segment) : Option Segment := l.find? fun g => g.id = id

/-- The points the segment of an id holds: 0 when there is none. -/
def oldPoints (id : Nat) (l : List Segment) : Nat :=
  match findSegment id l with
  | none => 0
  | some g => g.points.length

/-- The limits of R44 would be broken by writing a segment of n points under an id. -/
def segmentFull (id n : Nat) (l : List Segment) : Bool :=
  Config.poolSize < poolUse l - oldPoints id l + n ||
    (findSegment id l).isNone && Config.maxSegments ≤ l.length

/-- The least of a list of numbers, from an upper bound. -/
def leastOf (l : List Nat) (top : Nat) : Nat := l.foldr min top

/-- The greatest of a list of numbers. -/
def greatestOf (l : List Nat) : Nat := l.foldr max 0

/-- The bounding box of a point list (R43). -/
def boxOf (pts : List Point) : Box where
  xmin := leastOf (pts.map Point.x) 65535
  ymin := leastOf (pts.map Point.y) 65535
  xmax := greatestOf (pts.map Point.x)
  ymax := greatestOf (pts.map Point.y)

/-- LOAD SEGMENT's parameters: id, class code, count and points, when their length is 4 + 4n for the count n (R45). -/
def parseSegment : List Byte → Option (Nat × Nat × Nat × List Point)
  | i0 :: i1 :: cls :: n :: rest =>
    if rest.length = 4 * n.toNat then some ((le16 i0 i1).toNat, cls.toNat, n.toNat, parsePoints rest) else none
  | _ => none

/-- The list after a segment is inserted or replaced (R44). -/
def putSegment (g : Segment) (f : Fst) : Fst := { f with segments := insertByKey Segment.id g f.segments }

/-- The segment count and the pool use, two bytes each (R45, R46). -/
def segmentTotals (l : List Segment) : List Byte := nat16 l.length ++ nat16 (poolUse l)

/-- The rule of LOAD SEGMENT (R45). -/
def reqLoadSegment : Handler := fun p params s =>
  if !holds s p then refuse .notHolder s
  else
    match parseSegment params with
    | none => refuse .range s
    | some (id, code, n, pts) =>
      match SegClass.ofCode code with
      | none => refuse .range s
      | some cls =>
        if id = 0 || 4095 < id || n < 2 || 60 < n then refuse .range s
        else if s.pln.lock.isSome then refuse .locked s
        else if segmentFull id n s.fst.segments then refuse .full s
        else
          let s' := s.onFst (putSegment { id := id, cls := cls, points := pts, box := boxOf pts })
          done (flagByte [(findSegment id s.fst.segments).isSome] :: segmentTotals s'.fst.segments) s'

/-- The list without the segment of an id (R46). -/
def removeSegment (id : Nat) (f : Fst) : Fst := { f with segments := f.segments.filter fun g => g.id ≠ id }

/-- The rule of DELETE SEGMENT (R46). -/
def reqDeleteSegment : Handler := fun p params s =>
  if !holds s p then refuse .notHolder s
  else
    match params with
    | [b0, b1] =>
      let id := (le16 b0 b1).toNat
      if id = 0 || 4095 < id then refuse .range s
      else if s.pln.lock.isSome then refuse .locked s
      else if (findSegment id s.fst.segments).isNone then refuse .notFound s
      else
        let s' := s.onFst (removeSegment id)
        done (segmentTotals s'.fst.segments) s'
    | _ => refuse .range s

/-- The summary of a segment (R47). -/
def Segment.summary (g : Segment) : List Byte :=
  nat16 g.id ++ [g.cls.code, byte g.points.length] ++ nat16 g.box.xmin ++ nat16 g.box.ymin ++ nat16 g.box.xmax ++
    nat16 g.box.ymax

/-- The rule of READ SEGMENTS (R47). -/
def reqReadSegments : Handler := fun _ params s =>
  match params with
  | [b0, b1] =>
    let start := (le16 b0 b1).toNat
    if 4095 < start then refuse .range s
    else
      let found := (s.fst.segments.filter fun g => start ≤ g.id).take 20
      done (segmentTotals s.fst.segments ++ byte found.length :: (found.map Segment.summary).flatten) s
  | _ => refuse .range s

/-! ### The commands -/

/-- LOAD_STATION (R38). -/
def execLoadStation (p : Port) (params : List Byte) (s : State) : Result :=
  .next (request p 0x2C params reqLoadStation s)

/-- DELETE_STATION (R40). -/
def execDeleteStation (p : Port) (params : List Byte) (s : State) : Result :=
  .next (request p 0x2D params reqDeleteStation s)

/-- READ_STATION (R41). -/
def execReadStation (p : Port) (params : List Byte) (s : State) : Result :=
  .next (request p 0x2E params reqReadStation s)

/-- LOAD_SEGMENT (R45). -/
def execLoadSegment (p : Port) (params : List Byte) (s : State) : Result :=
  .next (request p 0x28 params reqLoadSegment s)

/-- DELETE_SEGMENT (R46). -/
def execDeleteSegment (p : Port) (params : List Byte) (s : State) : Result :=
  .next (request p 0x29 params reqDeleteSegment s)

/-- READ_SEGMENTS (R47). -/
def execReadSegments (p : Port) (params : List Byte) (s : State) : Result :=
  .next (request p 0x2A params reqReadSegments s)

end Sys2Proof.Machine
end

