-- ==== Sys2Proof/Machine/Ingest.lean ====
section
/-! DEFINITION. Machine/Ingest.lean: the ingest unit (chapter 09): the receiver, the queue, flow control and its symbols,
the loader and its errors, READ INGEST STATUS, SET INGEST LEVELS and INGEST RESET. -/

namespace Sys2Proof.Machine

/-! ### Flow control and symbols (R148, R149) -/

/-- A symbol is made: sent at once when the output is idle, else it waits in place of any that waits (R149). -/
def makeSymbol (y : Symbol) (i : Ing) : Ing :=
  match i.sending with
  | none => { i with sending := some y }
  | some _ => { i with waitingSymbol := some y }

/-- A symbol is made when in-band symbols are enabled (R148). -/
def symbolIfEnabled (y : Symbol) (i : Ing) : Ing := if i.inBand then makeSymbol y i else i

/-- The evaluation of flow control (R148). -/
def flowControl (i : Ing) : Ing :=
  if !i.holdOff && i.halt ≤ i.queue.length then symbolIfEnabled .pause { i with holdOff := true }
  else if i.holdOff && i.queue.length ≤ i.resume then symbolIfEnabled .continue_ { i with holdOff := false }
  else i

/-- The symbol output finishes a character (R149). -/
def finishSymbol (i : Ing) : Ing :=
  match i.sending with
  | none => i
  | some _ => { i with sending := i.waitingSymbol, waitingSymbol := none }

/-! ### The queue (R146, R147) -/

/-- A closed unit enters at the tail and takes the pending overrun (R146). -/
def enterQueue (u : IngestUnit) (i : Ing) : Ing :=
  flowControl { i with queue := i.queue ++ [{ u with overrun := i.overrun }], overrun := none }

/-- The pending overrun after one more lost unit (R147). -/
def moreLost : Option Nat → Option Nat
  | none => some 1
  | some n => some (min 255 (n + 1))

/-- A unit closes: it enters the queue, or is lost when the queue is full (R146, R147). -/
def offerUnit (u : IngestUnit) (s : State) : State :=
  if s.ing.queue.length < Config.queueSize then s.onIng (enterQueue u)
  else increase .overruns (s.onIng fun i => { i with overrun := moreLost i.overrun })

/-- The receiver returns to HUNTING. -/
def hunt (s : State) : State := s.onIng fun i => { i with reception := none, gap := 0 }

/-- A unit closed with a mark: the type and length that were taken are kept, no payload (R144 to R146). -/
def markedUnit (m : Mark) (bytes : List Byte) : IngestUnit where
  mark := m
  type_ := bytes[0]?
  length_ := (bytes[1]?).map BitVec.toNat
  payload := []
  overrun := none

/-- A unit closed good, or with CHECK: bytes are type, length, payload and the two CRC bytes (R143). -/
def completeUnit (bytes : List Byte) (len : Nat) : IngestUnit :=
  let covered := bytes.take (len + 2)
  if crc16 covered = le16 (bytes.getD (len + 3) 0) (bytes.getD (len + 2) 0) then
    { mark := .none, type_ := bytes[0]?, length_ := some len, payload := covered.drop 2, overrun := none }
  else markedUnit .check bytes

/-! ### The receiver (R140, R142 to R145) -/

/-- The bytes taken so far are acted on: a bad length closes the unit, the second CRC byte completes it (R142, R143). -/
def takeBytes (bytes : List Byte) (s : State) : State :=
  let s1 := s.onIng fun i => { i with reception := some bytes, gap := 0 }
  match bytes with
  | [] => s1
  | [_] => s1
  | t :: l :: rest =>
    if 200 < l.toNat then
      offerUnit { mark := .length, type_ := some t, length_ := none, payload := [], overrun := none } (hunt s1)
    else if rest.length = l.toNat + 2 then offerUnit (completeUnit bytes l.toNat) (hunt s1)
    else s1

/-- A character on the ingest link (R140, R142, R144). -/
def ingestCharacter (c : Character) (s : State) : State :=
  match s.ing.reception, c with
  | none, .good b => if b = 0xC3 then s.onIng fun i => { i with reception := some [], gap := 0 } else s
  | none, .bad => s
  | some bytes, .bad => offerUnit (markedUnit .framing bytes) (hunt s)
  | some bytes, .good b => takeBytes (bytes ++ [b]) s

/-- The gap count at a serving pulse, which closes the unit STALE when it would become 5 (R145). -/
def gapPulse (s : State) : State :=
  match s.ing.reception with
  | none => s
  | some bytes =>
    if s.ing.gap + 1 = 5 then offerUnit (markedUnit .stale bytes) (hunt s)
    else s.onIng fun i => { i with gap := i.gap + 1 }

/-! ### The loader (R151 to R154) -/

/-- The cost of moving an entry (R151). -/
def moveCost (u : IngestUnit) : Nat := if u.mark ≠ .none then 5 else if u.type_ = some 0x02 then 200 else 20

/-- The errors-since-read count of a new error (R154). -/
def sinceRead : Option LoaderError → Nat
  | none => 1
  | some e => if e.unread then min 255 (e.since + 1) else 1

/-- A loader error: INGEST ERRORS is increased and the last loader error record replaced (R154). -/
def loaderError (kind : LoaderErrorKind) (type_ : Byte) (runId : Word16) (station : Nat) (s : State) : State :=
  increase .ingestErrors (s.onIng fun i => { i with
    lastError := some { kind := kind, type_ := type_, runId := runId, station := station,
                        since := sinceRead i.lastError, unread := true } })

/-- The end of a hand-over to the wind part: a loader error names the unit's run (R154). -/
def afterWind (type_ : Byte) (runId : Word16) (r : LoaderOutcome × State) : State :=
  match r.1 with
  | .done => r.2
  | .error k => loaderError k type_ runId 0 r.2

/-- The end of a hand-over to the tide part: a loader error names the unit's station (R154). -/
def afterTide (station : Nat) (r : LoaderOutcome × State) : State :=
  match r.1 with
  | .done => r.2
  | .error k => loaderError k 0x05 0#16 station r.2

/-- A unit's content acts on the wind part alone. -/
def onWind (f : Fsw → LoaderOutcome × Fsw) (s : State) : LoaderOutcome × State :=
  let r := f s.fsw
  (r.1, { s with fsw := r.2 })

/-- RUN START from the loader (R141, R153). -/
def loadRunStart (payload : List Byte) (s : State) : State :=
  match payload with
  | [i0, i1, b0, b1, b2, b3, n] =>
    afterWind 0x01 (le16 i0 i1) (onWind (runStart (le16 i0 i1) (le32 b0 b1 b2 b3) n.toNat) s)
  | _ => loaderError .size 0x01 0#16 0 s

/-- WIND ROW from the loader (R141, R153). -/
def loadWindRow (payload : List Byte) (s : State) : State :=
  match payload with
  | i0 :: i1 :: o0 :: o1 :: row :: rest =>
    if rest.length = 192 then
      afterWind 0x02 (le16 i0 i1) (onWind (windRow (le16 i0 i1) (le16 o0 o1).toNat row.toNat (parsePairs rest)) s)
    else loaderError .size 0x02 0#16 0 s
  | _ => loaderError .size 0x02 0#16 0 s

/-- FRAME END from the loader (R141, R153). -/
def loadFrameEnd (payload : List Byte) (s : State) : State :=
  match payload with
  | [i0, i1, o0, o1] => afterWind 0x03 (le16 i0 i1) (onWind (frameEnd (le16 i0 i1) (le16 o0 o1).toNat) s)
  | _ => loaderError .size 0x03 0#16 0 s

/-- RUN END from the loader (R141, R153). -/
def loadRunEndUnit (payload : List Byte) (s : State) : State :=
  match payload with
  | [i0, i1, n] => afterWind 0x04 (le16 i0 i1) (loadRunEnd (le16 i0 i1) n.toNat s)
  | _ => loaderError .size 0x04 0#16 0 s

/-- TIDE STATION from the loader (R37, R153). -/
def loadStationUnit (payload : List Byte) (s : State) : State :=
  match parseStation payload with
  | none => loaderError .size 0x05 0#16 0 s
  | some c => afterTide c.number (loadTideStation c s)

/-- A moved good unit is tested and handed on (R153). -/
def loadGood (type_ : Byte) (payload : List Byte) (s : State) : State :=
  if type_ = 0x01 then loadRunStart payload s
  else if type_ = 0x02 then loadWindRow payload s
  else if type_ = 0x03 then loadFrameEnd payload s
  else if type_ = 0x04 then loadRunEndUnit payload s
  else if type_ = 0x05 then loadStationUnit payload s
  else loaderError .type_ type_ 0#16 0 s

/-- A moved entry is dealt with: discarded for its receiver mark, or handed on (R152, R153). -/
def dealWith (u : IngestUnit) (s : State) : State :=
  if u.mark ≠ .none then increase .ingestErrors s else loadGood (u.type_.getD 0) u.payload s

/-- The loader moves the head when the remaining grant is at least its cost (R151). Taking the unit and the store's act on
it are one step, so no unit is in the loader's hands at a RESTART and none taken before it acts after it (R32, R158; DESIGN
CHOICE, log 41). The test is of the head alone: a head beyond the grant that INGEST RESET or a restart has removed does not
stop a cheaper unit that enters later in the same period (DESIGN CHOICE, log 43). -/
def moveHead (s : State) : State :=
  match s.ing.queue with
  | [] => s
  | u :: rest =>
    if moveCost u ≤ s.ing.grant then
      dealWith u (s.onIng fun i => flowControl { i with queue := rest, grant := i.grant - moveCost u })
    else s

/-! ### READ INGEST STATUS, SET INGEST LEVELS and INGEST RESET (R150, R156, R157) -/

/-- The bytes of the last loader error, bytes 9 to 14 (R156). Without a record bytes 10 to 14 read 0, where the manual
gives no value (DESIGN CHOICE, log 37). -/
def loaderErrorBytes : Option LoaderError → List Byte
  | none => List.replicate 6 0
  | some e => e.kind.code :: e.type_ :: bytes16 e.runId ++ [byte e.station, byte e.since]

/-- The bytes of the head entry, bytes 4 to 6 (R156). -/
def headBytes : List IngestUnit → List Byte
  | [] => [0, 0, 0]
  | u :: _ => [u.mark.code, byte (u.overrun.getD 0), u.type_.getD 0]

/-- The data of READ INGEST STATUS (R156). -/
def ingestStatus (s : State) : List Byte :=
  let i := s.ing
  [byte i.queue.length, byte i.halt, byte i.resume,
   flagByte [i.holdOff, i.inBand, errorAnywhere s, i.reception.isSome, i.overrun.isSome, loaderErrorUnread s]] ++
    headBytes i.queue ++ nat16 i.grant ++ loaderErrorBytes i.lastError ++ [byte (i.overrun.getD 0)]

/-- The last loader error record is marked read (R154). -/
def markRead (i : Ing) : Ing :=
  { i with lastError := i.lastError.map fun e => { e with unread := false } }

/-- The rule of READ INGEST STATUS (R156). -/
def reqReadIngestStatus : Handler := fun _ params s =>
  match params with
  | [] => done (ingestStatus s) (s.onIng markRead)
  | _ :: _ => refuse .range s

/-- The levels and the enable are stored with their clamps and flow control is evaluated; turning the enable on makes the
symbol matching HOLD-OFF (R150; log 22). -/
def setLevels (halt resume : Nat) (enable : Bool) (i : Ing) : Ing :=
  let h := clampNat 8 63 halt
  let j := flowControl { i with halt := h, resume := clampNat 0 (h - 8) resume, inBand := enable }
  if enable && !i.inBand then makeSymbol (if j.holdOff then .pause else .continue_) j else j

/-- The rule of SET INGEST LEVELS (R150). -/
def reqSetIngestLevels : Handler := fun _ params s =>
  match params with
  | [halt, resume, flags] =>
    let s' := s.onIng (setLevels halt.toNat resume.toNat (flags.getLsbD 0))
    done [byte s'.ing.halt, byte s'.ing.resume, flagByte [s'.ing.inBand, s'.ing.holdOff]] s'
  | _ => refuse .range s

/-- What INGEST RESET does to ING (R157). -/
def resetIngest (i : Ing) : Ing :=
  let j := { i with queue := [], reception := none, gap := 0, overrun := none }
  if i.holdOff then symbolIfEnabled .continue_ { j with holdOff := false } else j

/-- The rule of INGEST RESET (R157). -/
def reqIngestReset : Handler := fun _ params s =>
  match params with
  | [] => done [byte s.ing.queue.length] (s.onIng resetIngest)
  | _ :: _ => refuse .range s

/-- ING at a restart (R158). -/
def restartIng (s : State) : State := s.onIng fun i => markRead (resetIngest i)

/-! ### The commands -/

/-- INGEST_CHARACTER (R140 to R144). -/
def execIngestCharacter (c : Character) (s : State) : Result := .next (whileRunning (ingestCharacter c) s)

/-- SYMBOL_OUTPUT_DONE (R149). -/
def execSymbolOutputDone (s : State) : Result := .next (whileRunning (fun s => s.onIng finishSymbol) s)

/-- LOADER_MOVE (R151). -/
def execLoaderMove (s : State) : Result := .next (whileRunning moveHead s)

/-- READ_INGEST_STATUS (R156). -/
def execReadIngestStatus (p : Port) (params : List Byte) (s : State) : Result :=
  .next (request p 0x40 params reqReadIngestStatus s)

/-- SET_INGEST_LEVELS (R150). -/
def execSetIngestLevels (p : Port) (params : List Byte) (s : State) : Result :=
  .next (request p 0x41 params reqSetIngestLevels s)

/-- INGEST_RESET (R157). -/
def execIngestReset (p : Port) (params : List Byte) (s : State) : Result :=
  .next (request p 0x42 params reqIngestReset s)

end Sys2Proof.Machine
end

