-- ==== Sys2Proof/Machine/Output.lean ====
section
/-! DEFINITION. Machine/Output.lean: the output and pair unit (chapter 10): reports and their reception, partner state,
step tracking, swap negotiation, automatic takeover, contention, READ OUTPUT STATUS and SET AUTO TAKEOVER. -/

namespace Sys2Proof.Machine

/-- The part is in a paired role (R160). -/
def paired (s : State) : Bool := s.opr.role ≠ .sole

/-- The report this part sent at the start of the frame period; in frame period 0, before its first report, one for
frame 0 with the values of the default plan stands for it (DEDUCED, log 10). -/
def ownReport (s : State) : Report :=
  s.opr.sent.getD
    { frame := 0#32, role := .main, airSeq := 0#16, runId := 0#16, cursor := 0#32, level := 0#8, alarm := false,
      swap := .none, lineFrame := 0#32 }

/-- The role changes. -/
def setRole (r : Role) (s : State) : State := s.onOpr fun o => { o with role := r }

/-- The negotiation record is replaced. -/
def setNegotiation (n : Option Negotiation) (s : State) : State := s.onOpr fun o => { o with negotiation := n }

/-! ### Partner presence, count sync and step (R164 to R166) -/

/-- The part leaves IN STEP: STEP LOSSES is increased and the STEP notice raised (R166). -/
def leaveStep (s : State) : State :=
  if s.opr.inStep then raiseStep (increase .stepLosses (s.onOpr fun o => { o with inStep := false })) else s

/-- The partner becomes LOST; from IN STEP the step state goes with it and both runs become 0 (R164, R166). -/
def losePartner (s : State) : State :=
  let s1 := s.onOpr fun o =>
    if o.inStep then { o with partnerPresent := false, lossCount := 0, matchRun := 0, mismatchRun := 0 }
    else { o with partnerPresent := false, lossCount := 0 }
  raiseFault Causes.addPartner (leaveStep s1)

/-- Partner presence for the frame period a pulse ends (R164). -/
def partnerPresence (s : State) : State :=
  let missed := if s.opr.inHand.isSome then 0 else min Config.missedLimit (s.opr.missed + 1)
  let s1 := s.onOpr fun o => { o with missed := missed }
  if s.opr.partnerPresent then
    if missed = Config.missedLimit then losePartner s1 else s1
  else s1.onOpr fun o => { o with lossCount := min Config.lossLimit (o.lossCount + 1) }

/-- The count a serving pulse makes: one more, or after count sync the partner's frame number plus one (R2, R165). -/
def nextCount (s : State) : Word32 :=
  match s.opr.inHand with
  | none => s.fcy.count + 1
  | some r => if s.opr.role = .standby && r.frame ≠ (ownReport s).frame then r.frame + 1 else s.fcy.count + 1

/-- Two reports agree on the five compared values (R166). -/
def sameFrame (a b : Report) : Bool :=
  a.frame = b.frame && a.airSeq = b.airSeq && a.runId = b.runId && a.cursor = b.cursor && a.level = b.level

/-- A comparison that agrees (R166). -/
def matchStep (s : State) : State :=
  let run := min 8 (s.opr.matchRun + 1)
  let s1 := s.onOpr fun o => { o with matchRun := run, mismatchRun := 0 }
  if !s.opr.inStep && run = 8 then raiseStep (s1.onOpr fun o => { o with inStep := true }) else s1

/-- A comparison that disagrees (R166). -/
def mismatchStep (s : State) : State :=
  let run := min 2 (s.opr.mismatchRun + 1)
  let s1 := s.onOpr fun o => { o with matchRun := 0, mismatchRun := run }
  if run = 2 then leaveStep s1 else s1

/-- The step comparison of a serving pulse (R166). -/
def stepComparison (s : State) : State :=
  match s.opr.inHand with
  | none => s.onOpr fun o => { o with matchRun := 0 }
  | some r => if sameFrame (ownReport s) r then matchStep s else mismatchStep s

/-! ### The negotiation record (R167) -/

/-- The stage frames F−2, F−1, F that lie behind a record made at a count: the next serving pulse is the first of the
record's life (log 18). -/
def framesBehind (lineFrame count : Word32) : Nat :=
  if reached (lineFrame - 1) count then 2 else if reached (lineFrame - 2) count then 1 else 0

/-- A new record. -/
def newNegotiation (lineFrame : Word32) (side : Side) (origin : Origin) (force : Bool) (stage : Stage)
    (offerSeen : Bool) (entries : List JoinedEntry) (count : Word32) : Negotiation where
  lineFrame := lineFrame
  side := side
  origin := origin
  automatic := origin = .automatic
  force := force
  stage := stage
  offerSeen := offerSeen
  entries := entries
  passed := framesBehind lineFrame count

/-- The stages a SWAP entry can still join: not past REQUESTING or OFFERING (R167). -/
def joinable : Stage → Bool
  | .requesting => true
  | .waiting => true
  | .offering => true
  | .released => false
  | .withdrawn => false
  | .releaseReceived => false

/-- The record after the take engine hands over a SWAP entry, or none when the entry fails at once (R167). -/
def joinSwap (j : JoinedEntry) (lineFrame : Word32) (force : Bool) (s : State) : Option Negotiation :=
  match s.opr.negotiation with
  | none =>
    match s.opr.role with
    | .main => some (newNegotiation lineFrame .mainSide .take force .requesting false [j] s.fcy.count)
    | .standby => some (newNegotiation lineFrame .standbySide .take force .waiting false [j] s.fcy.count)
    | .handingOver => none
    | .sole => none
  | some n =>
    if (s.opr.role = .main || s.opr.role = .standby) && n.lineFrame = lineFrame && joinable n.stage then
      some { n with origin := .take, force := n.force || force, entries := n.entries ++ [j] }
    else none

/-- The record ends: every joined entry completes with its outcome, applied frame F for DONE and the count plus one
otherwise (R87, R167), in the order of joining (DESIGN CHOICE, log 35). -/
def endNegotiation (status : TakeStatus) (s : State) : State :=
  match s.opr.negotiation with
  | none => s
  | some n =>
    let applied := if status = .done then n.lineFrame else s.fcy.count + 1
    n.entries.foldl (completeJoined status applied) (setNegotiation none s)

/-- FAULT with the cause ROLE CHANGE for a role change made by a record that began as an automatic negotiation (R170,
log 27). -/
def faultIfAutomatic (n : Negotiation) (s : State) : State :=
  if n.automatic then raiseFault Causes.addRole s else s

/-! ### Stages of the main side (R168) -/

/-- The four conditions of pulse F−1 (R168). -/
def commits (n : Negotiation) (s : State) : Bool :=
  s.opr.role = .main && n.offerSeen && s.opr.partnerPresent &&
    (!n.entries.isEmpty || (n.origin = .automatic && alarm s))

/-- Pulse F−1 on the main side: RELEASED, or the record ends (R168). -/
def mainCommit (n : Negotiation) (s : State) : State :=
  if commits n s then setNegotiation (some { n with stage := .released }) s else endNegotiation .swapFailed s

/-- Pulse F on the main side: a RELEASED main becomes HANDING OVER; each joined take counts as applied (R92, R168). -/
def mainHandOver (n : Negotiation) (s : State) : State × Nat :=
  if n.stage = .released && s.opr.role = .main then
    (faultIfAutomatic n (setRole .handingOver s), n.entries.length)
  else (s, 0)

/-- The report in hand is the partner's for frame F and shows role MAIN (R168). -/
def partnerTook (n : Negotiation) (s : State) : Bool :=
  match s.opr.inHand with
  | none => false
  | some r => r.frame = n.lineFrame && r.role = .main

/-- Pulse F+1 on the main side: STANDBY when the partner took the line, MAIN again otherwise (R168). -/
def mainSettle (n : Negotiation) (s : State) : State :=
  if s.opr.role ≠ .handingOver then s
  else if partnerTook n s then endNegotiation .done (faultIfAutomatic n (setRole .standby s))
  else endNegotiation .swapFailed (faultIfAutomatic n (setRole .main s))

/-! ### Stages of the standby side (R169) -/

/-- The standby is IN STEP, or FORCE is set. -/
def fit (n : Negotiation) (s : State) : Bool := s.opr.inStep || n.force

/-- The check before F−1: WAITING and OFFERING follow the state (R169, step 1). -/
def offerCheck (n : Negotiation) (s : State) : Negotiation :=
  if n.stage = .waiting || n.stage = .offering then
    { n with stage := if fit n s then .offering else .waiting }
  else n

/-- Pulse F−2 on the standby side, after the check: a WAITING record ends NOT IN STEP (R169, step 2). -/
def standbyAtMinus2 (n : Negotiation) (s : State) : State :=
  if n.stage = .waiting then endNegotiation .notInStep s else s

/-- Pulse F−1 on the standby side: an OFFERING standby that is fit goes on offering, any other stage becomes WITHDRAWN
(R169, step 3). -/
def standbyAtMinus1 (n : Negotiation) (s : State) : State :=
  if n.stage = .offering && fit n s then s else setNegotiation (some { n with stage := .withdrawn }) s

/-- Pulse F on the standby side: it takes the line, or the record ends SWAP FAILED (R169, step 5). -/
def standbyTake (n : Negotiation) (s : State) : State × Nat :=
  if n.stage = .releaseReceived && fit n s then
    (endNegotiation .done (faultIfAutomatic n (setRole .main s)), n.entries.length)
  else (endNegotiation .swapFailed s, 0)

/-! ### The stages of a pulse -/

/-- The stage of frame F − 2 + k, for k = 0..3, and the number of takes it applies. -/
def doStage (k : Nat) (n : Negotiation) (s : State) : State × Nat :=
  match n.side, k with
  | .mainSide, 1 => (mainCommit n s, 0)
  | .mainSide, 2 => mainHandOver n s
  | .mainSide, 3 => (mainSettle n s, 0)
  | .mainSide, _ => (s, 0)
  | .standbySide, 0 => (standbyAtMinus2 n s, 0)
  | .standbySide, 1 => (standbyAtMinus1 n s, 0)
  | .standbySide, 2 => standbyTake n s
  | .standbySide, _ => (s, 0)

/-- The stage of frame F − 2 + k falls due at this pulse. -/
def stageDue (k : Nat) (n : Negotiation) (count : Word32) : Bool :=
  n.passed = k && reached (n.lineFrame - 2 + BitVec.ofNat 32 k) count

/-- One stage, when it falls due; with it the number of takes applied so far at this pulse. -/
def stageStep (acc : State × Nat) (k : Nat) : State × Nat :=
  match acc.1.opr.negotiation with
  | none => acc
  | some n =>
    if stageDue k n acc.1.fcy.count then
      let n' := { n with passed := k + 1 }
      let r := doStage k n' (setNegotiation (some n') acc.1)
      (r.1, acc.2 + r.2)
    else acc

/-- The standby's check of this pulse, at pulses before F−1 and at the stage of F−2 (R169, steps 1 and 2). -/
def standbyCheck (s : State) : State :=
  match s.opr.negotiation with
  | none => s
  | some n =>
    if n.side = .standbySide && (!reached (n.lineFrame - 1) s.fcy.count || stageDue 0 n s.fcy.count) then
      setNegotiation (some (offerCheck n s)) s
    else s

/-- The negotiation stages that fall due at a serving pulse, in order of frame (R167 to R169), and the number of SWAP
takes applied by a role change at pulse F (R92). -/
def negotiationStages (s : State) : State × Nat := [0, 1, 2, 3].foldl stageStep (standbyCheck s, 0)

/-! ### Takeover and contention (R170, R171) -/

/-- The condition of an automatic negotiation at a serving pulse (R170). -/
def seesAlarm (s : State) : Bool :=
  match s.opr.inHand with
  | none => false
  | some r => r.role = .main && r.alarm

/-- The standby's automatic negotiation (R170). -/
def autoNegotiate (s : State) : State :=
  if s.opr.role = .standby && s.opr.autoTakeover && s.opr.inStep && s.opr.negotiation.isNone && seesAlarm s then
    setNegotiation (some (newNegotiation (s.fcy.count + 4) .standbySide .automatic false .offering false []
      s.fcy.count)) s
  else s

/-- A role change outside the negotiation: the record's entries complete SWAP FAILED, and FAULT is raised (R167, R170,
R171). -/
def forceRole (r : Role) (s : State) : State :=
  raiseFault Causes.addRole (endNegotiation .swapFailed (setRole r s))

/-- Forced takeover (R170). -/
def forcedTakeover (s : State) : State :=
  if s.opr.role = .standby && s.opr.autoTakeover && !s.opr.partnerPresent && s.opr.lossCount = Config.lossLimit &&
      s.palarm then
    forceRole .main s
  else s

/-- Self-release (R170). -/
def selfRelease (s : State) : State :=
  if s.opr.role = .main && alarm s && !s.opr.partnerPresent && s.opr.lossCount = Config.lossLimit && !s.palarm then
    forceRole .standby s
  else s

/-- The pulse that makes `count` after `before` is pulse F: the first at which F is reached. -/
def isPulse (f before count : Word32) : Bool := reached f count && !reached f before

/-- A report showing MAIN makes this part yield: it is behind, or the frames are equal and it is PAIR-SECOND (R171). A report
does not carry its sender's strap, so of two parts both strapped PAIR-SECOND with equal frames each yields, where the rule's
closing sentence has parts strapped alike keep the line (DESIGN CHOICE, log 44). -/
def yieldsTo (before : Word32) (s : State) (r : Report) : Bool :=
  let d := (r.frame - (ownReport s).frame).toNat
  !(r.swap = .release && isPulse r.lineFrame before s.fcy.count) &&
    ((1 ≤ d && d ≤ 2147483647) || ((d = 0 || d = 2147483648) && s.opr.strap = .pairSecond))

/-- Contention (R171): a MAIN yields when a report showing MAIN of the period just ended asks it to (log 20). -/
def contention (before : Word32) (s : State) : State :=
  if s.opr.role = .main && s.opr.mains.any (yieldsTo before s) then forceRole .standby s else s

/-- OPR's stages 4 to 6 of a serving pulse (R163): negotiation, takeover, contention; with the SWAP takes applied. -/
def roleChanges (before : Word32) (s : State) : State × Nat :=
  let r := negotiationStages s
  (contention before (selfRelease (forcedTakeover (autoNegotiate r.1))), r.2)

/-! ### Sending reports (R161, R162) -/

/-- The swap word and line frame the negotiation stage gives (R168, R169). -/
def swapWord (s : State) : SwapWord × Word32 :=
  match s.opr.negotiation with
  | none => (.none, 0#32)
  | some n =>
    match n.stage with
    | .requesting => if reached (n.lineFrame - 1) s.fcy.count then (.none, 0#32) else (.request, n.lineFrame)
    | .released => if s.opr.role = .main then (.release, n.lineFrame) else (.none, 0#32)
    | .offering => (.offer, n.lineFrame)
    | .waiting => (.none, 0#32)
    | .withdrawn => (.none, 0#32)
    | .releaseReceived => (.none, 0#32)

/-- The role a report shows (R161); a SOLE part sends none. -/
def Role.reported : Role → ReportRole
  | .sole => .main
  | .main => .main
  | .standby => .standby
  | .handingOver => .handingOver

/-- The report sent for the composition a pulse ends, whose values were handed over at its start (R162). -/
def reportFor (ended : Handed) (s : State) : Report where
  frame := ended.frame
  role := s.opr.role.reported
  airSeq := ended.airSeq
  runId := ended.runId
  cursor := ended.cursor
  level := byte ended.level
  alarm := alarm s
  swap := (swapWord s).1
  lineFrame := (swapWord s).2

/-- The end of OPR's work at a pulse: the report in hand is cleared and the own report sent (R163). -/
def closePeriod (ended : Handed) (s : State) : State :=
  if paired s then s.onOpr fun o => { o with inHand := none, mains := [], sent := some (reportFor ended s) } else s

/-- A serving pulse passes over a report in reception: after two it is discarded (R163). -/
def linkPulse (s : State) : State :=
  s.onOpr fun o =>
    match o.link with
    | none => o
    | some l => if l.pulses + 1 = 2 then { o with link := none }
                else { o with link := some { l with pulses := l.pulses + 1 } }

/-! ### Receiving reports (R163, R168 to R170) -/

/-- The report is on time: frame q + 1 is not reached (R163). -/
def onTime (r : Report) (s : State) : Bool := !reached (r.frame + 1) s.fcy.count

/-- An on-time report becomes the report in hand and makes a LOST partner PRESENT (R163, R164). -/
def takeInHand (r : Report) (s : State) : State :=
  s.onOpr fun o =>
    if o.partnerPresent then { o with inHand := some r }
    else { o with inHand := some r, partnerPresent := true, partnerSeen := true, missed := 0, lossCount := 0 }

/-- OFFER(F) received on time by a MAIN (R168, R170). -/
def receiveOffer (r : Report) (s : State) : State :=
  if reached (r.lineFrame - 1) r.frame then s
  else
    match s.opr.negotiation with
    | none =>
      if alarm s then
        setNegotiation (some (newNegotiation r.lineFrame .mainSide .automatic false .requesting true [] s.fcy.count)) s
      else s
    | some n =>
      if n.stage = .requesting && n.lineFrame = r.lineFrame then setNegotiation (some { n with offerSeen := true }) s
      else s

/-- REQUEST(F) received on time by a STANDBY (R169). -/
def receiveRequest (r : Report) (s : State) : State :=
  match s.opr.negotiation with
  | none =>
    if s.opr.inStep && !reached (r.lineFrame - 1) s.fcy.count then
      setNegotiation (some (newNegotiation r.lineFrame .standbySide .request false .waiting false [] s.fcy.count)) s
    else s
  | some n =>
    if n.origin = .automatic then
      setNegotiation (some { n with lineFrame := r.lineFrame, origin := .request,
                                    passed := framesBehind r.lineFrame s.fcy.count }) s
    else s

/-- RELEASE(F) received on time by a STANDBY (R169, step 4). -/
def receiveRelease (r : Report) (s : State) : State :=
  match s.opr.negotiation with
  | none => s
  | some n =>
    if n.stage = .offering && n.lineFrame = r.lineFrame then
      setNegotiation (some { n with stage := .releaseReceived }) s
    else s

/-- The swap word of an on-time report is acted on at receipt (R163). -/
def actOnSwapWord (r : Report) (s : State) : State :=
  match s.opr.role, r.swap with
  | .main, .offer => receiveOffer r s
  | .standby, .request => receiveRequest r s
  | .standby, .release => receiveRelease r s
  | _, _ => s

/-- A report showing MAIN is noted for the contention test, on time or late (R171). -/
def noteMain (r : Report) (s : State) : State :=
  if r.role = .main then s.onOpr fun o => { o with mains := o.mains ++ [r] } else s

/-- A checked report is received by a paired part (R163). -/
def receiveReport (r : Report) (s : State) : State :=
  let s1 := noteMain r s
  if onTime r s then actOnSwapWord r (takeInHand r s1) else s1

/-- The partner link receiver's state is replaced. -/
def setLink (l : Option LinkReception) (s : State) : State := s.onOpr fun o => { o with link := l }

/-- A byte of a report in reception; the last one completes it, and it is received when its checks pass (R163). -/
def linkByte (l : LinkReception) (b : Byte) (s : State) : State :=
  let bytes := l.bytes ++ [b]
  if bytes.length < 22 then setLink (some { l with bytes := bytes }) s
  else
    match parseReport bytes with
    | none => setLink none s
    | some r => receiveReport r (setLink none s)

/-- A character on the partner link of a paired part (R163). -/
def linkCharacter (c : Character) (s : State) : State :=
  match s.opr.link, c with
  | none, .good b => if b = 0x96 then setLink (some { bytes := [], pulses := 0 }) s else s
  | none, .bad => s
  | some _, .bad => setLink none s
  | some l, .good b => linkByte l b s

/-- What happens only in a paired role: in role SOLE the partner link is inert (R160). -/
def whenPaired (f : State → State) (s : State) : State := if paired s then f s else s

/-- PARTNER_REPORT (R163): the report in reception is complete and has passed its checks. -/
def execPartnerReport (r : Report) (s : State) : Result :=
  .next (whileRunning (whenPaired fun s => receiveReport r (setLink none s)) s)

/-- PARTNER_LINK_CHARACTER (R163). -/
def execPartnerLinkCharacter (c : Character) (s : State) : Result :=
  .next (whileRunning (whenPaired (linkCharacter c)) s)

/-! ### READ OUTPUT STATUS and SET AUTO TAKEOVER (R170, R173) -/

/-- The bytes of the negotiation in READ OUTPUT STATUS: bytes 7 to 13 (R173). -/
def negotiationBytes : Option Negotiation → List Byte
  | none => List.replicate 7 0
  | some n =>
    n.stage.code :: byte (n.origin.code + 4 * bit n.force + 8 * bit n.offerSeen) :: bytes32 n.lineFrame ++
      [byte n.entries.length]

/-- The data of READ OUTPUT STATUS (R173). -/
def outputStatus (s : State) : List Byte :=
  let o := s.opr
  [o.lineMode.code, o.frameLineMode.code, o.role.code, o.strap.code, flagByte [o.partnerPresent], flagByte [o.inStep],
   flagByte [o.autoTakeover, alarm s, s.palarm, o.partnerSeen, lineDriven s]] ++ negotiationBytes o.negotiation ++
  [byte o.missed, byte o.lossCount, byte o.matchRun, byte o.mismatchRun]

/-- The rule of READ OUTPUT STATUS (R173). -/
def reqReadOutputStatus : Handler := fun _ params s =>
  match params with
  | [] => done (outputStatus s) s
  | _ :: _ => refuse .range s

/-- The rule of SET AUTO TAKEOVER (R170). -/
def reqSetAutoTakeover : Handler := fun _ params s =>
  match params with
  | [b] => done [flagByte [b.getLsbD 0]] (s.onOpr fun o => { o with autoTakeover := b.getLsbD 0 })
  | _ => refuse .range s

/-- The level of the PARTNER-ALARM input is presented (log 6). -/
def sampleAlarm (level : Bool) (s : State) : State := { s with palarm := level }

/-- READ_OUTPUT_STATUS (R173), with the level of PARTNER-ALARM at its execution. -/
def execReadOutputStatus (p : Port) (params : List Byte) (palarm : Bool) (s : State) : Result :=
  .next (whileRunning (fun s => completeRequest p 0x48 params reqReadOutputStatus (sampleAlarm palarm s)) s)

/-- SET_AUTO_TAKEOVER (R170). -/
def execSetAutoTakeover (p : Port) (params : List Byte) (s : State) : Result :=
  .next (request p 0x49 params reqSetAutoTakeover s)

/-! ### Restart (R175) -/

/-- A record after a restart: a committed one is kept without its entries, any other is abandoned (R175). -/
def restartNegotiation : Option Negotiation → Option Negotiation
  | none => none
  | some n =>
    match n.stage with
    | .released => some { n with entries := [] }
    | .releaseReceived => some { n with entries := [] }
    | .requesting => none
    | .waiting => none
    | .offering => none
    | .withdrawn => none

/-- OPR at a restart (R175). -/
def restartOpr (s : State) : State :=
  s.onOpr fun o => { o with lineMode := .pass, negotiation := restartNegotiation o.negotiation }

end Sys2Proof.Machine
end

