-- ==== Sys2Proof/Machine/Plans.lean ====
section
/-! DEFINITION. Machine/Plans.lean: chart plans, the edit hold and the air lock (chapter 04): the view clamps, the
operations the take engine asks for (R53 to R55), the draft edit commands, READ PLAN, the arbiter and the lock. -/

namespace Sys2Proof.Machine

/-! ### View clamps and the take engine's writes (R52 to R55) -/

/-- A view is written into a plan with the view clamps (R52). -/
def writeView (x0 y0 w : Int) (p : Plan) : Plan :=
  let w' := clampInt 1024 65535 w
  { p with
    x0 := (clampInt 0 (65536 - w') x0).toNat
    y0 := (clampInt 0 (65536 - heightOf w'.toNat) y0).toNat
    w := w'.toNat }

/-- What every publish copies at once: layers, stride, gauges and areas; the air sequence rises by one (R53, R54). -/
def publishContent (draft air : Plan) : Plan :=
  { air with
    seq := air.seq + 1
    layers := draft.layers
    stride := draft.stride
    gauges := draft.gauges
    areas := draft.areas }

/-- The air plan after a publish by cut (R53). -/
def publishCut (draft air : Plan) : Plan :=
  writeView draft.x0 draft.y0 draft.w { publishContent draft air with cursor := draft.cursor }

/-- The air plan after the content of a swept publish (R54): cursor and view stand. -/
def publishSwept (draft air : Plan) : Plan := publishContent draft air

/-! ### The draft edit commands (R56 to R62) -/

/-- The draft is rewritten. -/
def onDraft (f : Plan → Plan) (s : State) : State := s.onPln fun l => { l with draft := f l.draft }

/-- The rule of SET VIEW (R56, R57). -/
def reqSetView : Handler := fun p params s =>
  if !holds s p then refuse .notHolder s
  else
    match params with
    | [x0, x1, y0, y1, w0, w1] =>
      let s' := onDraft (writeView (le16 x0 x1).toNat (le16 y0 y1).toNat (le16 w0 w1).toNat) s
      let d := s'.pln.draft
      done (nat16 d.x0 ++ nat16 d.y0 ++ nat16 d.w ++ nat16 d.h) s'
    | _ => refuse .range s

/-- The rule of SET CURSOR (R56, R58). -/
def reqSetCursor : Handler := fun p params s =>
  if !holds s p then refuse .notHolder s
  else
    match params with
    | [c0, c1, c2, c3] => done [] (onDraft (fun d => { d with cursor := le32 c0 c1 c2 c3 }) s)
    | _ => refuse .range s

/-- The rule of SET LAYERS (R56, R59). -/
def reqSetLayers : Handler := fun p params s =>
  if !holds s p then refuse .notHolder s
  else
    match params with
    | [layers, stride] =>
      let s' := onDraft (fun d => { d with layers := Layers.ofByte layers, stride := clampNat 1 4 stride.toNat }) s
      done [s'.pln.draft.layers.byte, byte s'.pln.draft.stride] s'
    | _ => refuse .range s

/-- The rule of SET GAUGE (R56, R60). -/
def reqSetGauge : Handler := fun p params s =>
  if !holds s p then refuse .notHolder s
  else
    match params with
    | [slot, station, flags] =>
      if 11 < slot.toNat || station = 0 then refuse .range s
      else
        done [] (onDraft (fun d => { d with
          gauges := setAt d.gauges slot.toNat (some { station := station.toNat, curve := flags.getLsbD 0 }) }) s)
    | _ => refuse .range s

/-- The rule of CLEAR GAUGE (R56, R60). -/
def reqClearGauge : Handler := fun p params s =>
  if !holds s p then refuse .notHolder s
  else
    match params with
    | [slot] =>
      if 11 < slot.toNat then refuse .range s
      else done [] (onDraft (fun d => { d with gauges := setAt d.gauges slot.toNat none }) s)
    | _ => refuse .range s

/-- The ids of a list in the order carried, each at its first place only, after those kept already (R61). -/
def keepFirst : List Nat → List Nat → List Nat
  | kept, [] => kept
  | kept, x :: rest => if kept.contains x then keepFirst kept rest else keepFirst (kept ++ [x]) rest

/-- An id that is 0 or above 4,095 (R61). -/
def badId (id : Nat) : Bool := id = 0 || 4095 < id

/-- The rule of SET AREAS (R56, R61). -/
def reqSetAreas : Handler := fun p params s =>
  if !holds s p then refuse .notHolder s
  else
    match params with
    | [] => refuse .range s
    | c :: rest =>
      let ids := (parseIds rest).take 8
      if rest.length ≠ 2 * c.toNat || 124 < c.toNat then refuse .range s
      else if ids.any badId then refuse .range s
      else
        let s' := onDraft (fun d => { d with areas := keepFirst [] ids }) s
        done [byte s'.pln.draft.areas.length] s'

/-- The rule of COPY AIR TO DRAFT (R56, R62). -/
def reqCopyAirToDraft : Handler := fun p params s =>
  if !holds s p then refuse .notHolder s
  else
    match params with
    | [] =>
      let s' := s.onPln fun l => { l with draft := l.air }
      done (bytes16 s'.pln.draft.seq) s'
    | _ :: _ => refuse .range s

/-! ### READ PLAN (R63) -/

/-- The two bytes of a gauge slot (R63). -/
def gaugeBytes : Option Gauge → List Byte
  | none => [0, 0]
  | some g => [byte g.station, flagByte [g.curve]]

/-- The plan part of READ PLAN: 57 bytes (R63). -/
def Plan.bytes (p : Plan) : List Byte :=
  bytes16 p.seq ++ nat16 p.x0 ++ nat16 p.y0 ++ nat16 p.w ++ nat16 p.h ++ bytes32 p.cursor ++
    [p.layers.byte, byte p.stride] ++ (p.gauges.map gaugeBytes).flatten ++
    byte p.areas.length :: ((p.areas ++ List.replicate (8 - p.areas.length) 0).map nat16).flatten

/-- The hold, the pending flags and the lock (R63). -/
def holdBytes (l : Pln) : List Byte :=
  [portCode l.hold, flagByte [l.waiting.a, l.waiting.b], portCode l.lock]

/-- The rule of READ PLAN (R63). -/
def reqReadPlan : Handler := fun _ params s =>
  match params with
  | [which] =>
    if which = 0 then done (s.pln.draft.bytes ++ holdBytes s.pln) s
    else if which = 1 then done (s.pln.air.bytes ++ holdBytes s.pln) s
    else refuse .range s
  | _ => refuse .range s

/-! ### The edit hold (R64 to R68) -/

/-- The hold event of a port changes and its HOLD notice is raised (R68). -/
def tellHold (p : Port) (e : HoldEvent) (s : State) : State :=
  raiseHold p (s.onPln fun l => { l with event := l.event.set p e })

/-- Port A takes the hold from port B (R66). -/
def reclaimHold (s : State) : State :=
  tellHold .b .lost (s.onPln fun l => { l with hold := some .a, waiting := l.waiting.set .a false })

/-- The rule of REQUEST HOLD, with RECLAIM from port A (R65, R66). A RANGE reply carries no data (DESIGN CHOICE,
log 34). -/
def reqRequestHold : Handler := fun p params s =>
  match params with
  | [flags] =>
    match s.pln.hold with
    | none => done [portCode (some p)] (s.onPln fun l => { l with hold := some p })
    | some q =>
      if q = p then done [portCode (some p)] s
      else if p = .a && flags.getLsbD 0 then done [portCode (some .a)] (reclaimHold s)
      else
        { status := .pending, data := [portCode (some q)],
          state := s.onPln fun l => { l with waiting := l.waiting.set p true } }
  | _ => refuse .range s

/-- The holder p releases: the hold passes to a waiting other port with GRANTED, or becomes FREE (R67). -/
def releaseHold (p : Port) (s : State) : State :=
  if s.pln.waiting.get p.other then
    tellHold p.other .granted
      (s.onPln fun l => { l with hold := some p.other, waiting := l.waiting.set p.other false })
  else s.onPln fun l => { l with hold := none }

/-- The rule of RELEASE HOLD (R67). A RANGE reply carries no data (DESIGN CHOICE, log 34). -/
def reqReleaseHold : Handler := fun p params s =>
  match params with
  | [] =>
    if holds s p then
      let s' := releaseHold p s
      done [portCode s'.pln.hold] s'
    else if s.pln.waiting.get p then
      done [portCode s.pln.hold] (s.onPln fun l => { l with waiting := l.waiting.set p false })
    else { status := .notHolder, data := [portCode s.pln.hold], state := s }
  | _ :: _ => refuse .range s

/-! ### The air lock (R69, R70) -/

/-- The rule of SET AIR LOCK (R69). A RANGE reply carries no data (DESIGN CHOICE, log 34). -/
def reqSetAirLock : Handler := fun p params s =>
  match params with
  | [] =>
    match s.pln.lock with
    | none => done [portCode (some p)] (s.onPln fun l => { l with lock := some p })
    | some q =>
      if q = p then done [portCode (some q)] s else { status := .locked, data := [portCode (some q)], state := s }
  | _ :: _ => refuse .range s

/-- The rule of CLEAR AIR LOCK (R70). A RANGE reply carries no data (DESIGN CHOICE, log 34). -/
def reqClearAirLock : Handler := fun p params s =>
  match params with
  | [] =>
    match s.pln.lock with
    | none => done [portCode none] s
    | some q =>
      if q = p then done [portCode none] (s.onPln fun l => { l with lock := none })
      else { status := .locked, data := [portCode (some q)], state := s }
  | _ :: _ => refuse .range s

/-! ### The commands -/

/-- SET_VIEW (R57). -/
def execSetView (p : Port) (params : List Byte) (s : State) : Result := .next (request p 0x12 params reqSetView s)

/-- SET_CURSOR (R58). -/
def execSetCursor (p : Port) (params : List Byte) (s : State) : Result := .next (request p 0x13 params reqSetCursor s)

/-- SET_LAYERS (R59). -/
def execSetLayers (p : Port) (params : List Byte) (s : State) : Result := .next (request p 0x14 params reqSetLayers s)

/-- SET_GAUGE (R60). -/
def execSetGauge (p : Port) (params : List Byte) (s : State) : Result := .next (request p 0x15 params reqSetGauge s)

/-- CLEAR_GAUGE (R60). -/
def execClearGauge (p : Port) (params : List Byte) (s : State) : Result :=
  .next (request p 0x16 params reqClearGauge s)

/-- SET_AREAS (R61). -/
def execSetAreas (p : Port) (params : List Byte) (s : State) : Result := .next (request p 0x17 params reqSetAreas s)

/-- COPY_AIR_TO_DRAFT (R62). -/
def execCopyAirToDraft (p : Port) (params : List Byte) (s : State) : Result :=
  .next (request p 0x18 params reqCopyAirToDraft s)

/-- READ_PLAN (R63). -/
def execReadPlan (p : Port) (params : List Byte) (s : State) : Result := .next (request p 0x19 params reqReadPlan s)

/-- REQUEST_HOLD (R65, R66). -/
def execRequestHold (p : Port) (params : List Byte) (s : State) : Result :=
  .next (request p 0x10 params reqRequestHold s)

/-- RECLAIM (R66): REQUEST HOLD from port A with bit 0 of its parameter set. -/
def execReclaim (ignored : BitVec 7) (s : State) : Result :=
  .next (request .a 0x10 [ignored ++ 1#1] reqRequestHold s)

/-- RELEASE_HOLD (R67). -/
def execReleaseHold (p : Port) (params : List Byte) (s : State) : Result :=
  .next (request p 0x11 params reqReleaseHold s)

/-- SET_AIR_LOCK (R69). -/
def execSetAirLock (p : Port) (params : List Byte) (s : State) : Result :=
  .next (request p 0x1A params reqSetAirLock s)

/-- CLEAR_AIR_LOCK (R70). -/
def execClearAirLock (p : Port) (params : List Byte) (s : State) : Result :=
  .next (request p 0x1B params reqClearAirLock s)

end Sys2Proof.Machine
end

