-- ==== Sys2Proof/Machine/Takes.lean ====
section
/-! DEFINITION. Machine/Takes.lean: the take engine (chapter 05): submission, the queue, the two passes of a composition
start, sweeps, completions, the error log, flushing and the TS code. -/

namespace Sys2Proof.Machine

/-! ### Tags and the queue (R74 to R76) -/

/-- A tag of a port is BUSY: it names a queue entry or an unread record (R74). -/
def tagBusy (s : State) (p : Port) (tag : Nat) : Bool :=
  (s.tke.queue.any fun e => e.port = p && e.tag = tag) || ((s.tke.completions.get p).any fun c => c.tag = tag)

/-- A new entry is placed before the first entry whose due frame is not reached at its own (R76; log 17). -/
def insertEntry (e : TakeEntry) : List TakeEntry → List TakeEntry
  | [] => [e]
  | x :: rest => if reached x.due e.due then x :: insertEntry e rest else e :: x :: rest

/-- The entry of a port and tag changes its state. -/
def setEntryState (p : Port) (tag : Nat) (st : EntryState) (q : List TakeEntry) : List TakeEntry :=
  q.map fun e => if e.port = p && e.tag = tag then { e with state := st } else e

/-- An entry of the queue changes its state. -/
def markEntry (e : TakeEntry) (st : EntryState) (s : State) : State :=
  s.onTke fun t => { t with queue := setEntryState e.port e.tag st t.queue }

/-- The entry is SWEEPING. -/
def isSweeping (e : TakeEntry) : Bool :=
  match e.state with
  | .sweeping _ _ _ => true
  | .queued => false
  | .deferred => false
  | .negotiating => false

/-- The entry waits: QUEUED or DEFERRED. -/
def isWaiting (e : TakeEntry) : Bool := e.state = .queued || e.state = .deferred

/-! ### Sweeps (R82 to R84) -/

/-- The value of a sweep of plain integers at step k of n (R82). -/
def sweepValue (start target : Int) (k n : Nat) : Int := start + Int.tdiv ((target - start) * k) n

/-- The cursor of a sweep at its step k: the short way round the chart clock (R82). -/
def sweepCursor (r : SweepRecord) : Word32 :=
  r.cursorStart + BitVec.ofInt 32 (Int.tdiv ((r.cursorTarget - r.cursorStart).toInt * r.k) r.n)

/-- A sweep step writes the air plan: the cursor, and with a swept view the view through its clamps (R55, R82). -/
def writeStep (r : SweepRecord) (air : Plan) : Plan :=
  let air' := { air with cursor := sweepCursor r }
  match r.view with
  | none => air'
  | some v =>
    writeView (sweepValue v.x0Start v.x0Target r.k r.n) (sweepValue v.y0Start v.y0Target r.k r.n)
      (sweepValue v.wStart v.wTarget r.k r.n) air'

/-- The air plan is rewritten. -/
def onAirPlan (f : Plan → Plan) (s : State) : State := s.onPln fun l => { l with air := f l.air }

/-- A sweep writes its step and stays SWEEPING, or completes at its last step (R79, R81, R83). -/
def takeStep (e : TakeEntry) (r : SweepRecord) (status : TakeStatus) (applied : Word32) (s : State) : State :=
  let s1 := onAirPlan (writeStep r) s
  if r.n ≤ r.k then completeTake e status applied s1 else markEntry e (.sweeping r status applied) s1

/-- A SWEEPING entry completes SUPERSEDED with the frame of its own application (R84). -/
def supersedeEntry (e : TakeEntry) (s : State) : State :=
  match e.state with
  | .sweeping _ _ applied => completeTake e .superseded applied s
  | .queued => s
  | .deferred => s
  | .negotiating => s

/-- The SWEEPING entry, if there is one, completes SUPERSEDED (R84). -/
def supersede (s : State) : State :=
  match s.tke.queue.find? isSweeping with
  | none => s
  | some e => supersedeEntry e s

/-! ### Applications (R78 to R81, R85, R86) -/

/-- The edit hold is held by the port other than a take's (R80). -/
def heldByOther (s : State) (p : Port) : Bool := s.pln.hold = some p.other

/-- The status of a take applied on time or past and URGENT. -/
def lateStatus (e : TakeEntry) : TakeStatus := if e.past then .doneLate else .done

/-- The status a PUBLISH is applied with (R78). -/
def publishStatus (e : TakeEntry) (s : State) : TakeStatus :=
  if e.past then .doneLate else if e.urgent && heldByOther s e.port then .doneHeld else .done

/-- A publish by cut is applied (R78). -/
def applyCut (e : TakeEntry) (s : State) : State :=
  let status := publishStatus e s
  let s1 := supersede s
  completeTake e status (s.fcy.count + 1) (onAirPlan (publishCut s1.pln.draft) s1)

/-- A swept publish is applied with its first step (R79). -/
def applySwept (n : Nat) (e : TakeEntry) (s : State) : State :=
  let status := publishStatus e s
  let s1 := supersede s
  let s2 := onAirPlan (publishSwept s1.pln.draft) s1
  let d := s2.pln.draft
  let a := s2.pln.air
  let r : SweepRecord :=
    { n := n, k := 1, cursorStart := a.cursor, cursorTarget := d.cursor
      view := some { x0Start := a.x0, x0Target := d.x0, y0Start := a.y0, y0Target := d.y0, wStart := a.w,
                     wTarget := d.w } }
  takeStep e r status (s.fcy.count + 1) s2

/-- A SWEEP is applied with its first step (R81). -/
def applySweep (n : Nat) (target : Word32) (e : TakeEntry) (s : State) : State :=
  let s1 := supersede s
  let r : SweepRecord := { n := n, k := 1, cursorStart := s1.pln.air.cursor, cursorTarget := target, view := none }
  takeStep e r (lateStatus e) (s.fcy.count + 1) s1

/-- A PUBLISH is held back by the other port's hold (R80): it is not URGENT and the other port holds. -/
def heldBack (e : TakeEntry) (s : State) : Bool := !e.urgent && heldByOther s e.port

/-- The frame D + 50 at which a deferred PUBLISH expires is reached by the frame beginning (R80). -/
def expires (e : TakeEntry) (s : State) : Bool := reached (e.due + Config.deferralFrames) (s.fcy.count + 1)

/-- The first pass deals with an entry that is due; with it the number of takes applied at this pulse (R77, R92). -/
def applyEntry (acc : State × Nat) (e : TakeEntry) : State × Nat :=
  let s := acc.1
  match e.kind with
  | .publish n =>
    if heldBack e s then
      if expires e s then (completeTake e .expired (s.fcy.count + 1) s, acc.2) else (markEntry e .deferred s, acc.2)
    else (if n = 0 then applyCut e s else applySwept n e s, acc.2 + 1)
  | .sweep n target => (applySweep n target e s, acc.2 + 1)
  | .adopt =>
    match adopt e.force e.abandonment s.fsw with
    | none => (completeTake e .notReady (s.fcy.count + 1) s, acc.2)
    | some w => (completeTake e (lateStatus e) (s.fcy.count + 1) { s with fsw := w }, acc.2 + 1)
  | .line mode =>
    (completeTake e (lateStatus e) (s.fcy.count + 1) (s.onOpr fun o => { o with lineMode := mode }), acc.2 + 1)
  | .swap => acc

/-- The entries the first pass deals with: QUEUED or DEFERRED and reached at c + 1, in queue order (R77). A past URGENT
take whose frame lay exactly 2³¹ − 1 frames behind at acceptance is no longer reached there and waits (DESIGN CHOICE
between R75 and R77, log 36). -/
def dueEntries (s : State) : List TakeEntry :=
  s.tke.queue.filter fun e => isWaiting e && reached e.due (s.fcy.count + 1)

/-- The second pass steps the entry that was SWEEPING before this start and still is (R77, R83). -/
def stepSweep (before : Option TakeEntry) (s : State) : State :=
  match before with
  | none => s
  | some b =>
    match findEntry b.port b.tag s.tke.queue with
    | none => s
    | some e =>
      match e.state with
      | .sweeping r status applied => takeStep e { r with k := r.k + 1 } status applied s
      | .queued => s
      | .deferred => s
      | .negotiating => s

/-- The take engine's two passes at a composition start, with the number of takes applied (R77). -/
def applyTakes (s : State) (applied : Nat) : State × Nat :=
  let r := (dueEntries s).foldl applyEntry (s, applied)
  (stepSweep (s.tke.queue.find? isSweeping) r.1, r.2)

/-! ### The take status lines (R92) -/

/-- The TS code of a pulse (R92). -/
def tsCodeOf (flushed : Bool) (applied : Nat) : TsCode :=
  if flushed then .flushed else if 2 ≤ applied then .several else if applied = 1 then .one else .none

/-- The TS code is set and the flush mark cleared (R92). -/
def setTsCode (applied : Nat) (s : State) : State :=
  s.onTke fun t => { t with ts := tsCodeOf t.flushMark applied, flushMark := false }

/-! ### SUBMIT TAKE (R73 to R75, R87) -/

/-- The kind of a submission with the parameters it uses; none for a value out of range (R73). -/
def takeKindOf (code n : Nat) (target : Word32) (mode : Nat) : Option TakeKind :=
  match code with
  | 0 => if n ≤ 250 then some (.publish n) else none
  | 1 => if 1 ≤ n && n ≤ 1000 then some (.sweep n target) else none
  | 2 => some .adopt
  | 3 => (LineMode.ofCode mode).map .line
  | 4 => some .swap
  | _ => none

/-- The due frame used (R75): NEXT gives p + 2, and a SWAP's is raised to p + 4 when it is reached there. -/
def dueFrameUsed (kind : TakeKind) (next : Bool) (submitted count : Word32) : Word32 :=
  let d := if next then count + 2 else submitted
  if kind = .swap && reached d (count + 4) then count + 4 else d

/-- A take other than a SWAP is past at acceptance: its due frame is reached at p + 1 (R75). -/
def pastAt (kind : TakeKind) (due count : Word32) : Bool := kind ≠ .swap && reached due (count + 1)

/-- The reply data of an accepted submission (R73). -/
def submitData (disposition : Byte) (status : TakeStatus) (due count : Word32) : List Byte :=
  disposition :: status.code :: bytes32 due ++ bytes32 count

/-- The take completes at acceptance with a status (R75, R87). -/
def completeAtAcceptance (e : TakeEntry) (status : TakeStatus) (s : State) : Answer :=
  done (submitData 1 status e.due s.fcy.count) (recordCompletion (completionOf e status (s.fcy.count + 1)) s)

/-- The take enters the queue (R76). -/
def enqueueTake (e : TakeEntry) (s : State) : Answer :=
  done (submitData 0 .done e.due s.fcy.count) (s.onTke fun t => { t with queue := insertEntry e t.queue })

/-- An accepted take is disposed of (R75, R87). -/
def acceptTake (e : TakeEntry) (s : State) : Answer :=
  if e.kind = .swap then
    match joinSwap { port := e.port, tag := e.tag } e.due e.force s with
    | none => completeAtAcceptance e .swapFailed s
    | some n => enqueueTake e (setNegotiation (some n) s)
  else if e.past && !e.urgent then completeAtAcceptance e .tooLate s
  else enqueueTake e s

/-- The entry of a submission (R76): a SWAP enters NEGOTIATING, any other kind QUEUED. -/
def newEntry (p : Port) (tag : Nat) (kind : TakeKind) (urgent force next : Bool) (submitted : Word32) (s : State) :
    TakeEntry :=
  let due := dueFrameUsed kind next submitted s.fcy.count
  { port := p, tag := tag, kind := kind, due := due, urgent := urgent, force := force,
    past := pastAt kind due s.fcy.count,
    state := if kind = .swap then .negotiating else .queued,
    abandonment := if kind = .adopt then s.fsw.abandonment else 0#32 }

/-- The rule of SUBMIT TAKE (R73). -/
def reqSubmitTake : Handler := fun p params s =>
  match params with
  | [tag, kind, flags, d0, d1, d2, d3, n0, n1, c0, c1, c2, c3, mode] =>
    if 7 < tag.toNat then refuse .range s
    else
      match takeKindOf kind.toNat (le16 n0 n1).toNat (le32 c0 c1 c2 c3) mode.toNat with
      | none => refuse .range s
      | some k =>
        if tagBusy s p tag.toNat then refuse .tagInUse s
        else
          acceptTake (newEntry p tag.toNat k (flags.getLsbD 0) (flags.getLsbD 1) (flags.getLsbD 2)
            (le32 d0 d1 d2 d3) s) s
  | _ => refuse .range s

/-! ### Reading completions and the log (R89, R90) -/

/-- The eleven bytes of a record in READ COMPLETIONS (R89). -/
def Completion.bytes (c : Completion) : List Byte :=
  byte c.tag :: c.sort.code :: c.status.code :: bytes32 c.applied ++ bytes32 c.due

/-- The byte of a port in READ TAKE LOG (R90). -/
def portByte : Port → Byte
  | .a => 0 | .b => 1

/-- The rule of READ COMPLETIONS (R89): the list is returned and emptied, which frees its tags. -/
def reqReadCompletions : Handler := fun p params s =>
  match params with
  | [] =>
    let l := s.tke.completions.get p
    done (byte l.length :: (l.map Completion.bytes).flatten)
      (s.onTke fun t => { t with completions := t.completions.set p [] })
  | _ :: _ => refuse .range s

/-- The rule of READ TAKE LOG (R90). -/
def reqReadTakeLog : Handler := fun _ params s =>
  match params with
  | [] => done (byte s.tke.log.length :: (s.tke.log.map fun c => portByte c.port :: c.bytes).flatten) s
  | _ :: _ => refuse .range s

/-! ### FLUSH TAKES (R91) -/

/-- The entries a flush of a port removes, in queue order. -/
def flushable (p : Port) (q : List TakeEntry) : List TakeEntry := q.filter fun e => e.port = p && isWaiting e

/-- An entry completes FLUSHED (R91). -/
def flushEntry (s : State) (e : TakeEntry) : State := completeTake e .flushed (s.fcy.count + 1) s

/-- The rule of FLUSH TAKES (R91). -/
def reqFlushTakes : Handler := fun p params s =>
  match params with
  | [] =>
    let l := flushable p s.tke.queue
    done [byte l.length] ((l.foldl flushEntry s).onTke fun t => { t with flushMark := true })
  | _ :: _ => refuse .range s

/-! ### Restart (R94) -/

/-- The records a restart logs for the NEGOTIATING entries, in queue order (R94; the order is a DESIGN CHOICE, log 35). -/
def restartRecords (s : State) : List Completion :=
  (s.tke.queue.filter fun e => e.state = .negotiating).map fun e => completionOf e .flushed (s.fcy.count + 1)

/-- TKE at a restart (R94). -/
def restartTke (s : State) : State :=
  s.onTke fun t => { t with
    queue := [], completions := .both [], log := (restartRecords s).foldl appendLog t.log, flushMark := true }

/-! ### The commands -/

/-- SUBMIT_TAKE (R73). -/
def execSubmitTake (p : Port) (params : List Byte) (s : State) : Result :=
  .next (request p 0x30 params reqSubmitTake s)

/-- FLUSH_TAKES (R91). -/
def execFlushTakes (p : Port) (params : List Byte) (s : State) : Result :=
  .next (request p 0x31 params reqFlushTakes s)

/-- READ_COMPLETIONS (R89). -/
def execReadCompletions (p : Port) (params : List Byte) (s : State) : Result :=
  .next (request p 0x32 params reqReadCompletions s)

/-- READ_TAKE_LOG (R90). -/
def execReadTakeLog (p : Port) (params : List Byte) (s : State) : Result :=
  .next (request p 0x33 params reqReadTakeLog s)

end Sys2Proof.Machine
end

