-- ==== Sys2Proof/Machine/FrameCycle.lean ====
section
/-! DEFINITION. Machine/FrameCycle.lean: the frame cycle (chapter 01): the serving pulse with the work of every block at
it, the pulses and expiries of the reference states, what comes about inside a serving pulse, reset and supply, and
READ TIMING. -/

namespace Sys2Proof.Machine

/-! ### The end of a frame period (R2, R12, R13, R159) -/

/-- A completed chart is displayed (R12). -/
def display (s : State) : State :=
  match s.fcy.completed with
  | none => s
  | some c => s.onFcy fun f => { f with completed := none, displayed := some c }

/-- A composition still in flight is abandoned (R13). -/
def abandon (s : State) : State :=
  match s.fcy.inFlight with
  | none => s
  | some _ => increase .lateFrames (s.onFcy fun f => { f with inFlight := none })

/-- The count and the serving time of a pulse, and the frame line mode of the period it begins (R2, R159): the mode
fixed at the composition start before, also when count sync gives the period another frame number (DESIGN CHOICE,
log 38). -/
def advance (t : Time) (count : Word32) (s : State) : State :=
  (s.onFcy fun f => { f with count := count, lastServing := t }).onOpr fun o =>
    { o with frameLineMode := o.nextLineMode }

/-! ### The composition start (R10, R77, R159) -/

/-- OPR fixes the frame line mode of the frame beginning (R159). -/
def fixLineMode (s : State) : State := s.onOpr fun o => { o with nextLineMode := o.lineMode }

/-- The composition start: the take engine's passes, the frame line mode and CMP's part; with the takes applied at this
pulse (R10, R77, R92). -/
def compositionStart (s : State) (applied : Nat) : State × Nat :=
  let r := applyTakes s applied
  (beginComposition (fixLineMode r.1), r.2)

/-! ### The serving pulse -/

/-- OPR's stages 4 to 6 on a paired part; a SOLE part has none (R160, R163). -/
def pairChanges (before : Word32) (s : State) : State × Nat := if paired s then roleChanges before s else (s, 0)

/-- A serving pulse at moment t (R2). The order of the blocks' work is R163's for OPR, whose stages 1 and 2 come before
FCY ends the frame period and whose stages 3 to 6 come after it and before the composition start, and the own report is
sent last (DESIGN CHOICE, log 8). -/
def servingPulse (t : Time) (palarm : Bool) (s : State) : State :=
  let s1 := whenPaired partnerPresence (sampleAlarm palarm s)
  let s2 := abandon (display (advance t (nextCount s1) s1))
  let r3 := pairChanges s.fcy.count (whenPaired stepComparison s2)
  let r4 := compositionStart r3.1 r3.2
  closePeriod s.opr.handed (linkPulse (gapPulse (setTsCode r4.2 r4.1)))

/-! ### Pulses and expiries (R4 to R9) -/

/-- The internal timer expires: its pulse serves and it is set due one nominal period later (R4, R7, R8). With the timer
stopped there is no expiry. -/
def internalPulse (palarm : Bool) (s : State) : State :=
  match s.fcy.timer with
  | none => s
  | some t => servingPulse t palarm (s.onFcy fun f => { f with timer := some (t + Config.nominal f.rate) })

/-- The loss expiry of a LOCKED cycle (R6); the pulse is taken before the rest of its effects (DESIGN CHOICE, log 9). -/
def lossExpiry (palarm : Bool) (s : State) : State :=
  match s.fcy.ref, s.fcy.lastReference with
  | .locked, some t0 =>
    let t := t0 + Config.expiry s.fcy.rate
    let s1 := servingPulse t palarm s
    raiseFault Causes.addReference
      (increase .referenceLosses
        (s1.onFcy fun f => { f with ref := .lost, timer := some (t + Config.nominal f.rate) }))
  | _, _ => s

/-- The regain expiry (R8). -/
def regainExpiry (s : State) : State :=
  if s.fcy.ref = .regaining then s.onFcy fun f => { f with ref := .lost, regain := 0 } else s

/-- A reference pulse locks the cycle: it serves, or is the lock point when it comes less than one guard interval after
the last serving time (R4, R8, R9). -/
def lock (t : Time) (palarm : Bool) (s : State) : State :=
  let s1 := s.onFcy fun f => { f with ref := .locked, regain := 0, timer := none, lastReference := some t }
  if s.fcy.lastServing + Config.guardInterval s.fcy.rate ≤ t then servingPulse t palarm s1 else s1

/-- The moment t is at least 0.75 nominal periods after the last reference time (R5, R8). -/
def spaced (t : Time) (s : State) : Bool :=
  match s.fcy.lastReference with
  | none => true
  | some t0 => t0 + Config.guardInterval s.fcy.rate ≤ t

/-- The moment t is more than 1.25 nominal periods after the last reference time: the expiry of R6 or R8 came before it
(log 5). -/
def overdue (t : Time) (s : State) : Bool :=
  match s.fcy.lastReference with
  | none => false
  | some t0 => t0 + Config.expiry s.fcy.rate < t

/-- A reference pulse in LOST begins REGAINING (R7). -/
def beginRegain (t : Time) (s : State) : State :=
  s.onFcy fun f => { f with ref := .regaining, regain := 1, lastReference := some t }

/-- A reference pulse in REGAINING (R8). -/
def countRegain (t : Time) (palarm : Bool) (s : State) : State :=
  if spaced t s then
    if s.fcy.regain < 3 then s.onFcy fun f => { f with regain := f.regain + 1, lastReference := some t }
    else lock t palarm s
  else s.onFcy fun f => { f with ref := .lost, regain := 0 }

/-- A reference pulse in LOCKED serves, or is ignored as spurious (R5). -/
def lockedPulse (t : Time) (palarm : Bool) (s : State) : State :=
  if spaced t s then servingPulse t palarm (s.onFcy fun f => { f with lastReference := some t }) else s

/-- A reference pulse at moment t (R4, R5, R7, R8). One that comes after an expiry that has not been presented finds the
state that expiry leaves (R5; log 5). -/
def referencePulse (t : Time) (palarm : Bool) (s : State) : State :=
  match s.fcy.ref with
  | .acquiring => lock t palarm s
  | .locked => if overdue t s then beginRegain t (lossExpiry palarm s) else lockedPulse t palarm s
  | .lost => beginRegain t s
  | .regaining => if overdue t s then beginRegain t (regainExpiry s) else countRegain t palarm s

/-- A pulse or expiry that may serve. -/
def pulseEvent : PulseEvent → State → State
  | .internal palarm, s => internalPulse palarm s
  | .reference t palarm, s => referencePulse t palarm s
  | .loss palarm, s => lossExpiry palarm s

/-! ### What comes about inside a serving pulse (log 1) -/

/-- The event e, when the named thing comes about in it; otherwise there is no such event and the state stands. -/
def comingAbout (named : State → State → Bool) (e : PulseEvent) (s : State) : State :=
  if named s (pulseEvent e s) then pulseEvent e s else s

/-- A PUBLISH that waited under the other port's hold has completed EXPIRED: it has left the queue, and its frame D + 50
is reached by the frame begun (R80). -/
def takeExpired (s t : State) : Bool :=
  s.tke.queue.any fun e =>
    e.kind.sort = .publish && isWaiting e && heldBack e s && expires e t && (findEntry e.port e.tag t.tke.queue).isNone

/-- The sticky level has fallen by one, which only a relaxation step does (R134). -/
def relaxed (s t : State) : Bool := t.cmp.sticky + 1 = s.cmp.sticky

/-- The unit in reception has closed STALE: the gap count stood at 4 and the receiver is HUNTING after the pulse
(R145). -/
def wentStale (s t : State) : Bool := s.ing.reception.isSome && s.ing.gap = 4 && t.ing.reception.isNone

/-- The partner has become LOST (R164). -/
def partnerWentLost (s t : State) : Bool := s.opr.partnerPresent && !t.opr.partnerPresent

/-- The report in reception has been discarded (R163). -/
def reportTimedOut (s t : State) : Bool := s.opr.link.isSome && t.opr.link.isNone

/-! ### Reset and supply (R1, R16, R160, R172) -/

/-- The part stops: no pulses, no composition, and frames and replies are lost (R16, R188). -/
def halt (power : Power) (s : State) : State :=
  { s with
    power := power
    fcy := { s.fcy with timer := none, inFlight := none, completed := none }
    cnu := { s.cnu with receiver := .both none, reply := .both none, waiting := .both none } }

/-- The frame rate of the FRATE strap (R1). -/
def rateOf (straps : Straps) : FrameRate := if straps.frate then .fps2997 else .fps25

/-- The strap role and role of the ROLE straps (R160). -/
def rolesOf (straps : Straps) : StrapRole × Role :=
  match straps.role1, straps.role0 with
  | false, true => (.pairFirst, .main)
  | true, false => (.pairSecond, .standby)
  | false, false => (.sole, .sole)
  | true, true => (.sole, .sole)

/-- Every block takes its reset values and the composition of frame 1 begins (R16, R31, R49, R71, R93, R138, R158, R174,
R188). -/
def released (t : Time) (straps : Straps) (s : State) : State where
  power := .running
  palarm := s.palarm
  fcy := Fcy.reset t (rateOf straps)
  fsw := Fsw.reset
  fst := Fst.reset
  pln := Pln.reset
  tke := Tke.reset
  cmp := Cmp.reset
  ing := Ing.reset (rateOf straps)
  opr := Opr.reset (rolesOf straps).1 (rolesOf straps).2
  cnu := Cnu.reset
  pending := s.pending

/-- HARD_RESET (R16). -/
def execHardReset (s : State) : Result := .next (halt .inReset s)

/-- END_OF_HARD_RESET (R16): only a part held by RESET is released. -/
def execEndOfHardReset (moment : Time) (straps : Straps) (s : State) : Result :=
  .next (if s.power = .inReset then released moment straps s else s)

/-- POWER_LOSS (R172). -/
def execPowerLoss (s : State) : Result := .next (halt .unpowered s)

/-! ### The commands of pulses and expiries -/

/-- INTERNAL_PULSE (R4). -/
def execInternalPulse (palarm : Bool) (s : State) : Result := .next (whileRunning (internalPulse palarm) s)

/-- REFERENCE_PULSE (R5). -/
def execReferencePulse (moment : Time) (palarm : Bool) (s : State) : Result :=
  .next (whileRunning (referencePulse moment palarm) s)

/-- LOSS_EXPIRY (R6). -/
def execLossExpiry (palarm : Bool) (s : State) : Result := .next (whileRunning (lossExpiry palarm) s)

/-- REGAIN_EXPIRY (R8). -/
def execRegainExpiry (s : State) : Result := .next (whileRunning regainExpiry s)

/-- TAKE_EXPIRY (R80): the serving pulse e at which a waiting PUBLISH completes EXPIRED. -/
def execTakeExpiry (e : PulseEvent) (s : State) : Result := .next (whileRunning (comingAbout takeExpired e) s)

/-- RELAXATION (R134): the serving pulse e at which the relaxation count reaches 100. -/
def execRelaxation (e : PulseEvent) (s : State) : Result := .next (whileRunning (comingAbout relaxed e) s)

/-- STALE (R145): the serving pulse e at which the gap count would become 5. -/
def execStale (e : PulseEvent) (s : State) : Result := .next (whileRunning (comingAbout wentStale e) s)

/-- PARTNER_LOSS (R164): the serving pulse e at which the missed-period count reaches 3. -/
def execPartnerLoss (e : PulseEvent) (s : State) : Result := .next (whileRunning (comingAbout partnerWentLost e) s)

/-- PARTNER_REPORT_TIMEOUT (R163): the second serving pulse e since the lead of a report that is not complete. -/
def execPartnerReportTimeout (e : PulseEvent) (s : State) : Result :=
  .next (whileRunning (comingAbout reportTimedOut e) s)

/-! ### READ TIMING (R15) -/

/-- The data of READ TIMING (R15). -/
def timingData (f : Fcy) : List Byte :=
  bytes32 f.count ++ [f.ref.code, byte f.regain, flagByte [f.inFlight.isSome, f.rate = .fps2997]]

/-- The rule of READ TIMING (R15). -/
def reqReadTiming : Handler := fun _ params s =>
  match params with
  | [] => done (timingData s.fcy) s
  | _ :: _ => refuse .range s

/-- READ_TIMING (R15). -/
def execReadTiming (p : Port) (params : List Byte) (s : State) : Result :=
  .next (request p 0x3C params reqReadTiming s)

end Sys2Proof.Machine
end

