-- ==== Sys2Proof/Machine/Ports.lean ====
section
/-! DEFINITION. Machine/Ports.lean: the control and notice unit (chapter 11): its own requests, RESTART, the table of
command codes, and the two ports' receivers and replies. -/

namespace Sys2Proof.Machine

/-! ### READ NOTICE and SET NOTICE MASK (R181, R182) -/

/-- The number of the highest-priority class of a set; 0 for the empty set (R180, R182). -/
def topClass (n : Notices) : Byte :=
  if n.fault then 1 else if n.ingest then 2 else if n.hold then 3 else if n.take then 4 else if n.run then 5
  else if n.step then 6 else 0

/-- The class detail of READ NOTICE (R182). -/
def classDetail (cls : Byte) (p : Port) (s : State) : Byte :=
  if cls = 3 then (s.pln.event.get p).code else if cls = 6 then flagByte [s.opr.inStep] else 0

/-- HOLD and STEP cease to be pending when READ NOTICE returns them (R182). -/
def clearReturned (cls : Byte) (r : Raised) : Raised :=
  if cls = 3 then { r with hold := false } else if cls = 6 then { r with step := false } else r

/-- The rule of READ NOTICE (R182). Byte 2 shows the pending set as it stood before the class returned is cleared
(DESIGN CHOICE, log 39). -/
def reqReadNotice : Handler := fun p params s =>
  match params with
  | [] =>
    let cls := topClass (shownSet s p)
    done [cls, classDetail cls p s, (pendingSet s p).byte] (updateRaised p (clearReturned cls) s)
  | _ :: _ => refuse .range s

/-- The rule of SET NOTICE MASK (R181). -/
def reqSetNoticeMask : Handler := fun p params s =>
  match params with
  | [b] =>
    let s' := s.onCnu fun c => { c with mask := c.mask.set p (Notices.ofByte b) }
    done [(s'.cnu.mask.get p).byte, (pendingSet s' p).byte] s'
  | _ => refuse .range s

/-! ### READ FAULT STATUS (R183) -/

/-- A set of causes as a byte (R183). -/
def Causes.byte (c : Causes) : Byte := flagByte [c.referenceLost, c.partnerLost, c.healthTripped, c.roleChange]

/-- No cause. -/
def Causes.none : Causes := { referenceLost := false, partnerLost := false, healthTripped := false, roleChange := false }

/-- Six flags as a byte, in counter order (R183, R185). -/
def counterByte (v : PerCounter Bool) : Byte := flagByte v.toList

/-- The data of READ FAULT STATUS (R183). -/
def faultStatus (p : Port) (s : State) : List Byte :=
  [(s.cnu.causes.get p).byte, counterByte (s.cnu.trippedSince.get p), counterByte s.cnu.tripped, s.fcy.ref.code,
   flagByte [s.opr.partnerPresent], s.opr.role.code, flagByte [alarm s, s.cnu.alarmEnable]]

/-- The port's causes and counters tripped are emptied, and FAULT ceases to be pending for it (R183). -/
def clearFault (p : Port) (s : State) : State :=
  updateRaised p (fun r => { r with fault := false })
    (s.onCnu fun c => { c with
      causes := c.causes.set p Causes.none, trippedSince := c.trippedSince.set p (PerCounter.all false) })

/-- The rule of READ FAULT STATUS (R183). -/
def reqReadFaultStatus : Handler := fun p params s =>
  match params with
  | [] => done (faultStatus p s) (clearFault p s)
  | _ :: _ => refuse .range s

/-! ### Health counters (R185, R186) -/

/-- The data of READ HEALTH (R185). -/
def healthData (c : Cnu) : List Byte :=
  (c.counters.toList.map nat16).flatten ++ (c.thresholds.toList.map nat16).flatten ++
    [counterByte c.tripped, flagByte [c.alarmEnable]]

/-- The rule of READ HEALTH (R185). -/
def reqReadHealth : Handler := fun _ params s =>
  match params with
  | [] => done (healthData s.cnu) s
  | _ :: _ => refuse .range s

/-- A threshold is stored and its counter tested (R185). -/
def storeThreshold (c : Counter) (threshold : Nat) (s : State) : State :=
  testTrip c (s.onCnu fun u => { u with thresholds := u.thresholds.set c threshold })

/-- The rule of SET THRESHOLD (R185). -/
def reqSetThreshold : Handler := fun _ params s =>
  match params with
  | [index, t0, t1] =>
    match Counter.ofIndex index.toNat with
    | none => refuse .range s
    | some c =>
      let s' := storeThreshold c (le16 t0 t1).toNat s
      done (nat16 (s'.cnu.thresholds.get c) ++ [counterByte s'.cnu.tripped]) s'
  | _ => refuse .range s

/-- The rule of CLEAR HEALTH (R186). -/
def reqClearHealth : Handler := fun _ params s =>
  match params with
  | [] => done [] (s.onCnu fun c => { c with counters := PerCounter.all 0, tripped := PerCounter.all false })
  | _ :: _ => refuse .range s

/-- The rule of SET ALARM ENABLE (R186). -/
def reqSetAlarmEnable : Handler := fun _ params s =>
  match params with
  | [b] => done [flagByte [b.getLsbD 0]] (s.onCnu fun c => { c with alarmEnable := b.getLsbD 0 })
  | _ => refuse .range s

/-! ### RESTART (R187) -/

/-- FSW at a restart (R33). -/
def restartFsw (s : State) : State := s.onFsw abandonNext

/-- PLN at a restart; the lock is CLEAR already (R72). -/
def restartPln (s : State) : State :=
  s.onPln fun l => { l with
    draft := Plan.default, air := Plan.default, hold := none, waiting := .both false, event := .both .none }

/-- CMP at a restart (R139). -/
def restartCmp (s : State) : State := s.onCmp fun c => { c with sticky := 0, relax := 0 }

/-- Only FAULT stays of the stored classes (R187). -/
def onlyFault (r : Raised) : Raised := { fault := r.fault, hold := false, run := false, step := false }

/-- CNU at a restart (R187). -/
def restartCnu (s : State) : State :=
  s.onCnu fun c => { c with raised := { a := onlyFault c.raised.a, b := onlyFault c.raised.b } }

/-- A restart in every block; FCY and FST stand (R16, R33, R50, R72, R94, R139, R158, R175, R187). -/
def restartAll (s : State) : State :=
  restartCnu (restartOpr (restartIng (restartCmp (restartTke (restartPln (restartFsw s))))))

/-- The rule of RESTART (R187). Parameter bytes are tested before the air lock, so with both the answer is RANGE (DESIGN
CHOICE, log 42). -/
def reqRestart : Handler := fun _ params s =>
  match params with
  | [] => if s.pln.lock.isSome then refuse .locked s else done [] (restartAll s)
  | _ :: _ => refuse .range s

/-! ### The command codes (R176) -/

/-- The rule of a command code; none for an unknown code (R176). -/
def handlerOf (code : Byte) : Option Handler :=
  match code.toNat with
  | 0x10 => some reqRequestHold
  | 0x11 => some reqReleaseHold
  | 0x12 => some reqSetView
  | 0x13 => some reqSetCursor
  | 0x14 => some reqSetLayers
  | 0x15 => some reqSetGauge
  | 0x16 => some reqClearGauge
  | 0x17 => some reqSetAreas
  | 0x18 => some reqCopyAirToDraft
  | 0x19 => some reqReadPlan
  | 0x1A => some reqSetAirLock
  | 0x1B => some reqClearAirLock
  | 0x20 => some reqReadRunStatus
  | 0x21 => some reqReadFrameTable
  | 0x28 => some reqLoadSegment
  | 0x29 => some reqDeleteSegment
  | 0x2A => some reqReadSegments
  | 0x2C => some reqLoadStation
  | 0x2D => some reqDeleteStation
  | 0x2E => some reqReadStation
  | 0x30 => some reqSubmitTake
  | 0x31 => some reqFlushTakes
  | 0x32 => some reqReadCompletions
  | 0x33 => some reqReadTakeLog
  | 0x38 => some reqReadFrameRecord
  | 0x3C => some reqReadTiming
  | 0x40 => some reqReadIngestStatus
  | 0x41 => some reqSetIngestLevels
  | 0x42 => some reqIngestReset
  | 0x48 => some reqReadOutputStatus
  | 0x49 => some reqSetAutoTakeover
  | 0x50 => some reqReadNotice
  | 0x51 => some reqSetNoticeMask
  | 0x52 => some reqReadFaultStatus
  | 0x53 => some reqReadHealth
  | 0x54 => some reqSetThreshold
  | 0x55 => some reqClearHealth
  | 0x56 => some reqSetAlarmEnable
  | 0x5F => some reqRestart
  | _ => none

/-! ### The receivers (R177 to R179) -/

/-- A frame with an unknown command code completes (R178); while a reply is in progress BUSY waits (R179). -/
def completeUnknown (p : Port) (code : Byte) (s : State) : State :=
  match s.cnu.reply.get p with
  | none => sendReply p { code := code, status := .unknown, data := [] } (endFrame p s)
  | some _ => holdReply p { code := code, status := .busy, data := [] } (endFrame p s)

/-- A frame whose sum is correct: the request executes (R178). PARTNER-ALARM is read by READ OUTPUT STATUS (R173). -/
def executeFrame (p : Port) (code : Byte) (params : List Byte) (palarm : Bool) (s : State) : State :=
  match handlerOf code with
  | none => completeUnknown p code s
  | some h => completeRequest p code params h (if code = 0x48 then sampleAlarm palarm s else s)

/-- The frame ends in FRAME ERROR (R177): the code is the second byte after the lead, 0 when it had not been taken. -/
def frameError (p : Port) (bytes : List Byte) (s : State) : State :=
  postReply p { code := bytes.getD 1 0, status := .frameError, data := [] } (endFrame p s)

/-- What the bytes after a lead amount to (R176, R177). -/
inductive FrameProgress where
  | growing
  | error
  | complete (code : Byte) (params : List Byte)
deriving DecidableEq, Repr

/-- The progress of a frame from the bytes after its lead: length, command code, parameters, check (R176, R177). -/
def progressOf (bytes : List Byte) : FrameProgress :=
  match bytes with
  | [] => .growing
  | [len] => if len = 0 || 250 < len.toNat then .error else .growing
  | len :: code :: rest =>
    if rest.length = len.toNat then
      if sumBytes bytes = 0 then .complete code rest.dropLast else .error
    else .growing

/-- A good character in RECEIVING: the frame grows, ends in FRAME ERROR, or executes (R177). -/
def receiveByte (p : Port) (bytes : List Byte) (palarm : Bool) (s : State) : State :=
  match progressOf bytes with
  | .growing => s.onCnu fun c => { c with receiver := c.receiver.set p (some bytes) }
  | .error => frameError p bytes s
  | .complete code params => executeFrame p code params palarm s

/-- A good character arrives on a control port (R177). -/
def portCharacter (p : Port) (b : Byte) (palarm : Bool) (s : State) : State :=
  match s.cnu.receiver.get p with
  | none => if b = 0x5A then s.onCnu fun c => { c with receiver := c.receiver.set p (some []) } else s
  | some bytes => receiveByte p (bytes ++ [b]) palarm s

/-- The character that ends a frame in FRAME ERROR: a bad one, or one that makes the length or the sum bad (R177). A
character that does not is no such event (log 4). -/
def frameErrorBy (p : Port) (c : Character) (s : State) : State :=
  match s.cnu.receiver.get p, c with
  | none, _ => s
  | some bytes, .bad => frameError p bytes s
  | some bytes, .good b => if progressOf (bytes ++ [b]) = .error then frameError p (bytes ++ [b]) s else s

/-- 20 ms pass with no character in RECEIVING (R177). -/
def receiveTimeout (p : Port) (s : State) : State :=
  match s.cnu.receiver.get p with
  | none => s
  | some bytes => frameError p bytes s

/-- A frame completes on a port that is sending a reply (R179); otherwise there is no such event (log 4). -/
def busyFrame (p : Port) (code : Byte) (s : State) : State :=
  match s.cnu.reply.get p with
  | none => s
  | some _ => holdReply p { code := code, status := .busy, data := [] } (endFrame p s)

/-- The reply in progress ends; a waiting reply is sent (R179). -/
def finishReply (p : Port) (s : State) : State :=
  s.onCnu fun c => { c with reply := c.reply.set p (c.waiting.get p), waiting := c.waiting.set p none }

/-- The end of a reply, when one is in progress (R179). -/
def replySent (p : Port) (s : State) : State := if (s.cnu.reply.get p).isSome then finishReply p s else s

/-! ### The commands -/

/-- PORT_CHARACTER (R177). -/
def execPortCharacter (p : Port) (b : Byte) (palarm : Bool) (s : State) : Result :=
  .next (whileRunning (portCharacter p b palarm) s)

/-- REQUEST_FRAME_ERROR (R177). -/
def execRequestFrameError (p : Port) (c : Character) (s : State) : Result := .next (whileRunning (frameErrorBy p c) s)

/-- PORT_RECEIVE_TIMEOUT (R177). -/
def execPortReceiveTimeout (p : Port) (s : State) : Result := .next (whileRunning (receiveTimeout p) s)

/-- UNKNOWN (R178); a code of the table makes no such event (log 4). -/
def execUnknown (p : Port) (code : Byte) (s : State) : Result :=
  .next (whileRunning (fun s => if (handlerOf code).isSome then s else completeUnknown p code s) s)

/-- BUSY (R179). -/
def execBusy (p : Port) (code : Byte) (s : State) : Result := .next (whileRunning (busyFrame p code) s)

/-- REPLY_SENT (R179). -/
def execReplySent (p : Port) (s : State) : Result := .next (whileRunning (replySent p) s)

/-- READ_NOTICE (R182). -/
def execReadNotice (p : Port) (params : List Byte) (s : State) : Result :=
  .next (request p 0x50 params reqReadNotice s)

/-- SET_NOTICE_MASK (R181). -/
def execSetNoticeMask (p : Port) (params : List Byte) (s : State) : Result :=
  .next (request p 0x51 params reqSetNoticeMask s)

/-- READ_FAULT_STATUS (R183). -/
def execReadFaultStatus (p : Port) (params : List Byte) (s : State) : Result :=
  .next (request p 0x52 params reqReadFaultStatus s)

/-- READ_HEALTH (R185). -/
def execReadHealth (p : Port) (params : List Byte) (s : State) : Result :=
  .next (request p 0x53 params reqReadHealth s)

/-- SET_THRESHOLD (R185). -/
def execSetThreshold (p : Port) (params : List Byte) (s : State) : Result :=
  .next (request p 0x54 params reqSetThreshold s)

/-- CLEAR_HEALTH (R186). -/
def execClearHealth (p : Port) (params : List Byte) (s : State) : Result :=
  .next (request p 0x55 params reqClearHealth s)

/-- SET_ALARM_ENABLE (R186). -/
def execSetAlarmEnable (p : Port) (params : List Byte) (s : State) : Result :=
  .next (request p 0x56 params reqSetAlarmEnable s)

/-- RESTART (R187). -/
def execRestart (p : Port) (params : List Byte) (s : State) : Result :=
  .next (request p 0x5F params reqRestart s)

end Sys2Proof.Machine
end

