-- ==== Sys2Proof/Machine/Dispatch.lean ====
section
/-! DEFINITION. Machine/Dispatch.lean: the meaning of each command, one arm per constructor. -/

namespace Sys2Proof.Machine

/-- The effect of a command on everything but the queue of commands. -/
def exec (i : Instr) (s : State) : Host.Outcome State Fault Refusal :=
  match i with
  | .hardReset => Sys2Proof.Machine.execHardReset s
  | .endOfHardReset moment straps => Sys2Proof.Machine.execEndOfHardReset moment straps s
  | .internalPulse palarm => Sys2Proof.Machine.execInternalPulse palarm s
  | .referencePulse moment palarm => Sys2Proof.Machine.execReferencePulse moment palarm s
  | .lossExpiry palarm => Sys2Proof.Machine.execLossExpiry palarm s
  | .regainExpiry => Sys2Proof.Machine.execRegainExpiry s
  | .compositionCompletion => Sys2Proof.Machine.execCompositionCompletion s
  | .compositionBudgetSpent => Sys2Proof.Machine.execCompositionBudgetSpent s
  | .takeExpiry e => Sys2Proof.Machine.execTakeExpiry e s
  | .relaxation e => Sys2Proof.Machine.execRelaxation e s
  | .stale e => Sys2Proof.Machine.execStale e s
  | .partnerLoss e => Sys2Proof.Machine.execPartnerLoss e s
  | .partnerReport r => Sys2Proof.Machine.execPartnerReport r s
  | .partnerReportTimeout e => Sys2Proof.Machine.execPartnerReportTimeout e s
  | .ingestCharacter c => Sys2Proof.Machine.execIngestCharacter c s
  | .symbolOutputDone => Sys2Proof.Machine.execSymbolOutputDone s
  | .loaderMove => Sys2Proof.Machine.execLoaderMove s
  | .requestFrameError p c => Sys2Proof.Machine.execRequestFrameError p c s
  | .portReceiveTimeout p => Sys2Proof.Machine.execPortReceiveTimeout p s
  | .unknown p code => Sys2Proof.Machine.execUnknown p code s
  | .busy p code => Sys2Proof.Machine.execBusy p code s
  | .replySent p => Sys2Proof.Machine.execReplySent p s
  | .requestHold p params => Sys2Proof.Machine.execRequestHold p params s
  | .reclaim ignored => Sys2Proof.Machine.execReclaim ignored s
  | .releaseHold p params => Sys2Proof.Machine.execReleaseHold p params s
  | .setView p params => Sys2Proof.Machine.execSetView p params s
  | .setCursor p params => Sys2Proof.Machine.execSetCursor p params s
  | .setLayers p params => Sys2Proof.Machine.execSetLayers p params s
  | .setGauge p params => Sys2Proof.Machine.execSetGauge p params s
  | .clearGauge p params => Sys2Proof.Machine.execClearGauge p params s
  | .setAreas p params => Sys2Proof.Machine.execSetAreas p params s
  | .copyAirToDraft p params => Sys2Proof.Machine.execCopyAirToDraft p params s
  | .readPlan p params => Sys2Proof.Machine.execReadPlan p params s
  | .setAirLock p params => Sys2Proof.Machine.execSetAirLock p params s
  | .clearAirLock p params => Sys2Proof.Machine.execClearAirLock p params s
  | .readRunStatus p params => Sys2Proof.Machine.execReadRunStatus p params s
  | .readFrameTable p params => Sys2Proof.Machine.execReadFrameTable p params s
  | .loadSegment p params => Sys2Proof.Machine.execLoadSegment p params s
  | .deleteSegment p params => Sys2Proof.Machine.execDeleteSegment p params s
  | .readSegments p params => Sys2Proof.Machine.execReadSegments p params s
  | .loadStation p params => Sys2Proof.Machine.execLoadStation p params s
  | .deleteStation p params => Sys2Proof.Machine.execDeleteStation p params s
  | .readStation p params => Sys2Proof.Machine.execReadStation p params s
  | .submitTake p params => Sys2Proof.Machine.execSubmitTake p params s
  | .flushTakes p params => Sys2Proof.Machine.execFlushTakes p params s
  | .readCompletions p params => Sys2Proof.Machine.execReadCompletions p params s
  | .readTakeLog p params => Sys2Proof.Machine.execReadTakeLog p params s
  | .readFrameRecord p params => Sys2Proof.Machine.execReadFrameRecord p params s
  | .readTiming p params => Sys2Proof.Machine.execReadTiming p params s
  | .readIngestStatus p params => Sys2Proof.Machine.execReadIngestStatus p params s
  | .setIngestLevels p params => Sys2Proof.Machine.execSetIngestLevels p params s
  | .ingestReset p params => Sys2Proof.Machine.execIngestReset p params s
  | .readOutputStatus p params palarm => Sys2Proof.Machine.execReadOutputStatus p params palarm s
  | .setAutoTakeover p params => Sys2Proof.Machine.execSetAutoTakeover p params s
  | .readNotice p params => Sys2Proof.Machine.execReadNotice p params s
  | .setNoticeMask p params => Sys2Proof.Machine.execSetNoticeMask p params s
  | .readFaultStatus p params => Sys2Proof.Machine.execReadFaultStatus p params s
  | .readHealth p params => Sys2Proof.Machine.execReadHealth p params s
  | .setThreshold p params => Sys2Proof.Machine.execSetThreshold p params s
  | .clearHealth p params => Sys2Proof.Machine.execClearHealth p params s
  | .setAlarmEnable p params => Sys2Proof.Machine.execSetAlarmEnable p params s
  | .restart p params => Sys2Proof.Machine.execRestart p params s
  | .portCharacter p b palarm => Sys2Proof.Machine.execPortCharacter p b palarm s
  | .partnerLinkCharacter c => Sys2Proof.Machine.execPartnerLinkCharacter c s
  | .powerLoss => Sys2Proof.Machine.execPowerLoss s

end Sys2Proof.Machine
end

