-- ==== Sys2Proof/Machine/Step.lean ====
section
/-! DEFINITION. Machine/Step.lean: one step takes the command at the front of the queue; an empty queue idles (DESIGN
CHOICE, log 3). -/

namespace Sys2Proof.Machine

/-- The state with other commands waiting. -/
def State.withPending (s : State) (q : List Instr) : State := { s with pending := q }

/-- One step: the front command's effect on the state with the queue's rest. -/
def step (s : State) : Host.Outcome State Fault Refusal :=
  match s.pending with
  | [] => .next s
  | c :: rest => exec c (s.withPending rest)

/-- The state with the command a word spells put at the front of its queue: unchanged, for no word spells one (log 32). -/
def State.withFetchWord (s : State) (nbits w : Nat) : State :=
  match decodeTableWord nbits w with
  | none => s
  | some c => s.withPending (c :: s.pending)

end Sys2Proof.Machine
end

