-- ==== Sys2Proof/Safety.lean ====
section
/-! DEFINITION. Safety.lean: the vocabulary of the claims: the form in which a request is answered, the laws that the
manual says hold at all times (R18, R34, R43, R51, R64, R74, R84, R104, R133, R148, R184) with the ranges of the state
tables, and what the statements about pulses and loader moves share. A state is lawful when every law holds. -/

namespace Sys2Proof.Machine

/-! ### Requests -/

/-- The part runs and the port is sending no reply, so that a request on it executes (R178, R179). -/
def Ready (p : Port) (s : State) : Prop := s.power = .running ∧ s.cnu.reply.get p = none

/-- The port has returned to HUNTING and is sending a reply; nothing else differs from s (R177 to R179). -/
def answered (p : Port) (code : Byte) (status : Status) (data : List Byte) (s : State) : State :=
  { s with cnu := { s.cnu with
      receiver := s.cnu.receiver.set p none
      reply := s.cnu.reply.set p (some { code := code, status := status, data := data }) } }

/-! ### The stores -/

/-- The frames held in the slots. -/
def heldFrames (w : Fsw) : List WindFrame := w.slots.filterMap id

/-- A wind frame lies within the ranges of R18 and R22. -/
def FrameLaw (f : WindFrame) : Prop :=
  f.offset ≤ 4320 ∧ f.grid.length = 32 ∧
    ∀ row ∈ f.grid, row.length = 48 ∧ ∀ c ∈ row, -1000 ≤ c.u ∧ c.u ≤ 1000 ∧ -1000 ≤ c.v ∧ c.v ≤ 1000

/-- Every frame belongs to a run that is there (R18). -/
def OwnerLaw (w : Fsw) (f : WindFrame) : Prop :=
  (f.owner = .current → w.current.isSome) ∧ (f.owner = .next → w.next.isSome)

/-- The law of R18: 48 slots, each frame of exactly one run that is there, and no two frames of one run share a valid
offset. -/
def SlotLaw (w : Fsw) : Prop :=
  w.slots.length = 48 ∧ ((heldFrames w).map fun f => (f.owner, f.offset)).Nodup ∧
    ∀ f ∈ heldFrames w, FrameLaw f ∧ OwnerLaw w f

/-- A station record lies within the ranges of R35 and R36. -/
def RecordLaw (st : Station) : Prop :=
  1 ≤ st.number ∧ st.number ≤ 255 ∧ -2000 ≤ st.z0 ∧ st.z0 ≤ 8000 ∧ -3000 ≤ st.hmin ∧ st.hmin < st.hmax ∧
    st.hmax ≤ 12000 ∧ 1 ≤ st.constituents.length ∧ st.constituents.length ≤ 16 ∧
    ∀ c ∈ st.constituents, c.amp ≤ 8000

/-- The law of R34: at most 32 records, ascending by number and so distinct. -/
def StationLaw (f : Fst) : Prop :=
  f.stations.length ≤ 32 ∧ (f.stations.map Station.number).Pairwise (· < ·) ∧ ∀ st ∈ f.stations, RecordLaw st

/-- A segment has an id in 1..4,095, 2..60 points and a box that holds them (R43). -/
def OneSegmentLaw (g : Segment) : Prop :=
  1 ≤ g.id ∧ g.id ≤ 4095 ∧ 2 ≤ g.points.length ∧ g.points.length ≤ 60 ∧
    ∀ q ∈ g.points, g.box.xmin ≤ q.x ∧ q.x ≤ g.box.xmax ∧ g.box.ymin ≤ q.y ∧ q.y ≤ g.box.ymax

/-- The law of R43: at most 512 segments, ascending by id and so distinct, with at most 16,384 points in all. -/
def SegmentLaw (f : Fst) : Prop :=
  f.segments.length ≤ 512 ∧ (f.segments.map Segment.id).Pairwise (· < ·) ∧
    (f.segments.map fun g => g.points.length).sum ≤ 16384 ∧ ∀ g ∈ f.segments, OneSegmentLaw g

/-! ### Plans and the hold -/

/-- The ranges of R51 with the view clamps of R52. -/
def PlanLaw (p : Plan) : Prop :=
  1024 ≤ p.w ∧ p.w ≤ 65535 ∧ p.x0 + p.w ≤ 65536 ∧ p.y0 + p.w * 9 / 16 ≤ 65536 ∧ 1 ≤ p.stride ∧ p.stride ≤ 4 ∧
    p.gauges.length = 12 ∧ (∀ g, some g ∈ p.gauges → 1 ≤ g.station ∧ g.station ≤ 255) ∧
    p.areas.length ≤ 8 ∧ p.areas.Nodup ∧ ∀ id ∈ p.areas, 1 ≤ id ∧ id ≤ 4095

/-- Both plans lie within their ranges (R51). -/
def PlansLaw (l : Pln) : Prop := PlanLaw l.draft ∧ PlanLaw l.air

/-- The law of R64: a port's request is pending only while the other port holds. -/
def HoldLaw (l : Pln) : Prop := ∀ p, l.waiting.get p = true → l.hold = some p.other

/-! ### Takes -/

/-- The tags a port has in the queue and in its completion list (R74). -/
def usedTags (t : Tke) (p : Port) : List Nat :=
  ((t.queue.filter fun e => e.port = p).map TakeEntry.tag) ++ (t.completions.get p).map Completion.tag

/-- The laws of R74 and R84, with the limit of the log of R90. -/
def TakeLaw (t : Tke) : Prop :=
  (∀ p, (usedTags t p).Nodup ∧ (∀ n ∈ usedTags t p, n ≤ 7) ∧ (∀ c ∈ t.completions.get p, c.port = p)) ∧
    (t.queue.filter isSweeping).length ≤ 1 ∧ t.log.length ≤ 8 ∧ ∀ c ∈ t.log, c.status ≠ .done

/-! ### The composer, the cycle and the ingest unit -/

/-- The laws of R133 and R134 about the sticky level and the relaxation count. -/
def LevelLaw (c : Cmp) : Prop := c.sticky ≤ 3 ∧ c.relax ≤ 99 ∧ (c.sticky = 0 → c.relax = 0)

/-- The laws of R5 to R9 about the reference state of a part that runs: the timer is stopped in LOCKED alone, and the
regain count is 0 outside REGAINING and 1..3 in it. -/
def CycleLaw (s : State) : Prop :=
  s.fcy.regain ≤ 3 ∧ (s.fcy.ref = .regaining ↔ s.fcy.regain ≠ 0) ∧
    (s.fcy.ref ≠ .acquiring → s.fcy.lastReference.isSome) ∧
    (s.power = .running → (s.fcy.ref = .locked ↔ s.fcy.timer = none))

/-- The law of R148 about HOLD-OFF, and the ranges of R145, R146, R147, R150 and R151. -/
def IngestLaw (i : Ing) : Prop :=
  i.queue.length ≤ 64 ∧ 8 ≤ i.halt ∧ i.halt ≤ 63 ∧ i.resume + 8 ≤ i.halt ∧
    (i.holdOff = true → i.resume < i.queue.length) ∧ (i.holdOff = false → i.queue.length < i.halt) ∧
    (∀ n, i.overrun = some n → 1 ≤ n ∧ n ≤ 255) ∧ i.gap ≤ 4 ∧ (i.reception = none → i.gap = 0) ∧ i.grant ≤ 24000

/-! ### Frame records -/

/-- A gauge result's level lies within 0..100 and its rate within ±9,999 (R104). -/
def ResultLaw (g : GaugeResult) : Prop := ∀ v, g.values = some v → v.level ≤ 100 ∧ -9999 ≤ v.rate ∧ v.rate ≤ 9999

/-- The gauge results of a chart's record (R104). -/
def ChartLaw (c : Chart) : Prop := ∀ g ∈ c.record.gauges, ResultLaw g

/-- What the composition in flight will report its gauges from. -/
def SnapshotLaw (snap : Snapshot) : Prop :=
  (∀ g ∈ snap.gauges, ∀ st, g.record = some st → st.hmin < st.hmax) ∧ ∀ g ∈ snap.lastGauges, ResultLaw g

/-- The law of R104 in the completed and the displayed chart, with what makes it hold at the next completion. -/
def GaugeLaw (s : State) : Prop :=
  (∀ st ∈ s.fst.stations, st.hmin < st.hmax) ∧ (∀ c, s.fcy.inFlight = some c → SnapshotLaw c.snap) ∧
    (∀ c, s.fcy.completed = some c → ChartLaw c) ∧ ∀ c, s.fcy.displayed = some c → ChartLaw c

/-! ### The pair -/

/-- The ranges of chapter 10: a part strapped SOLE stays SOLE and any other is never SOLE (R160); a report in hand and
IN STEP mean a PRESENT partner (R164, R166); the counts lie within their ranges (R164, R166). -/
def PairLaw (o : Opr) : Prop :=
  (o.strap = .sole ↔ o.role = .sole) ∧ (o.inHand.isSome → o.partnerPresent = true) ∧
    (o.inStep = true → o.partnerPresent = true) ∧ (o.partnerPresent = true → o.missed ≤ 2 ∧ o.lossCount = 0) ∧
    o.missed ≤ 3 ∧ o.lossCount ≤ 25 ∧ o.matchRun ≤ 8 ∧ o.mismatchRun ≤ 2

/-! ### Health -/

/-- The law of R184: every counter lies within 0..65,535; and a counter at or above its non-zero threshold is tripped
(R184, R185). -/
def HealthLaw (u : Cnu) : Prop :=
  ∀ c, u.counters.get c ≤ 65535 ∧ u.thresholds.get c ≤ 65535 ∧
    (u.thresholds.get c ≠ 0 → u.thresholds.get c ≤ u.counters.get c → u.tripped.get c = true)

/-! ### Takes at a composition start -/

/-- A SOLE part whose internal timer is due at t and whose takes keep their laws: its next internal pulse has no pair work
(R160). -/
structure SolePulse (s : State) (t : Time) : Prop where
  running : s.power = .running
  timer : s.fcy.timer = some t
  sole : s.opr.role = .sole
  takes : TakeLaw s.tke

/-- The entries the first pass of that pulse deals with, in queue order (R77). -/
def dueNext (s : State) : List TakeEntry :=
  s.tke.queue.filter fun e => (e.state = .queued || e.state = .deferred) && reached e.due (s.fcy.count + 2)

/-- Two entries are of one port and tag. -/
def sameTake (e x : TakeEntry) : Bool := x.port = e.port && x.tag = e.tag

/-- The TS code of a pulse at which this number of takes is applied (R92). -/
def tsFor (flushed : Bool) (applied : Nat) : TsCode :=
  if flushed then .flushed
  else match applied with
    | 0 => .none
    | 1 => .one
    | _ => .several

/-- The entry that was SWEEPING in s has completed SUPERSEDED in u, with the frame of its own application (R84). -/
def Superseded (s u : State) : Prop :=
  ∀ x ∈ s.tke.queue, ∀ r status applied, x.state = .sweeping r status applied →
    completionOf x .superseded applied ∈ u.tke.completions.get x.port

/-- An entry has left the queue with a record in its port's list (R76, R88). -/
def Finished (e : TakeEntry) (status : TakeStatus) (applied : Word32) (u : State) : Prop :=
  (∀ x ∈ u.tke.queue, sameTake e x = false) ∧ completionOf e status applied ∈ u.tke.completions.get e.port

/-- An air plan with a stepped view, under the view clamps (R52, R55). -/
def steppedView (x y w : Int) (p : Plan) : Plan :=
  { p with
    w := (max 1024 (min 65535 w)).toNat
    x0 := (max 0 (min (65536 - max 1024 (min 65535 w)) x)).toNat
    y0 := (max 0 (min (65536 - max 1024 (min 65535 w) * 9 / 16) y)).toNat }

/-- Start plus difference times k over n, truncated toward zero (R82). -/
def stepOf (start target : Int) (k n : Nat) : Int := start + Int.tdiv ((target - start) * k) n

/-- The air plan after a sweep's step k: the cursor the short way round the chart clock, and the view of a swept PUBLISH
(R55, R82). -/
def steppedAir (r : SweepRecord) (air : Plan) : Plan :=
  let moved := { air with
    cursor := r.cursorStart + BitVec.ofInt 32 (Int.tdiv ((r.cursorTarget - r.cursorStart).toInt * r.k) r.n) }
  match r.view with
  | none => moved
  | some v =>
    steppedView (stepOf v.x0Start v.x0Target r.k r.n) (stepOf v.y0Start v.y0Target r.k r.n)
      (stepOf v.wStart v.wTarget r.k r.n) moved

/-- After a step of an entry's sweep it is the SWEEPING entry of the queue, or, at its last step, has completed; any other
SWEEPING entry is gone (R79, R81, R83, R84). -/
def Swept (e : TakeEntry) (r : SweepRecord) (status : TakeStatus) (applied : Word32) (s u : State) : Prop :=
  (r.k < r.n → u.tke.queue = (s.tke.queue.filter fun x => sameTake e x || !isSweeping x).map fun x =>
    if sameTake e x then { x with state := .sweeping r status applied } else x) ∧
  (r.k = r.n → u.tke.queue = (s.tke.queue.filter fun x => !sameTake e x && !isSweeping x) ∧
    Finished e status applied u)

/-! ### The pair at a pulse -/

/-- A paired part with a negotiation record, whose partner stays PRESENT at the internal pulse due at t, and which does not
sync its count there (R164, R165); the frame of its own first report is taken as 0 (log 10). -/
structure SwapPulse (s : State) (t : Time) (n : Negotiation) : Prop where
  running : s.power = .running
  timer : s.fcy.timer = some t
  takes : TakeLaw s.tke
  record : s.opr.negotiation = some n
  present : s.opr.partnerPresent = true
  kept : s.opr.inHand.isSome ∨ s.opr.missed < 2
  noSync : s.opr.role = .standby → ∀ r, s.opr.inHand = some r →
    r.frame = match s.opr.sent with | none => 0#32 | some own => own.frame

/-- No report of the period takes part in the contention test of the next pulse: each carries RELEASE of its frame
(R171). -/
def NoContender (s : State) : Prop :=
  ∀ m ∈ s.opr.mains, m.swap = .release ∧ m.lineFrame = s.fcy.count + 1

/-- A report showing MAIN makes a part with this own report yield (R171; two parts strapped PAIR-SECOND, log 44). -/
def Outranks (m own : Report) (strap : StrapRole) : Prop :=
  (m.frame ≠ own.frame ∧ (m.frame - own.frame).toNat < 2147483648) ∨
    ((m.frame = own.frame ∨ (m.frame - own.frame).toNat = 2147483648) ∧ strap = .pairSecond)

/-- FAULT is pending for both ports with the cause ROLE CHANGE (R170, R171, R183). -/
def RoleFault (u : State) : Prop :=
  ∀ p, (u.cnu.raised.get p).fault = true ∧ (u.cnu.causes.get p).roleChange = true

/-- A record that has ended: its joined entries have left the queue with its outcome (R87, R167). -/
def JoinedEnd (n : Negotiation) (status : TakeStatus) (applied : Word32) (s u : State) : Prop :=
  ∀ j ∈ n.entries, (∀ x ∈ u.tke.queue, ¬ (x.port = j.port ∧ x.tag = j.tag)) ∧
    ∀ e ∈ s.tke.queue, e.port = j.port → e.tag = j.tag →
      completionOf e status applied ∈ u.tke.completions.get j.port

/-! ### Health counters -/

/-- The control and notice unit after the test of a counter: below its threshold, at threshold 0 or with its flag set it
stands; otherwise the counter trips, with FAULT, the cause HEALTH TRIPPED and the counter added for both ports (R183 to
R185). -/
def tested (c : Counter) (u : Cnu) : Cnu :=
  if u.thresholds.get c ≠ 0 ∧ u.thresholds.get c ≤ u.counters.get c ∧ u.tripped.get c = false then
    { u with
      tripped := u.tripped.set c true
      trippedSince := { a := u.trippedSince.a.set c true, b := u.trippedSince.b.set c true }
      raised := { a := { u.raised.a with fault := true }, b := { u.raised.b with fault := true } }
      causes := { a := { u.causes.a with healthTripped := true }, b := { u.causes.b with healthTripped := true } } }
  else u

/-- The control and notice unit after an increase of a counter, saturating, and its test (R184). -/
def counted (c : Counter) (u : Cnu) : Cnu :=
  tested c { u with counters := u.counters.set c (min 65535 (u.counters.get c + 1)) }

/-! ### Loader moves and flow control -/

/-- The symbol output after a symbol is made: sent at once when it is idle, else waiting in place of any that waits
(R149). -/
def symbolMade (y : Symbol) (i : Ing) : Ing :=
  if i.sending = none then { i with sending := some y } else { i with waitingSymbol := some y }

/-- The ingest unit after flow control is evaluated: HOLD-OFF is asserted from the halt level on and released from the
resume level down, with a symbol when in-band symbols are enabled (R148). -/
def flowEvaluated (i : Ing) : Ing :=
  if i.holdOff = false ∧ i.halt ≤ i.queue.length then
    if i.inBand then symbolMade .pause { i with holdOff := true } else { i with holdOff := true }
  else if i.holdOff = true ∧ i.queue.length ≤ i.resume then
    if i.inBand then symbolMade .continue_ { i with holdOff := false } else { i with holdOff := false }
  else i

/-- The part after the loader has taken the head for a cost (R151). -/
def headTaken (rest : List IngestUnit) (cost : Nat) (s : State) : State :=
  { s with ing := flowEvaluated { s.ing with queue := rest, grant := s.ing.grant - cost } }

/-- The part after a loader error: INGEST ERRORS is counted and the last loader error replaced, unread (R154). -/
def loaderFailed (kind : LoaderErrorKind) (type_ : Byte) (runId : Word16) (station : Nat) (s : State) : State :=
  { s with
    cnu := counted .ingestErrors s.cnu
    ing := { s.ing with
      lastError := some
        { kind := kind
          type_ := type_
          runId := runId
          station := station
          since := (match s.ing.lastError with | none => 1 | some e => if e.unread then min 255 (e.since + 1) else 1)
          unread := true } } }

/-- The slots with every frame of NEXT rewritten; `none` makes its slot FREE. -/
def onNextFrames (f : WindFrame → Option WindFrame) (slots : List (Option WindFrame)) : List (Option WindFrame) :=
  slots.map fun slot =>
    match slot with
    | none => none
    | some g => if g.owner = .next then f g else some g

/-! ### The lawful states -/

/-- The manual's laws about the state. Its two others speak of a pulse (R53, the air sequence) and of the line output (R159),
and are statements of their own. -/
structure Lawful (s : State) : Prop where
  slots : SlotLaw s.fsw
  stations : StationLaw s.fst
  segments : SegmentLaw s.fst
  plans : PlansLaw s.pln
  hold : HoldLaw s.pln
  takes : TakeLaw s.tke
  level : LevelLaw s.cmp
  cycle : CycleLaw s
  ingest : IngestLaw s.ing
  gauges : GaugeLaw s
  pair : PairLaw s.opr
  health : HealthLaw s.cnu

end Sys2Proof.Machine
end

