-- ==== Sys2Proof/Certificates/Slice0/Obligations.lean ====
section
/-! DEFINITION. Certificates/Slice0/Obligations.lean: the statements about the model, from the numbered rules of spec/.
`Ready`, `answered` and the laws are defined in Safety.lean. -/

open Sys2Proof Sys2Proof.Machine

/-! ### The machine as a whole -/

/-- A step takes the command at the front of the queue; with an empty queue the block idles (log 3). -/
def Obligations.StepTakesTheFrontCommand : Prop :=
  (∀ (c : Instr) (rest : List Instr) (s : State),
    step { s with pending := c :: rest } = exec c { s with pending := rest }) ∧
  ∀ s : State, s.pending = [] → step s = .next s

/-- No command stops the part, and no command touches the queue of commands (log 26). -/
def Obligations.EveryCommandGoesOn : Prop :=
  ∀ (c : Instr) (s : State), ∃ t, exec c s = .next t ∧ t.pending = s.pending

/-- A part that is held by RESET or has no supply is changed by nothing but RESET, its release and loss of supply
(R16, R188; log 11). -/
def Obligations.AHeldPartIgnoresOtherCommands : Prop :=
  ∀ (c : Instr) (s : State), s.power ≠ .running → c ≠ .hardReset → c ≠ .powerLoss →
    (∀ t x, c ≠ .endOfHardReset t x) → exec c s = .next s

/-! ### Reset and supply -/

/-- RESET and loss of supply stop the cycle and the ports and leave the rest; the line output is released, ALARM reads
asserted and no ATTN line is asserted (R16, R159, R172, R188; log 11). -/
def Obligations.ResetAndPowerLossStopThePart : Prop :=
  ∀ s : State, ∃ t u, exec .hardReset s = .next t ∧ exec .powerLoss s = .next u ∧
    t = { s with
      power := .inReset
      fcy := { s.fcy with timer := none, inFlight := none, completed := none }
      cnu := { s.cnu with receiver := .both none, reply := .both none, waiting := .both none } } ∧
    u = { t with power := .unpowered } ∧
    (lineOutput t = .released ∧ alarm t = true ∧ ∀ p, attn t p = false) ∧
    lineOutput u = .released ∧ alarm u = true ∧ ∀ p, attn u p = false

/-- R16: while RESET is asserted there is no pulse and no composition; at its end the frame cycle starts; a restart
leaves it as it stands. -/
def Obligations.EndOfHardResetStartsTheFrameCycle : Prop :=
  (∀ s : State, s.power = .inReset →
    (∀ t palarm, exec (.internalPulse palarm) s = .next s ∧ exec (.referencePulse t palarm) s = .next s ∧
      exec (.lossExpiry palarm) s = .next s ∧ exec .regainExpiry s = .next s ∧
      exec .compositionCompletion s = .next s ∧ exec .compositionBudgetSpent s = .next s) ∧
    ∀ t straps, ∃ u, exec (.endOfHardReset t straps) s = .next u ∧ u.power = .running ∧
      u.fcy.rate = (if straps.frate then .fps2997 else .fps25) ∧ u.fcy.count = 0#32 ∧ u.fcy.ref = .acquiring ∧
      u.fcy.regain = 0 ∧ u.fcy.lastServing = t ∧ u.fcy.lastReference = none ∧
      u.fcy.timer = some (t + if straps.frate then 4004000 else 4800000) ∧ u.fcy.displayed = none ∧
      u.fcy.completed = none ∧
      ∃ c, u.fcy.inFlight = some c ∧ c.snap.frame = 1#32 ∧ c.snap.plan = u.pln.air ∧ c.snap.segments = [] ∧
        c.snap.frames = [] ∧ c.stopped = false) ∧
  ∀ p params s, ∃ u, exec (.restart p params) s = .next u ∧ u.fcy = s.fcy

/-- The forecast store, the plans, the take engine, the composer, the ingest unit, the output and pair unit and the ports after
a hard reset (R31, R49, R71, R93, R138, R158, R160, R174, R188); the composition of frame 1 costs 400 (R138). -/
def Obligations.EndOfHardResetSetsEveryOtherBlock : Prop :=
  (∀ t straps s, s.power = .inReset → ∃ u, exec (.endOfHardReset t straps) s = .next u ∧
    u.fsw.current = none ∧ u.fsw.next = none ∧ u.fsw.abandonment = 0#32 ∧ u.fsw.slots = List.replicate 48 none ∧
    u.fst.stations = [] ∧ u.fst.segments = [] ∧
    (∀ plan, plan = u.pln.draft ∨ plan = u.pln.air →
      plan.seq = 0#16 ∧ plan.x0 = 0 ∧ plan.y0 = 0 ∧ plan.w = 65535 ∧ plan.h = 36863 ∧ plan.cursor = 0#32 ∧
      plan.layers = { coast := true, wind := false, tide := false, areas := false } ∧ plan.stride = 1 ∧
      plan.gauges = List.replicate 12 none ∧ plan.areas = []) ∧
    u.pln.hold = none ∧ (∀ p, u.pln.waiting.get p = false ∧ u.pln.event.get p = .none) ∧ u.pln.lock = none ∧
    u.tke.queue = [] ∧ (∀ p, u.tke.completions.get p = [] ∧ ∀ tag, tagBusy u p tag = false) ∧ u.tke.log = [] ∧
    u.tke.flushMark = false ∧ u.tke.ts.lines = (false, false)) ∧
  ∀ t straps s, s.power = .inReset → ∃ u, exec (.endOfHardReset t straps) s = .next u ∧
    u.cmp.sticky = 0 ∧ u.cmp.relax = 0 ∧ u.cmp.previousLate = false ∧ lastRecord u = none ∧
    (∃ c, u.fcy.inFlight = some c ∧ c.level = 0 ∧ c.cost = 400 ∧ (∀ level, level ≤ 3 → costAt c.snap level = 400) ∧
      c.budget = if straps.frate then 20000 else 24000) ∧
    u.ing.grant = (if straps.frate then 19600 else 23600) ∧ u.ing.reception = none ∧ u.ing.gap = 0 ∧
    u.ing.queue = [] ∧ u.ing.overrun = none ∧ u.ing.halt = 48 ∧ u.ing.resume = 16 ∧ u.ing.inBand = true ∧
    u.ing.holdOff = false ∧ u.ing.sending = some .continue_ ∧ u.ing.waitingSymbol = none ∧ u.ing.lastError = none ∧
    (u.opr.strap, u.opr.role) =
      (match straps.role1, straps.role0 with
       | false, true => (.pairFirst, .main)
       | true, false => (.pairSecond, .standby)
       | _, _ => (.sole, .sole)) ∧
    u.opr.lineMode = .pass ∧ u.opr.frameLineMode = .pass ∧ u.opr.partnerPresent = false ∧ u.opr.partnerSeen = false ∧
    u.opr.missed = 0 ∧ u.opr.lossCount = 0 ∧ u.opr.inStep = false ∧ u.opr.matchRun = 0 ∧ u.opr.mismatchRun = 0 ∧
    u.opr.inHand = none ∧ u.opr.negotiation = none ∧ u.opr.autoTakeover = true ∧ alarm u = false ∧
    (∀ p, u.cnu.receiver.get p = none ∧ u.cnu.reply.get p = none ∧ u.cnu.waiting.get p = none ∧
      (pendingSet u p).byte = 0#8 ∧ (u.cnu.mask.get p).byte = 0x3F#8 ∧ (u.cnu.causes.get p).byte = 0#8 ∧
      counterByte (u.cnu.trippedSince.get p) = 0#8 ∧ attn u p = false) ∧
    u.cnu.counters.toList = [0, 0, 0, 0, 0, 0] ∧ u.cnu.thresholds.toList = [25, 10, 50, 1, 1, 3] ∧
    counterByte u.cnu.tripped = 0#8 ∧ u.cnu.alarmEnable = true

/-! ### The frame cycle -/

/-- A serving pulse of the internal timer (R2, R4, R7, R8, R10): the count rises by one, or in a STANDBY whose report in hand
carries another frame than its own report becomes that frame plus one (R165; before its own first report the frame 0 stands
for it, log 10); the timer is set one nominal period on; and the composition of the frame after next begins. A paired part then
clears the report in hand and sends its own, with the values handed over at the start of the composition the pulse ends, and
the role, the alarm and the swap word of its negotiation's stage as they stand after the pulse (R161 to R163, R168, R169). -/
def Obligations.InternalPulseServesAndRestartsTheTimer : Prop :=
  ∀ palarm s t, s.power = .running → s.fcy.timer = some t →
    ∃ u, exec (.internalPulse palarm) s = .next u ∧
      ((s.opr.role ≠ .standby ∨ s.opr.inHand = none) → u.fcy.count = s.fcy.count + 1) ∧
      (∀ r own, s.opr.role = .standby → s.opr.inHand = some r →
        own = (match s.opr.sent with | none => 0#32 | some sent => sent.frame) →
        u.fcy.count = if r.frame = own then s.fcy.count + 1 else r.frame + 1) ∧
      u.fcy.lastServing = t ∧ u.fcy.timer = some (t + Config.nominal s.fcy.rate) ∧ u.fcy.rate = s.fcy.rate ∧
      u.fcy.ref = s.fcy.ref ∧ u.fcy.regain = s.fcy.regain ∧ u.fcy.lastReference = s.fcy.lastReference ∧
      (∃ c, u.fcy.inFlight = some c ∧ c.snap.frame = u.fcy.count + 1 ∧ c.snap.plan = u.pln.air ∧ c.stopped = false ∧
        u.opr.handed = { frame := c.snap.frame, airSeq := c.snap.plan.seq, cursor := c.snap.plan.cursor,
                         runId := match c.snap.current with | none => 0#16 | some run => run.id, level := c.level }) ∧
      (s.opr.role = .sole → u.opr.sent = s.opr.sent) ∧
      (s.opr.role ≠ .sole → u.opr.inHand = none ∧ u.opr.mains = [] ∧ ∃ rep, u.opr.sent = some rep ∧
        rep.frame = s.opr.handed.frame ∧ rep.airSeq = s.opr.handed.airSeq ∧ rep.runId = s.opr.handed.runId ∧
        rep.cursor = s.opr.handed.cursor ∧ rep.level = BitVec.ofNat 8 s.opr.handed.level ∧ rep.alarm = alarm u ∧
        (u.opr.role = .main → rep.role = .main) ∧ (u.opr.role = .standby → rep.role = .standby) ∧
        (u.opr.role = .handingOver → rep.role = .handingOver) ∧
        (u.opr.negotiation = none → rep.swap = .none ∧ rep.lineFrame = 0#32) ∧
        ∀ n, u.opr.negotiation = some n →
          (n.stage = .requesting → reached (n.lineFrame - 1) u.fcy.count = false →
            rep.swap = .request ∧ rep.lineFrame = n.lineFrame) ∧
          (n.stage = .offering → rep.swap = .offer ∧ rep.lineFrame = n.lineFrame) ∧
          (n.stage = .released → u.opr.role = .main → rep.swap = .release ∧ rep.lineFrame = n.lineFrame) ∧
          ((n.stage = .released ∧ u.opr.role = .handingOver ∨ n.stage = .waiting ∨ n.stage = .withdrawn ∨
              n.stage = .releaseReceived) → rep.swap = .none ∧ rep.lineFrame = 0#32))

/-- A serving pulse displays a completed chart and abandons a composition still in flight, with LATE FRAMES one higher
(R12, R13); it fixes the frame line mode of the frame begun and lets the one fixed before govern the period (R159; at count
sync log 38); and what it leaves: the tide and coast store, the draft, the hold and the lock, the ports and the settings.
The take engine at the pulse of a SOLE part (R77, R92): with no entry due it applies none and steps a running sweep (R82,
R83); a LINE sets the line mode, the later of two (R86); an ADOPT adopts a fit NEXT or completes NOT READY and changes no
store (R26, R27, R85); a SWEEP supersedes a running sweep and writes its first step (R81, R82, R84). That the part then holds
the PARTNER-ALARM level presented with the pulse is the model's choice (log 6). -/
def Obligations.PulseDisplaysOrAbandons : Prop :=
  (∀ palarm s t, s.power = .running → s.fcy.timer = some t →
    ∃ u, exec (.internalPulse palarm) s = .next u ∧ u.fcy.completed = none ∧
      u.fcy.displayed = (match s.fcy.completed with | some c => some c | none => s.fcy.displayed) ∧
      u.cnu.counters.lateFrames =
        (if s.fcy.inFlight.isSome then min 65535 (s.cnu.counters.lateFrames + 1) else s.cnu.counters.lateFrames) ∧
      u.opr.frameLineMode = s.opr.nextLineMode ∧ u.opr.nextLineMode = u.opr.lineMode ∧
      u.fst = s.fst ∧ u.pln = { s.pln with air := u.pln.air } ∧
      u.cnu.receiver = s.cnu.receiver ∧ u.cnu.reply = s.cnu.reply ∧ u.cnu.waiting = s.cnu.waiting ∧
      u.cnu.mask = s.cnu.mask ∧ u.cnu.thresholds = s.cnu.thresholds ∧ u.cnu.alarmEnable = s.cnu.alarmEnable ∧
      u.ing.halt = s.ing.halt ∧ u.ing.resume = s.ing.resume ∧ u.ing.inBand = s.ing.inBand ∧
      u.ing.lastError = s.ing.lastError ∧ u.opr.strap = s.opr.strap ∧ u.opr.autoTakeover = s.opr.autoTakeover ∧
      u.power = .running ∧ u.palarm = palarm) ∧
  ∀ palarm s t frame, SolePulse s t → frame = s.fcy.count + 2 → ∃ u, exec (.internalPulse palarm) s = .next u ∧
    u.tke.flushMark = false ∧
    (dueNext s = [] →
      u.tke.ts = tsFor s.tke.flushMark 0 ∧ u.fsw = s.fsw ∧ u.opr.lineMode = s.opr.lineMode ∧
      ((∀ x ∈ s.tke.queue, isSweeping x = false) →
        u.tke.queue = s.tke.queue ∧ u.tke.completions = s.tke.completions ∧ u.tke.log = s.tke.log ∧ u.pln = s.pln) ∧
      ∀ x ∈ s.tke.queue, ∀ r status applied next, x.state = .sweeping r status applied → r.k < r.n →
        next = { r with k := r.k + 1 } →
        u.pln = { s.pln with air := steppedAir next s.pln.air } ∧ Swept x next status applied s u) ∧
    (∀ e, dueNext s = [e] → ∀ status : TakeStatus, status = (if e.past then .doneLate else .done) →
      (∀ mode, e.kind = .line mode →
        u.opr.lineMode = mode ∧ u.fsw = s.fsw ∧ u.tke.ts = tsFor s.tke.flushMark 1 ∧ Finished e status frame u) ∧
      (∀ n target r, e.kind = .sweep n target → 1 ≤ n →
        r = { n := n, k := 1, cursorStart := s.pln.air.cursor, cursorTarget := target, view := none } →
        u.pln = { s.pln with air := steppedAir r s.pln.air } ∧ Superseded s u ∧ Swept e r status frame s u ∧
          u.tke.ts = tsFor s.tke.flushMark 1) ∧
      (e.kind = .adopt → ∀ whole, whole = ((heldFrames s.fsw).filter fun f => f.owner = .next && f.state = .complete).length →
        (∀ next, s.fsw.next = some next → e.abandonment = s.fsw.abandonment →
          (next.state = .ready ∨ e.force = true ∧ next.state = .ended ∧ 2 ≤ whole) →
          u.fsw = { current := some next.run, next := none, abandonment := s.fsw.abandonment,
                    slots := s.fsw.slots.map fun slot =>
                      match slot with
                      | none => none
                      | some f => if f.owner = .current then none else some { f with owner := .current } } ∧
            u.tke.ts = tsFor s.tke.flushMark 1 ∧ Finished e status frame u) ∧
        ((s.fsw.next = none ∨ e.abandonment ≠ s.fsw.abandonment ∨
            ∃ next, s.fsw.next = some next ∧ next.state ≠ .ready ∧
              (e.force = false ∨ next.state = .opened ∨ whole < 2)) →
          u.fsw = s.fsw ∧ u.tke.ts = tsFor s.tke.flushMark 0 ∧ Finished e .notReady frame u))) ∧
    ∀ e1 e2 m1 m2, dueNext s = [e1, e2] → e1.kind = .line m1 → e2.kind = .line m2 →
      u.opr.lineMode = m2 ∧ u.tke.ts = tsFor s.tke.flushMark 2 ∧
        Finished e1 (if e1.past then .doneLate else .done) frame u ∧
        Finished e2 (if e2.past then .doneLate else .done) frame u

/-- A reference pulse in LOCKED serves from 0.75 nominal periods on, is ignored earlier (R5), and after 1.25 nominal periods
finds the loss of R6 made and begins REGAINING (R7; that an expiry not presented has come first is the model's reading,
log 5). -/
def Obligations.LockedReferencePulse : Prop :=
  ∀ m palarm s t0, s.power = .running → s.fcy.ref = .locked → s.fcy.lastReference = some t0 →
    (m < t0 + Config.guardInterval s.fcy.rate → exec (.referencePulse m palarm) s = .next s) ∧
    (t0 + Config.guardInterval s.fcy.rate ≤ m → m ≤ t0 + Config.expiry s.fcy.rate →
      ∃ u, exec (.referencePulse m palarm) s = .next u ∧ u.fcy.ref = .locked ∧ u.fcy.lastReference = some m ∧
        u.fcy.lastServing = m ∧ u.fcy.timer = s.fcy.timer ∧
        u.cnu.counters.referenceLosses = s.cnu.counters.referenceLosses ∧
        ((s.opr.role ≠ .standby ∨ s.opr.inHand = none) → u.fcy.count = s.fcy.count + 1)) ∧
    (t0 + Config.expiry s.fcy.rate < m →
      ∃ u, exec (.referencePulse m palarm) s = .next u ∧ u.fcy.ref = .regaining ∧ u.fcy.regain = 1 ∧
        u.fcy.lastReference = some m ∧ u.fcy.lastServing = t0 + Config.expiry s.fcy.rate ∧
        u.cnu.counters.referenceLosses = min 65535 (s.cnu.counters.referenceLosses + 1))

/-- A reference pulse in ACQUIRING locks: it serves, or is the lock point, which leaves everything but the cycle's reference
state as it was (R4, R9). In LOST it begins REGAINING; in REGAINING it is counted, or is early and ends the attempt, or is
the fourth and locks; the regain expiry ends the attempt; none but the fourth serves (R7, R8, R9). That a pulse in REGAINING
after the expiry finds the attempt ended and begins another is the model's reading (log 5). -/
def Obligations.ReferencePulsesLockOrCountOutsideLocked : Prop :=
  (∀ m palarm s, s.power = .running → s.fcy.ref = .acquiring →
    (m < s.fcy.lastServing + Config.guardInterval s.fcy.rate →
      exec (.referencePulse m palarm) s = .next { s with
        fcy := { s.fcy with ref := .locked, regain := 0, timer := none, lastReference := some m } }) ∧
    (s.fcy.lastServing + Config.guardInterval s.fcy.rate ≤ m →
      ∃ u, exec (.referencePulse m palarm) s = .next u ∧ u.fcy.ref = .locked ∧ u.fcy.timer = none ∧
        u.fcy.lastReference = some m ∧ u.fcy.lastServing = m ∧
        ((s.opr.role ≠ .standby ∨ s.opr.inHand = none) → u.fcy.count = s.fcy.count + 1))) ∧
  (∀ m palarm s, s.power = .running → s.fcy.ref = .lost →
    exec (.referencePulse m palarm) s = .next { s with
      fcy := { s.fcy with ref := .regaining, regain := 1, lastReference := some m } }) ∧
  ∀ s t0, s.power = .running → s.fcy.ref = .regaining → s.fcy.lastReference = some t0 →
    exec .regainExpiry s = .next { s with fcy := { s.fcy with ref := .lost, regain := 0 } } ∧
    ∀ m palarm,
      (m < t0 + Config.guardInterval s.fcy.rate →
        exec (.referencePulse m palarm) s = .next { s with fcy := { s.fcy with ref := .lost, regain := 0 } }) ∧
      (t0 + Config.guardInterval s.fcy.rate ≤ m → m ≤ t0 + Config.expiry s.fcy.rate →
        (s.fcy.regain < 3 →
          exec (.referencePulse m palarm) s = .next { s with
            fcy := { s.fcy with regain := s.fcy.regain + 1, lastReference := some m } }) ∧
        (s.fcy.regain = 3 → ∃ u, exec (.referencePulse m palarm) s = .next u ∧ u.fcy.ref = .locked ∧
          u.fcy.regain = 0 ∧ u.fcy.timer = none ∧ u.fcy.lastReference = some m ∧
          u.fcy.lastServing =
            (if s.fcy.lastServing + Config.guardInterval s.fcy.rate ≤ m then m else s.fcy.lastServing))) ∧
      (t0 + Config.expiry s.fcy.rate < m →
        exec (.referencePulse m palarm) s = .next { s with
          fcy := { s.fcy with ref := .regaining, regain := 1, lastReference := some m } })

/-- The loss expiry in LOCKED: its pulse serves, the state is LOST, the timer runs, REFERENCE LOSSES rises and FAULT is
raised for both ports with the cause REFERENCE LOST (R6, R183). -/
def Obligations.LossExpiryLosesTheReference : Prop :=
  ∀ palarm s t0, s.power = .running → s.fcy.ref = .locked → s.fcy.lastReference = some t0 →
    ∃ u, exec (.lossExpiry palarm) s = .next u ∧ u.fcy.ref = .lost ∧ u.fcy.regain = s.fcy.regain ∧
      u.fcy.lastReference = some t0 ∧ u.fcy.lastServing = t0 + Config.expiry s.fcy.rate ∧
      u.fcy.timer = some (t0 + Config.expiry s.fcy.rate + Config.nominal s.fcy.rate) ∧
      ((s.opr.role ≠ .standby ∨ s.opr.inHand = none) → u.fcy.count = s.fcy.count + 1) ∧
      u.cnu.counters.referenceLosses = min 65535 (s.cnu.counters.referenceLosses + 1) ∧ alarm u = true ∧
      ∀ p, (u.cnu.raised.get p).fault = true ∧ (u.cnu.causes.get p).referenceLost = true

/-! ### The composer -/

/-- A composition whose cost is within A completes, and one whose cost exceeds A stays in flight when A is spent (R11; that the
other event changes nothing is the model's choice, log 4). What the finished chart draws and records: the segments and points
of the coast and the highlighted areas (R127, R128, R131), their lines cut at the picture's edge (the edge itself, log 19);
the wind result (R110, R114 to R117) and a mark at every arrow position (R111 to R113, R118, R123); and the result of every
gauge, NO STATION, HELD or LIVE, with its height, level, rate and trend (R98 to R104, R107). -/
def Obligations.CompositionCompletesWithinItsBudget : Prop :=
  (∀ s c, s.power = .running → s.fcy.inFlight = some c →
    (c.cost ≤ c.budget → ∃ chart, chart.record.frame = c.snap.frame ∧ chart.record.airSeq = c.snap.plan.seq ∧
      chart.record.cursor = c.snap.plan.cursor ∧ chart.record.level = c.level ∧ chart.record.cost = c.cost ∧
      chart.record.budget = c.budget ∧ chart.viewX0 = c.snap.plan.x0 ∧ chart.viewY0 = c.snap.plan.y0 ∧
      chart.viewW = c.snap.plan.w ∧
      exec .compositionCompletion s = .next { s with
        fcy := { s.fcy with inFlight := none, completed := some chart } } ∧
      exec .compositionBudgetSpent s = .next s) ∧
    (c.budget < c.cost →
      exec .compositionCompletion s = .next s ∧
      exec .compositionBudgetSpent s = .next { s with
        fcy := { s.fcy with inFlight := some { c with stopped := true } } })) ∧
  ∀ s c p level, s.power = .running → s.fcy.inFlight = some c → c.cost ≤ c.budget → p = c.snap.plan → level = c.level →
    ∃ chart u, exec .compositionCompletion s = .next u ∧ u.fcy.completed = some chart ∧
    -- the coast and the areas
    (∀ shown areas : List Segment,
      shown = (c.snap.segments.filter fun g => p.layers.coast && (level < 2 || g.cls ≠ .minor) &&
        (g.box.xmin < p.x0 + p.w && p.x0 ≤ g.box.xmax && g.box.ymin < p.y0 + p.w * 9 / 16 && p.y0 ≤ g.box.ymax)) →
      areas = (if p.layers.areas then p.areas.filterMap fun id =>
        c.snap.segments.find? fun g => g.id = id && g.cls = .area else []) →
      chart.record.coastSegments = shown.length ∧
      chart.record.coastPoints =
        (shown.map fun g => if level < 2 then g.points.length else g.points.length / 2 + 1).sum ∧
      chart.record.areaCount = areas.length ∧ chart.coast.map DrawnLine.id = shown.map Segment.id ∧
      (chart.highlights.map DrawnLine.id).Sublist (areas.map Segment.id)) ∧
    (∀ line ∈ chart.highlights, line.strokes ≠ []) ∧
    (∀ line, line ∈ chart.coast ∨ line ∈ chart.highlights → ∀ k ∈ line.strokes, ∀ q, q = k.start ∨ q = k.stop →
      0 < q.den ∧ (p.x0 * q.den : Int) ≤ q.x ∧ q.x ≤ ((p.x0 + p.w) * q.den : Int) ∧ (p.y0 * q.den : Int) ≤ q.y ∧
        q.y ≤ ((p.y0 + p.w * 9 / 16 : Nat) * q.den : Int)) ∧
    -- the wind
    (p.layers.wind = false →
      chart.record.wind = { status := .off, t0 := 0#32, t1 := 0#32, f := 0, arrows := 0 } ∧ chart.wind = []) ∧
    (p.layers.wind = true → (c.snap.current = none ∨ c.snap.frames = []) →
      chart.record.wind = { status := .noData, t0 := 0#32, t1 := 0#32, f := 0, arrows := 0 } ∧ chart.wind = []) ∧
    (∀ run r stride arrows, p.layers.wind = true → c.snap.current = some run → r = (p.cursor - run.base).toInt →
      (c.snap.frames.map SnapFrame.offset).Pairwise (· < ·) → stride = (if level = 0 then p.stride else 2 * p.stride) →
      arrows = ((List.range 48).filter fun i =>
          i % stride = 0 && p.x0 ≤ 680 + 1360 * i && 680 + 1360 * i < p.x0 + p.w).length *
        ((List.range 32).filter fun j =>
          j % stride = 0 && p.y0 ≤ 1020 + 2040 * j && 1020 + 2040 * j < p.y0 + p.w * 9 / 16).length →
      (∀ before f0 f1 later (f : Nat), c.snap.frames = before ++ f0 :: f1 :: later → (f0.offset : Int) ≤ r →
        r < (f1.offset : Int) → (f : Int) = (r - f0.offset) * 256 / (f1.offset - f0.offset) →
        chart.record.wind = { status := .drawn, t0 := run.base + BitVec.ofNat 32 f0.offset,
                              t1 := run.base + BitVec.ofNat 32 f1.offset, f := f, arrows := arrows } ∧
        chart.wind.length = arrows ∧
        ∀ m ∈ chart.wind, m.at_ = ⟨680 + 1360 * m.column, 1020 + 2040 * m.row⟩ ∧
          ∀ a b, a = pairAt f0.grid m.column m.row → b = pairAt f1.grid m.column m.row →
            m.mark = markOf { u := a.u + ((b.u - a.u) * f + 128) / 256, v := a.v + ((b.v - a.v) * f + 128) / 256 }) ∧
      (∀ f1 later, c.snap.frames = f1 :: later → r < (f1.offset : Int) →
        chart.record.wind = { status := .heldFirst, t0 := run.base + BitVec.ofNat 32 f1.offset,
                              t1 := run.base + BitVec.ofNat 32 f1.offset, f := 0, arrows := arrows } ∧
        chart.wind.length = arrows ∧ ∀ m ∈ chart.wind, m.mark = markOf (pairAt f1.grid m.column m.row)) ∧
      ∀ before f0, c.snap.frames = before ++ [f0] → (f0.offset : Int) ≤ r →
        chart.record.wind = { status := if (f0.offset : Int) = r then .drawn else .heldLast,
                              t0 := run.base + BitVec.ofNat 32 f0.offset,
                              t1 := run.base + BitVec.ofNat 32 f0.offset, f := 0, arrows := arrows } ∧
        chart.wind.length = arrows ∧ ∀ m ∈ chart.wind, m.mark = markOf (pairAt f0.grid m.column m.row)) ∧
    -- the gauges
    (p.layers.tide = false → chart.record.gauges = [] ∧ chart.gauges = []) ∧
    (p.layers.tide = true → chart.record.gauges.length = c.snap.gauges.length ∧
      chart.gauges.map DrawnGauge.result = chart.record.gauges ∧
      ∀ (i : Nat) (g : SnapGauge), c.snap.gauges[i]? = some g → ∃ v : GaugeResult, chart.record.gauges[i]? = some v ∧
        v.slot = g.slot ∧ v.station = g.gauge.station ∧
        (g.record = none → v.status = .noStation ∧ v.values = none) ∧
        ∀ st, g.record = some st →
          (level = 3 → v.status = .held ∧
            v.values = (c.snap.lastGauges.find? fun x => x.slot = g.slot && x.station = g.gauge.station).bind
              GaugeResult.values) ∧
          (level ≠ 3 → v.status = .live ∧ ∃ w : GaugeValues, v.values = some w ∧
            ∀ index : Constituent → Nat, (∀ x, index x =
                (x.phase.toNat * 65536 + x.omega.toNat * p.cursor.toNat) % 4294967296 / 4194304) →
              w.height = st.z0 + (st.constituents.map fun x => roundAway (x.amp * cosEntry (index x)) 32768).sum ∧
              w.rate = max (-9999) (min 9999 (-(Int.tdiv (st.constituents.map fun x =>
                roundAway (x.amp * cosEntry ((index x + 768) % 1024)) 32768 * (x.omega.toNat / 1024 : Nat) * 1508).sum
                16777216))) ∧
              (st.hmin < st.hmax → (w.level : Int) = (200 * (max st.hmin (min st.hmax w.height) - st.hmin) +
                (st.hmax - st.hmin)) / (2 * (st.hmax - st.hmin))) ∧
              (w.offScale = true ↔ w.height < st.hmin ∨ st.hmax < w.height) ∧
              w.trend = (if 50 ≤ w.rate then .rising else if w.rate ≤ -50 then .falling else .slack)))

/-- At a composition start, after the relaxation step, the level is the smallest from the sticky level on whose cost is within
A = B − floor, or 3; the sticky level follows it, the loader's grant is max(B − cost, floor), and the previous-late flag
tells that no level fitted (R132, R133, R137); and the relaxation step itself (R134). -/
def Obligations.CompositionStartRelaxesAndChoosesTheLevel : Prop :=
  (∀ s snap floor a sticky, snap = snapshotOf s → floor = (if s.ing.halt ≤ s.ing.queue.length then 3000 else 0) →
    a = Config.budget s.fcy.rate - floor → sticky = (relaxationStep snap a s.cmp).sticky → sticky ≤ 3 →
    ∃ level, sticky ≤ level ∧ level ≤ 3 ∧ (costAt snap level ≤ a ∨ level = 3) ∧
      (∀ l, sticky ≤ l → l < level → a < costAt snap l) ∧
      (beginComposition s).fcy.inFlight =
        some { snap := snap, level := level, cost := costAt snap level, budget := a, stopped := false } ∧
      (beginComposition s).cmp.sticky = level ∧
      (beginComposition s).cmp.previousLate = decide (a < costAt snap level) ∧
      (beginComposition s).ing.grant = max (Config.budget s.fcy.rate - costAt snap level) floor ∧
      (beginComposition s).cnu.counters.degradedEntries =
        (if sticky < level then min 65535 (s.cnu.counters.degradedEntries + 1) else s.cnu.counters.degradedEntries)) ∧
  ∀ snap a (c : Cmp),
    (c.sticky = 0 → relaxationStep snap a c = { c with relax := 0 }) ∧
    (c.sticky ≠ 0 → (costAt snap (c.sticky - 1) ≤ a ∧ c.previousLate = false) →
      relaxationStep snap a c =
        if c.relax = 99 then { c with sticky := c.sticky - 1, relax := 0 } else { c with relax := c.relax + 1 }) ∧
    (c.sticky ≠ 0 → ¬ (costAt snap (c.sticky - 1) ≤ a ∧ c.previousLate = false) →
      relaxationStep snap a c = { c with relax := 0 })

/-- The cost of a chart does not rise with the level (R126), over a lawful segment list. It is 400 with the parts of the
layers that are on: a unit for each point drawn of a segment that meets the view, all points below level 2 and the reduced
point set of all but MINOR segments from there on (R127, R128); 6 for each arrow position, at twice the stride base from level
1 on (R129); the charge of each gauge slot (R130); and 40 for each listed id that names an AREA segment (R131). -/
def Obligations.CostDoesNotRiseWithTheLevel : Prop :=
  (∀ (snap : Snapshot) (level : Nat), (∀ g ∈ snap.segments, OneSegmentLaw g) → level < 3 →
    costAt snap (level + 1) ≤ costAt snap level) ∧
  ∀ (snap : Snapshot) (level stride : Nat) (p : Plan), level ≤ 3 → p = snap.plan →
    stride = (if level = 0 then p.stride else 2 * p.stride) →
    costAt snap level = 400 +
      (if p.layers.coast = false then 0
       else if level < 2 then
         ((snap.segments.filter fun g => g.box.xmin < p.x0 + p.w && p.x0 ≤ g.box.xmax &&
           g.box.ymin < p.y0 + p.w * 9 / 16 && p.y0 ≤ g.box.ymax).map fun g => g.points.length).sum
       else
         ((snap.segments.filter fun g => g.cls ≠ .minor && g.box.xmin < p.x0 + p.w && p.x0 ≤ g.box.xmax &&
           g.box.ymin < p.y0 + p.w * 9 / 16 && p.y0 ≤ g.box.ymax).map fun g => g.points.length / 2 + 1).sum) +
      (if p.layers.wind = false then 0
       else 6 *
         (((List.range 48).countP fun i =>
            i % stride = 0 && p.x0 ≤ 680 + 1360 * i && 680 + 1360 * i < p.x0 + p.w) *
          ((List.range 32).countP fun j =>
            j % stride = 0 && p.y0 ≤ 1020 + 2040 * j && 1020 + 2040 * j < p.y0 + p.w * 9 / 16))) +
      (if p.layers.tide = false then 0
       else (snap.gauges.map fun g =>
         match g.record with
         | none => 4
         | some st =>
           if level = 3 then 4
           else 20 + 6 * st.constituents.length +
             (if g.gauge.curve then 25 * (1 + 3 * st.constituents.length) else 0)).sum) +
      (if p.layers.areas = false then 0
       else 40 * (p.areas.countP fun id => snap.segments.any fun g => g.id = id && g.cls = .area))

/-! ### What comes about inside a serving pulse (log 1) -/

/-- The take of the expiry: a PUBLISH without URGENT that waits under the other port's hold expires at the start of
D + 50: it leaves the queue, its port's list and the log receive its record, and the frame after the count's is its
applied frame (R80, R88; log 1). The log is the last eight of its records followed by those of the pulse: each entry due
before it or after it adds at most two, its own and that of the sweep it supersedes, and the sweep stepped last at most one
(R84, R88, R90). The law of R53: at a pulse the air sequence rises by the number of PUBLISH takes that fall
due and are not held back. One that is held back is DEFERRED and nothing goes to air (R80). One that is applied supersedes a
running sweep (R84): by cut the draft goes to air whole but for its sequence number (R53, R78), and swept its layers, stride,
gauges and areas go to air and the first step of its cursor and view is written (R54, R79, R82). -/
def Obligations.DeferredPublishExpires : Prop :=
  (∀ palarm s t e n, s.power = .running → s.fcy.timer = some t → TakeLaw s.tke → e ∈ s.tke.queue →
    e.kind = .publish n → e.urgent = false → (e.state = .queued ∨ e.state = .deferred) →
    s.pln.hold = some e.port.other → (s.opr.role ≠ .standby ∨ s.opr.inHand = none) →
    e.due + 50 = s.fcy.count + 2 → s.opr.negotiation = none →
    ∃ u, exec (.takeExpiry (.internal palarm)) s = .next u ∧ u.fcy.count = s.fcy.count + 1 ∧
      (∀ x ∈ u.tke.queue, ¬ (x.port = e.port ∧ x.tag = e.tag)) ∧
      ({ port := e.port, tag := e.tag, sort := .publish, status := .expired, applied := s.fcy.count + 2,
         due := e.due } : Completion) ∈ u.tke.completions.get e.port ∧
      ∃ first rest made later log, dueNext s = first ++ e :: rest ∧ made.length ≤ 2 * first.length ∧
        later.length ≤ 2 * rest.length + s.tke.queue.countP isSweeping ∧
        log = s.tke.log ++ made ++ ({ port := e.port, tag := e.tag, sort := .publish, status := .expired,
                                      applied := s.fcy.count + 2, due := e.due } : Completion) :: later ∧
        u.tke.log = log.drop (log.length - 8)) ∧
  ∀ palarm s t frame, SolePulse s t → frame = s.fcy.count + 2 → ∃ u, exec (.internalPulse palarm) s = .next u ∧
    u.pln.air.seq = s.pln.air.seq + BitVec.ofNat 16 ((dueNext s).countP fun e =>
      e.kind.sort = .publish && (e.urgent || s.pln.hold ≠ some e.port.other)) ∧
    ∀ e n, dueNext s = [e] → e.kind = .publish n →
      (e.urgent = false → s.pln.hold = some e.port.other → reached (e.due + 50) frame = false →
        (∀ x ∈ s.tke.queue, isSweeping x = false) →
        u.tke.queue = s.tke.queue.map (fun x => if sameTake e x then { x with state := .deferred } else x) ∧
        u.tke.completions = s.tke.completions ∧ u.pln = s.pln ∧ u.tke.ts = tsFor s.tke.flushMark 0) ∧
      ((e.urgent = true ∨ s.pln.hold ≠ some e.port.other) → ∀ status : TakeStatus,
        status = (if e.past then .doneLate
          else if e.urgent = true ∧ s.pln.hold = some e.port.other then .doneHeld else .done) →
        Superseded s u ∧ u.tke.ts = tsFor s.tke.flushMark 1 ∧
        (n = 0 → PlanLaw s.pln.draft →
          u.pln = { s.pln with air := { s.pln.draft with seq := s.pln.air.seq + 1 } } ∧ Finished e status frame u ∧
          u.tke.queue = s.tke.queue.filter fun x => !sameTake e x && !isSweeping x) ∧
        (1 ≤ n → ∀ r, r = { n := n, k := 1, cursorStart := s.pln.air.cursor, cursorTarget := s.pln.draft.cursor,
                            view := some { x0Start := s.pln.air.x0, x0Target := s.pln.draft.x0
                                           y0Start := s.pln.air.y0, y0Target := s.pln.draft.y0
                                           wStart := s.pln.air.w, wTarget := s.pln.draft.w } } →
          u.pln = { s.pln with air := steppedAir r { s.pln.air with
            seq := s.pln.air.seq + 1
            layers := s.pln.draft.layers
            stride := s.pln.draft.stride
            gauges := s.pln.draft.gauges
            areas := s.pln.draft.areas } } ∧
          Swept e r status frame s u))

/-- The relaxation that reaches 100: with no take waiting, the sticky level falls by one, the count returns to 0, and the
composition begun uses the lower level (R134). -/
def Obligations.HundredthQualifyingStartRelaxes : Prop :=
  ∀ palarm s t, s.power = .running → s.fcy.timer = some t → s.opr.role = .sole → s.tke.queue = [] →
    1 ≤ s.cmp.sticky → s.cmp.sticky ≤ 3 → s.cmp.relax = 99 → s.cmp.previousLate = false →
    costAt (snapshotOf s) (s.cmp.sticky - 1) + (if s.ing.halt ≤ s.ing.queue.length then 3000 else 0) ≤
      Config.budget s.fcy.rate →
    ∃ u, exec (.relaxation (.internal palarm)) s = .next u ∧ u.cmp.sticky = s.cmp.sticky - 1 ∧ u.cmp.relax = 0 ∧
      u.cmp.previousLate = false ∧ (∃ c, u.fcy.inFlight = some c ∧ c.level = s.cmp.sticky - 1) ∧
      u.cnu.counters.degradedEntries = s.cnu.counters.degradedEntries

/-- A unit in reception whose gap count stands at 4 closes STALE at the pulse, and enters a queue that has room with the
pending overrun (R145, R146); a report in reception at its second pulse is discarded (R163). -/
def Obligations.StaleUnitsAndReportsAreDiscarded : Prop :=
  (∀ palarm s t bytes, s.power = .running → s.fcy.timer = some t → s.ing.reception = some bytes → s.ing.gap = 4 →
    s.ing.queue.length < 64 →
    ∃ u, exec (.stale (.internal palarm)) s = .next u ∧ u.ing.reception = none ∧ u.ing.gap = 0 ∧
      u.ing.overrun = none ∧
      u.ing.queue = s.ing.queue ++
        [{ mark := .stale, type_ := bytes[0]?, length_ := (bytes[1]?).map BitVec.toNat, payload := [],
           overrun := s.ing.overrun }] ∧
      u.fst = s.fst ∧ u.ing.lastError = s.ing.lastError) ∧
  ∀ palarm s t l, s.power = .running → s.fcy.timer = some t → s.opr.role ≠ .sole → s.opr.link = some l →
    l.pulses = 1 →
    ∃ u, exec (.partnerReportTimeout (.internal palarm)) s = .next u ∧ u.opr.link = none ∧ u.fst = s.fst

/-- The third missed period of a PRESENT partner: the partner is LOST, the loss count 0, the part OUT OF STEP with
STEP LOSSES one higher when it was IN STEP, and FAULT is raised for both ports with the cause PARTNER LOST (R164, R166,
R183; log 1). The rest of the pair unit's work at a pulse: the presence counts (R164) and the step comparison, match, mismatch
and neither (R166); the stages of a negotiation at F - 2 and before, F - 1, F and F + 1 on either side (R167 to R169; `passed`
counts the stage frames behind the record, log 18), with FAULT at the role changes of a record that began AUTOMATIC (R170,
log 27); automatic negotiation, forced takeover and self-release (R170); and contention (R171; log 20). That the TS code counts
each joined SWAP as one take applied (R92; log 16), and that a PAIR-SECOND part yields to equal frames whatever its partner's
strap (R171; log 44), are the model's choices. -/
def Obligations.ThirdMissedPeriodLosesThePartner : Prop :=
  (∀ palarm s t, s.power = .running → s.fcy.timer = some t → s.opr.role ≠ .sole → s.opr.partnerPresent = true →
    s.opr.inHand = none → s.opr.missed = 2 →
    ∃ u, exec (.partnerLoss (.internal palarm)) s = .next u ∧ u.opr.partnerPresent = false ∧ u.opr.missed = 3 ∧
      u.opr.lossCount = 0 ∧ u.opr.inStep = false ∧ u.opr.matchRun = 0 ∧
      u.cnu.counters.stepLosses =
        (if s.opr.inStep then min 65535 (s.cnu.counters.stepLosses + 1) else s.cnu.counters.stepLosses) ∧
      ∀ p, (u.cnu.raised.get p).fault = true ∧ (u.cnu.causes.get p).partnerLost = true ∧
        (s.opr.inStep = true → (u.cnu.raised.get p).step = true)) ∧
  (∀ palarm s t own, s.power = .running → s.fcy.timer = some t → s.opr.role ≠ .sole → s.opr.sent = some own →
    ∃ u, exec (.internalPulse palarm) s = .next u ∧
      u.opr.missed = (if s.opr.inHand.isSome then 0 else min 3 (s.opr.missed + 1)) ∧
      (s.opr.partnerPresent = false → u.opr.partnerPresent = false ∧ u.opr.lossCount = min 25 (s.opr.lossCount + 1)) ∧
      (s.opr.partnerPresent = true → (s.opr.inHand.isSome ∨ s.opr.missed < 2) → u.opr.partnerPresent = true) ∧
      (∀ r, s.opr.inHand = some r → (own.frame = r.frame ∧ own.airSeq = r.airSeq ∧ own.runId = r.runId ∧
          own.cursor = r.cursor ∧ own.level = r.level) →
        u.opr.matchRun = min 8 (s.opr.matchRun + 1) ∧ u.opr.mismatchRun = 0 ∧
        u.opr.inStep = (s.opr.inStep || decide (7 ≤ s.opr.matchRun)) ∧
        u.cnu.counters.stepLosses = s.cnu.counters.stepLosses ∧
        (s.opr.inStep = false → 7 ≤ s.opr.matchRun → ∀ p, (u.cnu.raised.get p).step = true)) ∧
      (∀ r, s.opr.inHand = some r → ¬ (own.frame = r.frame ∧ own.airSeq = r.airSeq ∧ own.runId = r.runId ∧
          own.cursor = r.cursor ∧ own.level = r.level) →
        u.opr.matchRun = 0 ∧ u.opr.mismatchRun = min 2 (s.opr.mismatchRun + 1) ∧
        u.opr.inStep = (s.opr.inStep && decide (s.opr.mismatchRun = 0)) ∧
        u.cnu.counters.stepLosses = (if s.opr.inStep = true ∧ 1 ≤ s.opr.mismatchRun
          then min 65535 (s.cnu.counters.stepLosses + 1) else s.cnu.counters.stepLosses) ∧
        (s.opr.inStep = true → 1 ≤ s.opr.mismatchRun → ∀ p, (u.cnu.raised.get p).step = true)) ∧
      (s.opr.inHand = none → (s.opr.partnerPresent = false ∨ s.opr.missed < 2) →
        u.opr.matchRun = 0 ∧ u.opr.mismatchRun = s.opr.mismatchRun ∧ u.opr.inStep = s.opr.inStep ∧
        u.cnu.counters.stepLosses = s.cnu.counters.stepLosses)) ∧
  -- the stages of a negotiation
  (∀ palarm s t n f, SwapPulse s t n → f = n.lineFrame → ∃ u, exec (.internalPulse palarm) s = .next u ∧
    (n.side = .mainSide → s.opr.role = .main → NoContender s →
      (n.passed = 1 → f = s.fcy.count + 2 →
        (n.offerSeen = true → (n.entries ≠ [] ∨ n.origin = .automatic ∧ alarm s = true) →
          u.opr.role = .main ∧ u.opr.negotiation = some { n with stage := .released, passed := 2 }) ∧
        ((n.offerSeen = false ∨ n.entries = [] ∧ (n.origin ≠ .automatic ∨ alarm u = false)) →
          u.opr.role = .main ∧ u.opr.negotiation = none ∧ JoinedEnd n .swapFailed (s.fcy.count + 2) s u)) ∧
      (n.passed = 2 → f = s.fcy.count + 1 → n.stage = .released →
        u.opr.role = .handingOver ∧ u.opr.negotiation = some { n with passed := 3 } ∧
        (n.automatic = true → RoleFault u) ∧
        ((∀ e ∈ s.tke.queue, e.state = .negotiating) → u.tke.ts = tsFor s.tke.flushMark n.entries.length))) ∧
    (n.side = .mainSide → s.opr.role = .handingOver → n.passed = 3 → f = s.fcy.count →
      ((∃ r, s.opr.inHand = some r ∧ r.frame = f ∧ r.role = .main ∧ r.alarm = false) →
        u.opr.role = .standby ∧ u.opr.negotiation = none ∧ JoinedEnd n .done f s u ∧
        (n.automatic = true → RoleFault u)) ∧
      ((∀ r, s.opr.inHand = some r → ¬ (r.frame = f ∧ r.role = .main)) → NoContender s →
        u.opr.role = .main ∧ u.opr.negotiation = none ∧ JoinedEnd n .swapFailed (s.fcy.count + 2) s u ∧
        (n.automatic = true → RoleFault u))) ∧
    (n.side = .standbySide → s.opr.role = .standby →
      (n.passed = 0 → reached (f - 2) (s.fcy.count + 1) = false → reached (f - 1) (s.fcy.count + 1) = false →
        (n.stage = .waiting ∨ n.stage = .offering) → u.opr.role = .standby ∧
        u.opr.negotiation =
          some { n with stage := if u.opr.inStep = true ∨ n.force = true then .offering else .waiting }) ∧
      (n.passed = 0 → f = s.fcy.count + 3 → (n.stage = .waiting ∨ n.stage = .offering) → u.opr.role = .standby ∧
        ((u.opr.inStep = true ∨ n.force = true) →
          u.opr.negotiation = some { n with stage := .offering, passed := 1 }) ∧
        (u.opr.inStep = false → n.force = false →
          u.opr.negotiation = none ∧ JoinedEnd n .notInStep (s.fcy.count + 2) s u)) ∧
      (n.passed = 1 → f = s.fcy.count + 2 → u.opr.role = .standby ∧
        u.opr.negotiation = some { n with
          stage := if n.stage = .offering ∧ (u.opr.inStep = true ∨ n.force = true) then .offering else .withdrawn
          passed := 2 }) ∧
      (n.passed = 2 → f = s.fcy.count + 1 →
        (n.stage = .releaseReceived → (u.opr.inStep = true ∨ n.force = true) → NoContender s →
          u.opr.role = .main ∧ u.opr.negotiation = none ∧ JoinedEnd n .done f s u ∧
          (n.automatic = true → RoleFault u) ∧
          ((∀ e ∈ s.tke.queue, e.state = .negotiating) → u.tke.ts = tsFor s.tke.flushMark n.entries.length)) ∧
        ((n.stage ≠ .releaseReceived ∨ u.opr.inStep = false ∧ n.force = false) →
          (∀ r, s.opr.inHand = some r → r.alarm = false) →
          u.opr.role = .standby ∧ u.opr.negotiation = none ∧ JoinedEnd n .swapFailed (s.fcy.count + 2) s u)))) ∧
  -- automatic negotiation
  (∀ palarm s t r, s.power = .running → s.fcy.timer = some t → s.opr.role = .standby → s.opr.autoTakeover = true →
    s.opr.partnerPresent = true → s.opr.negotiation = none → s.opr.inHand = some r → r.role = .main → r.alarm = true →
    ∃ u, exec (.internalPulse palarm) s = .next u ∧ u.opr.role = .standby ∧
      (u.opr.inStep = false → u.opr.negotiation = none) ∧
      (u.opr.inStep = true → ∃ n, u.opr.negotiation = some n ∧ n.lineFrame = u.fcy.count + 4 ∧ n.side = .standbySide ∧
        n.origin = .automatic ∧ n.force = false ∧ n.stage = .offering ∧ n.entries = [])) ∧
  -- forced takeover and self-release
  (∀ palarm s t, s.power = .running → s.fcy.timer = some t → TakeLaw s.tke → s.opr.inHand = none →
    s.opr.partnerPresent = false → 24 ≤ s.opr.lossCount →
    (∀ n, s.opr.negotiation = some n → n.passed = 0 ∧ reached (n.lineFrame - 2) (s.fcy.count + 1) = false) →
    ∃ u, exec (.internalPulse palarm) s = .next u ∧
      (s.opr.role = .standby → s.opr.autoTakeover = true → palarm = true → NoContender s →
        u.opr.role = .main ∧ u.opr.negotiation = none ∧ RoleFault u ∧
        ∀ n, s.opr.negotiation = some n → JoinedEnd n .swapFailed (s.fcy.count + 2) s u) ∧
      (s.opr.role = .main → alarm s = true → palarm = false →
        u.opr.role = .standby ∧ u.opr.negotiation = none ∧ RoleFault u ∧
        ∀ n, s.opr.negotiation = some n → JoinedEnd n .swapFailed (s.fcy.count + 2) s u)) ∧
  -- contention
  ∀ palarm s t own, s.power = .running → s.fcy.timer = some t → s.opr.role = .main → s.opr.sent = some own →
    s.opr.negotiation = none → ∃ u, exec (.internalPulse palarm) s = .next u ∧
      ((∃ m ∈ s.opr.mains, ¬ (m.swap = .release ∧ m.lineFrame = s.fcy.count + 1) ∧ Outranks m own s.opr.strap) →
        u.opr.role = .standby ∧ RoleFault u) ∧
      (s.opr.partnerPresent = true → (s.opr.inHand.isSome ∨ s.opr.missed < 2) →
        (∀ m ∈ s.opr.mains, m.swap = .release ∧ m.lineFrame = s.fcy.count + 1 ∨ ¬ Outranks m own s.opr.strap) →
        u.opr.role = .main)

/-! ### The partner link -/

/-- A received report: on time it is in hand and makes the partner PRESENT, late it takes part in the contention test alone;
nothing outside the pair unit changes (R163, R164, R171). The swap words of on-time reports: OFFER(F) is noted by a
requesting MAIN, and makes the automatic record of one in alarm that has none; REQUEST(F) makes a record on an IN STEP STANDBY
and gives an AUTOMATIC record its line frame; RELEASE(F) is received by an offering STANDBY; any other, and NONE, changes no
record (R168 to R170). Which frames then lie behind a record that takes a new line frame is the model's reading (log 18). -/
def Obligations.PartnerReportIsTakenInHandAndActedOn : Prop :=
  (∀ r s, s.power = .running → s.opr.role ≠ .sole →
    ∃ u, exec (.partnerReport r) s = .next u ∧ u = { s with opr := u.opr } ∧ u.opr.link = none ∧
      u.opr.mains = (if r.role = .main then s.opr.mains ++ [r] else s.opr.mains) ∧ u.opr.role = s.opr.role ∧
      u.opr.inStep = s.opr.inStep ∧
      (reached (r.frame + 1) s.fcy.count = true →
        u.opr = { s.opr with link := none, mains := u.opr.mains }) ∧
      (reached (r.frame + 1) s.fcy.count = false →
        u.opr.inHand = some r ∧ u.opr.partnerPresent = true ∧
        (s.opr.partnerPresent = false → u.opr.partnerSeen = true ∧ u.opr.missed = 0 ∧ u.opr.lossCount = 0) ∧
        (s.opr.partnerPresent = true →
          u.opr.partnerSeen = s.opr.partnerSeen ∧ u.opr.missed = s.opr.missed ∧ u.opr.lossCount = s.opr.lossCount))) ∧
  ∀ r s, s.power = .running → reached (r.frame + 1) s.fcy.count = false →
    (∀ n, s.opr.role = .main → r.swap = .offer → s.opr.negotiation = some n → n.stage = .requesting →
      n.lineFrame = r.lineFrame → reached (r.lineFrame - 1) r.frame = false →
      ∃ u, exec (.partnerReport r) s = .next u ∧ u.opr.negotiation = some { n with offerSeen := true }) ∧
    (s.opr.role = .standby → r.swap = .request → s.opr.negotiation = none → s.opr.inStep = true →
      reached (r.lineFrame - 1) s.fcy.count = false →
      ∃ u n, exec (.partnerReport r) s = .next u ∧ u.opr.negotiation = some n ∧ n.lineFrame = r.lineFrame ∧
        n.side = .standbySide ∧ n.origin = .request ∧ n.force = false ∧ n.stage = .waiting ∧ n.entries = []) ∧
    (∀ n, s.opr.role = .standby → r.swap = .release → s.opr.negotiation = some n → n.stage = .offering →
      n.lineFrame = r.lineFrame →
      ∃ u, exec (.partnerReport r) s = .next u ∧ u.opr.negotiation = some { n with stage := .releaseReceived }) ∧
    -- the main side of an automatic negotiation
    (s.opr.role = .main → r.swap = .offer → s.opr.negotiation = none → alarm s = true →
      reached (r.lineFrame - 1) r.frame = false →
      ∃ u n, exec (.partnerReport r) s = .next u ∧ u.opr.negotiation = some n ∧ n.lineFrame = r.lineFrame ∧
        n.side = .mainSide ∧ n.origin = .automatic ∧ n.force = false ∧ n.stage = .requesting ∧ n.offerSeen = true ∧
        n.entries = []) ∧
    -- a REQUEST(F′) received with a record
    (∀ n, s.opr.role = .standby → r.swap = .request → s.opr.negotiation = some n →
      ∃ u k, exec (.partnerReport r) s = .next u ∧ u.opr.negotiation =
        if n.origin = .automatic then
          some { n with lineFrame := r.lineFrame, origin := .request, passed := k }
        else some n) ∧
    -- what is ignored
    ((s.opr.role = .main ∧ r.swap = .offer ∧
        (reached (r.lineFrame - 1) r.frame = true ∨ s.opr.negotiation = none ∧ alarm s = false ∨
          ∃ n, s.opr.negotiation = some n ∧ (n.stage ≠ .requesting ∨ n.lineFrame ≠ r.lineFrame)) ∨
      s.opr.role = .standby ∧ r.swap = .request ∧ s.opr.negotiation = none ∧
        (s.opr.inStep = false ∨ reached (r.lineFrame - 1) s.fcy.count = true) ∨
      s.opr.role = .standby ∧ r.swap = .release ∧
        (s.opr.negotiation = none ∨
          ∃ n, s.opr.negotiation = some n ∧ (n.stage ≠ .offering ∨ n.lineFrame ≠ r.lineFrame))) →
      ∃ u, exec (.partnerReport r) s = .next u ∧ u.opr.negotiation = s.opr.negotiation) ∧
    (s.opr.role ≠ .sole → r.swap = .none →
      ∃ u, exec (.partnerReport r) s = .next u ∧ u.opr.negotiation = s.opr.negotiation)

/-- The partner link receiver: hunting it ignores everything but the lead 0x96; a bad character discards the report in
reception; a byte before the last is kept; the last byte of a report framed as R161 lays it out receives exactly that report;
and one that leaves the CRC or the role byte wrong discards it (R161, R163). -/
def Obligations.FramedReportIsReceivedWhole : Prop :=
  ∀ s, s.power = .running → s.opr.role ≠ .sole →
    (s.opr.link = none →
      exec (.partnerLinkCharacter .bad) s = .next s ∧
      ∀ b, exec (.partnerLinkCharacter (.good b)) s = .next
        (if b = 0x96#8 then { s with opr := { s.opr with link := some { bytes := [], pulses := 0 } } } else s)) ∧
    ∀ l, s.opr.link = some l →
      exec (.partnerLinkCharacter .bad) s = .next { s with opr := { s.opr with link := none } } ∧
      (∀ b, l.bytes.length < 21 →
        exec (.partnerLinkCharacter (.good b)) s = .next
          { s with opr := { s.opr with link := some { l with bytes := l.bytes ++ [b] } } }) ∧
      (∀ b r, 0x96#8 :: (l.bytes ++ [b]) = reportBytes r →
        exec (.partnerLinkCharacter (.good b)) s = exec (.partnerReport r) s) ∧
      ∀ b, l.bytes.length = 21 →
        (crc16 (l.bytes.take 20) ≠ b ++ l.bytes.getD 20 0#8 ∨ (l.bytes.getD 4 0#8).toNat = 0 ∨
          3 < (l.bytes.getD 4 0#8).toNat) →
        exec (.partnerLinkCharacter (.good b)) s = .next { s with opr := { s.opr with link := none } }

/-! ### The ingest link -/

/-- The ingest receiver character by character: leads, bad characters, and bytes that do not close a unit (R140, R142,
R144); a unit that closes enters a queue that has room and is lost to a full one (R146, R147). That a unit closed FRAMING
keeps the length it had taken is the model's reading (log 28). -/
def Obligations.IngestReceiverTakesCharacters : Prop :=
  ∀ s, s.power = .running →
    (s.ing.reception = none →
      exec (.ingestCharacter .bad) s = .next s ∧
      ∀ b, exec (.ingestCharacter (.good b)) s = .next
        (if b = 0xC3#8 then { s with ing := { s.ing with reception := some [], gap := 0 } } else s)) ∧
    ∀ bytes, s.ing.reception = some bytes →
      (∀ b, (bytes = [] ∨ (∃ t, bytes = [t] ∧ b.toNat ≤ 200) ∨
          (∃ t l rest, bytes = t :: l :: rest ∧ l.toNat ≤ 200 ∧ rest.length < l.toNat + 1)) →
        exec (.ingestCharacter (.good b)) s = .next
          { s with ing := { s.ing with reception := some (bytes ++ [b]), gap := 0 } }) ∧
      (∀ b t, bytes = [t] → 200 < b.toNat → s.ing.queue.length < 64 →
        ∃ u, exec (.ingestCharacter (.good b)) s = .next u ∧ u.ing.reception = none ∧ u.ing.gap = 0 ∧
          u.ing.queue = s.ing.queue ++
            [{ mark := .length, type_ := some t, length_ := none, payload := [], overrun := s.ing.overrun }]) ∧
      (s.ing.queue.length < 64 →
        ∃ u, exec (.ingestCharacter .bad) s = .next u ∧ u.ing.reception = none ∧ u.ing.gap = 0 ∧
          u.ing.overrun = none ∧
          u.ing.queue = s.ing.queue ++
            [{ mark := .framing, type_ := bytes[0]?, length_ := (bytes[1]?).map BitVec.toNat, payload := [],
               overrun := s.ing.overrun }]) ∧
      (s.ing.queue.length = 64 →
        ∃ u, exec (.ingestCharacter .bad) s = .next u ∧ u.ing.reception = none ∧ u.ing.queue = s.ing.queue ∧
          u.ing.overrun = some (match s.ing.overrun with | none => 1 | some n => min 255 (n + 1)) ∧
          u.cnu.counters.overruns = min 65535 (s.cnu.counters.overruns + 1))

/-- A unit framed as R141 lays it out closes good at its last byte, with its type, length and payload; with another CRC
it closes CHECK without its payload (R141, R143, R146). -/
def Obligations.FramedUnitClosesGood : Prop :=
  ∀ s (t : Byte) (payload : List Byte) (hi lo : Byte), s.power = .running → payload.length ≤ 200 →
    s.ing.queue.length < 64 →
    s.ing.reception = some (t :: BitVec.ofNat 8 payload.length :: payload ++ [hi]) →
    ∃ u, exec (.ingestCharacter (.good lo)) s = .next u ∧ u.ing.reception = none ∧ u.ing.gap = 0 ∧
      u.ing.overrun = none ∧ u = { s with ing := u.ing } ∧
      u.ing.queue = s.ing.queue ++
        [if crc16 (t :: BitVec.ofNat 8 payload.length :: payload) = hi ++ lo then
           { mark := .none, type_ := some t, length_ := some payload.length, payload := payload,
             overrun := s.ing.overrun }
         else
           { mark := .check, type_ := some t, length_ := some payload.length, payload := [],
             overrun := s.ing.overrun }]

/-- A loader move: nothing moves from an empty queue or beyond the grant; the head leaves the queue for its cost and flow
control is evaluated (R148, R151); a marked head is discarded and counted in INGEST ERRORS (R152); a good head of an unknown
type or a wrong length is a loader error (R153, R154), and otherwise the store acts on it: RUN START opens NEXT and abandons
one that was there (R20, R27), WIND ROW stores its row in NEXT's frame of its offset (R21, R22), FRAME END and RUN END close a
frame and the run (R23, R24), and TIDE STATION stores its record (R35 to R37). That the test of the grant looks at the head
alone, also after a head beyond the grant has been removed in the period, is the model's choice (log 43). -/
def Obligations.LoaderMovesTheHeadForItsCost : Prop :=
  ∀ s, s.power = .running →
    (s.ing.queue = [] → exec .loaderMove s = .next s) ∧
    ∀ head rest, s.ing.queue = head :: rest →
      (∀ cost, cost = (if head.mark ≠ .none then 5 else if head.type_ = some 0x02#8 then 200 else 20) →
        s.ing.grant < cost → exec .loaderMove s = .next s) ∧
      (∀ m, m = headTaken rest 5 s → head.mark ≠ .none → 5 ≤ s.ing.grant →
        exec .loaderMove s = .next { m with cnu := counted .ingestErrors s.cnu }) ∧
      ∀ cost type_ pay m, head.mark = .none → head.type_ = some type_ → head.payload = pay →
        cost = (if type_ = 0x02#8 then 200 else 20) → cost ≤ s.ing.grant → m = headTaken rest cost s →
        ((type_.toNat = 0 ∨ 5 < type_.toNat) →
          exec .loaderMove s = .next (loaderFailed .type_ type_ 0#16 0 m)) ∧
        ((type_ = 0x01#8 ∧ pay.length ≠ 7 ∨ type_ = 0x02#8 ∧ pay.length ≠ 197 ∨ type_ = 0x03#8 ∧ pay.length ≠ 4 ∨
            type_ = 0x04#8 ∧ pay.length ≠ 3 ∨
            type_ = 0x05#8 ∧ (pay.length < 8 ∨ pay.length ≠ 8 + 8 * (pay.getD 7 0#8).toNat)) →
          exec .loaderMove s = .next (loaderFailed .size type_ 0#16 0 m)) ∧
        -- RUN START
        (∀ i0 i1 b0 b1 b2 b3 n, type_ = 0x01#8 → pay = [i0, i1, b0, b1, b2, b3, n] → ∀ id : Word16, id = i1 ++ i0 →
          (id = 0#16 → exec .loaderMove s = .next (loaderFailed .range type_ id 0 m)) ∧
          (id ≠ 0#16 → (∃ run, s.fsw.current = some run ∧ run.id = id) →
            exec .loaderMove s = .next (loaderFailed .closed type_ id 0 m)) ∧
          (id ≠ 0#16 → (∀ run, s.fsw.current = some run → run.id ≠ id) →
            ((∃ next, s.fsw.next = some next ∧ next.state = .opened ∧ next.run.id = id) → exec .loaderMove s = .next m) ∧
            ((∀ next, s.fsw.next = some next → next.state = .opened → next.run.id ≠ id) →
              exec .loaderMove s = .next { m with fsw := {
                current := s.fsw.current
                next := some
                  { state := .opened
                    run := { id := id, base := (b3 ++ b2) ++ (b1 ++ b0),
                             expected := if n.toNat < 1 then 1 else if 48 < n.toNat then 48 else n.toNat }
                    sent := 0, short := false }
                abandonment := if s.fsw.next.isSome then s.fsw.abandonment + 1 else s.fsw.abandonment
                slots := if s.fsw.next.isSome then onNextFrames (fun _ => none) s.fsw.slots else s.fsw.slots } }))) ∧
        -- WIND ROW, FRAME END and RUN END against CURRENT and NEXT
        (∀ i0 i1 tail, pay = i0 :: i1 :: tail → ∀ id : Word16, id = i1 ++ i0 →
          (type_ = 0x02#8 ∧ pay.length = 197 ∨ type_ = 0x03#8 ∧ pay.length = 4 ∨ type_ = 0x04#8 ∧ pay.length = 3) →
          ((∃ run, s.fsw.current = some run ∧ run.id = id) →
            exec .loaderMove s = .next (loaderFailed .closed type_ id 0 m)) ∧
          ((∀ run, s.fsw.current = some run → run.id ≠ id) →
            (∀ next, s.fsw.next = some next → ¬ (next.state = .opened ∧ next.run.id = id)) →
            exec .loaderMove s = .next (loaderFailed .order type_ id 0 m))) ∧
        -- WIND ROW
        (∀ i0 i1 o0 o1 row (pairs : List (Word16 × Word16)) next, type_ = 0x02#8 → pairs.length = 48 →
          pay = [i0, i1, o0, o1, row] ++ (pairs.map fun q => bytes16 q.1 ++ bytes16 q.2).flatten →
          s.fsw.next = some next → next.state = .opened → next.run.id = i1 ++ i0 →
          (∀ run, s.fsw.current = some run → run.id ≠ i1 ++ i0) → ∀ offset, offset = (o1 ++ o0 : Word16).toNat →
          ((4320 < offset ∨ 31 < row.toNat) →
            exec .loaderMove s = .next (loaderFailed .range type_ (i1 ++ i0) 0 m)) ∧
          ∀ store : WindFrame → WindFrame, (∀ f, store f = { f with
              state := .filling
              mask := f.mask ||| (1#32 <<< row.toNat)
              clamped := f.clamped || pairs.any fun q =>
                q.1.toInt < -1000 || 1000 < q.1.toInt || q.2.toInt < -1000 || 1000 < q.2.toInt
              grid := f.grid.set row.toNat (pairs.map fun q =>
                { u := max (-1000) (min 1000 q.1.toInt), v := max (-1000) (min 1000 q.2.toInt) }) }) →
            offset ≤ 4320 → row.toNat ≤ 31 →
            ((∃ f ∈ heldFrames s.fsw, f.owner = .next ∧ f.offset = offset) →
              exec .loaderMove s = .next { m with fsw := { s.fsw with
                slots := onNextFrames (fun f => some (if f.offset = offset then store f else f)) s.fsw.slots } }) ∧
            ((∀ f ∈ heldFrames s.fsw, ¬ (f.owner = .next ∧ f.offset = offset)) →
              (∀ before later, s.fsw.slots = before ++ none :: later → (∀ x ∈ before, x ≠ none) →
                exec .loaderMove s = .next { m with fsw := { s.fsw with
                  slots := before ++ some (store
                    { owner := .next, offset := offset, state := .filling, mask := 0#32, clamped := false,
                      grid := List.replicate 32 (List.replicate 48 { u := 0, v := 0 }) }) :: later } }) ∧
              ((∀ x ∈ s.fsw.slots, x ≠ none) →
                exec .loaderMove s = .next (loaderFailed .full type_ (i1 ++ i0) 0
                  { m with fsw := { s.fsw with next := some { next with short := true } } })))) ∧
        -- FRAME END
        (∀ i0 i1 o0 o1 next, type_ = 0x03#8 → pay = [i0, i1, o0, o1] → s.fsw.next = some next → next.state = .opened →
          next.run.id = i1 ++ i0 → (∀ run, s.fsw.current = some run → run.id ≠ i1 ++ i0) →
          ∀ offset, offset = (o1 ++ o0 : Word16).toNat →
          (4320 < offset → exec .loaderMove s = .next (loaderFailed .range type_ (i1 ++ i0) 0 m)) ∧
          (offset ≤ 4320 →
            ((∀ f ∈ heldFrames s.fsw, ¬ (f.owner = .next ∧ f.offset = offset)) →
              exec .loaderMove s = .next (loaderFailed .order type_ (i1 ++ i0) 0 m)) ∧
            ((∃ f ∈ heldFrames s.fsw, f.owner = .next ∧ f.offset = offset) →
              exec .loaderMove s = .next { m with fsw := { s.fsw with
                slots := onNextFrames (fun f => some (if f.offset = offset then
                  { f with state := if f.mask = 0xFFFFFFFF#32 then .complete else .incomplete } else f))
                  s.fsw.slots } }))) ∧
        -- RUN END
        (∀ i0 i1 n next, type_ = 0x04#8 → pay = [i0, i1, n] → s.fsw.next = some next → next.state = .opened →
          next.run.id = i1 ++ i0 → (∀ run, s.fsw.current = some run → run.id ≠ i1 ++ i0) →
          ∀ frames, frames = (heldFrames s.fsw).filter (fun f => f.owner = .next) →
          exec .loaderMove s = .next { m with
            fsw := { s.fsw with next := some { next with
              sent := n.toNat
              state := if next.short = false ∧ (∀ f ∈ frames, f.state = .complete) ∧ frames.length = next.run.expected ∧
                frames.length = n.toNat then .ready else .ended } }
            cnu := { s.cnu with raised :=
              { a := { s.cnu.raised.a with run := true }, b := { s.cnu.raised.b with run := true } } } }) ∧
        -- TIDE STATION
        ∀ c st : Station, type_ = 0x05#8 → pay = c.bytes → c.number ≤ 255 → -32768 ≤ c.z0 → c.z0 ≤ 32767 →
          -32768 ≤ c.hmin → c.hmin ≤ 32767 → -32768 ≤ c.hmax → c.hmax ≤ 32767 → c.constituents.length ≤ 255 →
          (∀ x ∈ c.constituents, x.amp ≤ 65535) → st.number = c.number → st.z0 = max (-2000) (min 8000 c.z0) →
          st.hmin = max (-3000) (min 12000 c.hmin) → st.hmax = max (-3000) (min 12000 c.hmax) →
          st.constituents = c.constituents.map (fun x => { x with amp := min 8000 x.amp }) → st.source = .loader →
          (st.clamped = true ↔ ¬ (st.z0 = c.z0 ∧ st.hmin = c.hmin ∧ st.hmax = c.hmax ∧
            st.constituents = c.constituents)) → StationLaw s.fst →
          ((c.number = 0 ∨ c.constituents = [] ∨ 16 < c.constituents.length ∨ st.hmax ≤ st.hmin) →
            exec .loaderMove s = .next (loaderFailed .range type_ 0#16 c.number m)) ∧
          ∀ others, RecordLaw st → others = s.fst.stations.filter (fun x => x.number ≠ st.number) →
            (others.length = 32 → exec .loaderMove s = .next (loaderFailed .full type_ 0#16 c.number m)) ∧
            (others.length < 32 → ∃ f : Fst, f.segments = s.fst.segments ∧ f.stations.Perm (st :: others) ∧
              (f.stations.map Station.number).Pairwise (· < ·) ∧ exec .loaderMove s = .next { m with fst := f })

/-- The symbol output ends a character and sends the waiting symbol (R149); that its end on an idle output changes nothing is
the model's choice (log 4). -/
def Obligations.SymbolOutputSendsTheWaitingSymbol : Prop :=
  ∀ s, s.power = .running →
    (∀ y, s.ing.sending = some y →
      exec .symbolOutputDone s = .next { s with
        ing := { s.ing with sending := s.ing.waitingSymbol, waitingSymbol := none } }) ∧
    (s.ing.sending = none → exec .symbolOutputDone s = .next s) ∧
    ∀ y i, makeSymbol y i =
      match i.sending with
      | none => { i with sending := some y }
      | some _ => { i with waitingSymbol := some y }

/-! ### The control ports -/

/-- A good character on a control port in HUNTING, and in RECEIVING while the frame grows; a frame that ends early or with a bad
sum is answered FRAME ERROR and changes nothing else (R176, R177). -/
def Obligations.PortReceiverAssemblesFramesOrAnswersFrameError : Prop :=
  (∀ p palarm s, s.power = .running →
    (s.cnu.receiver.get p = none →
      ∀ b, exec (.portCharacter p b palarm) s = .next
        (if b = 0x5A#8 then { s with cnu := { s.cnu with receiver := s.cnu.receiver.set p (some []) } } else s)) ∧
    ∀ bytes, s.cnu.receiver.get p = some bytes →
      ∀ b, ((bytes = [] ∧ 1 ≤ b.toNat ∧ b.toNat ≤ 250) ∨
          (∃ len rest, bytes = len :: rest ∧ 1 ≤ len.toNat ∧ rest.length + 1 < len.toNat + 1)) →
        exec (.portCharacter p b palarm) s = .next
          { s with cnu := { s.cnu with receiver := s.cnu.receiver.set p (some (bytes ++ [b])) } }) ∧
  ∀ p s bytes, s.power = .running → s.cnu.receiver.get p = some bytes → s.cnu.reply.get p = none →
    exec (.portReceiveTimeout p) s = .next (answered p (bytes.getD 1 0) .frameError [] s) ∧
    exec (.requestFrameError p .bad) s = .next (answered p (bytes.getD 1 0) .frameError [] s) ∧
    (∀ b, bytes = [] → (b.toNat = 0 ∨ 250 < b.toNat) →
      exec (.requestFrameError p (.good b)) s = .next (answered p 0#8 .frameError [] s) ∧
      ∀ palarm, exec (.portCharacter p b palarm) s = .next (answered p 0#8 .frameError [] s)) ∧
    ∀ b len code rest, bytes = len :: code :: rest → rest.length + 1 = len.toNat → sumBytes (bytes ++ [b]) ≠ 0#8 →
      exec (.requestFrameError p (.good b)) s = .next (answered p code .frameError [] s) ∧
      ∀ palarm, exec (.portCharacter p b palarm) s = .next (answered p code .frameError [] s)

/-- A request framed as R176 lays it out executes at its check byte: taking that byte is carrying out the request, for
every command code, parameter list and port (R176, R177, R178). That a request's row is the acceptance of its check byte is
the model's reading (logs 12 and 13). -/
def Obligations.FramedRequestExecutes : Prop :=
  ∀ p (code : Byte) (params : List Byte) (check : Byte) palarm s, s.power = .running → params.length ≤ 249 →
    sumBytes (BitVec.ofNat 8 (params.length + 1) :: code :: params ++ [check]) = 0#8 →
    s.cnu.receiver.get p = some (BitVec.ofNat 8 (params.length + 1) :: code :: params) →
    (∀ entry ∈ ([
      (0x10#8, .requestHold p params),
      (0x11#8, .releaseHold p params),
      (0x12#8, .setView p params),
      (0x13#8, .setCursor p params),
      (0x14#8, .setLayers p params),
      (0x15#8, .setGauge p params),
      (0x16#8, .clearGauge p params),
      (0x17#8, .setAreas p params),
      (0x18#8, .copyAirToDraft p params),
      (0x19#8, .readPlan p params),
      (0x1A#8, .setAirLock p params),
      (0x1B#8, .clearAirLock p params),
      (0x20#8, .readRunStatus p params),
      (0x21#8, .readFrameTable p params),
      (0x28#8, .loadSegment p params),
      (0x29#8, .deleteSegment p params),
      (0x2A#8, .readSegments p params),
      (0x2C#8, .loadStation p params),
      (0x2D#8, .deleteStation p params),
      (0x2E#8, .readStation p params),
      (0x30#8, .submitTake p params),
      (0x31#8, .flushTakes p params),
      (0x32#8, .readCompletions p params),
      (0x33#8, .readTakeLog p params),
      (0x38#8, .readFrameRecord p params),
      (0x3C#8, .readTiming p params),
      (0x40#8, .readIngestStatus p params),
      (0x41#8, .setIngestLevels p params),
      (0x42#8, .ingestReset p params),
      (0x48#8, .readOutputStatus p params palarm),
      (0x49#8, .setAutoTakeover p params),
      (0x50#8, .readNotice p params),
      (0x51#8, .setNoticeMask p params),
      (0x52#8, .readFaultStatus p params),
      (0x53#8, .readHealth p params),
      (0x54#8, .setThreshold p params),
      (0x55#8, .clearHealth p params),
      (0x56#8, .setAlarmEnable p params),
      (0x5F#8, .restart p params)] : List (Byte × Instr)),
      code = entry.1 → exec (.portCharacter p check palarm) s = exec entry.2 s) ∧
    (Config.commandCodes.contains code = false →
      exec (.portCharacter p check palarm) s = exec (.unknown p code) s)

/-- An unknown code is answered UNKNOWN with no data; while a reply is in progress a frame that completes is not executed,
with any of the 39 codes or an unknown one: BUSY waits, or with a reply waiting already the frame is discarded; a frame that
ends in FRAME ERROR then makes its reply wait or is discarded likewise; and the end of a reply sends the waiting one (R177 to
R179). READ OUTPUT STATUS presents the PARTNER-ALARM level with its frame all the same (log 6). -/
def Obligations.BusyPortsHoldOneReply : Prop :=
  ∀ p s, s.power = .running →
    (∀ code, Config.commandCodes.contains code = false → s.cnu.reply.get p = none →
      exec (.unknown p code) s = .next (answered p code .unknown [] s)) ∧
    ∀ r, s.cnu.reply.get p = some r →
      (∀ code, s.cnu.waiting.get p = none →
        exec (.busy p code) s = .next { s with cnu := { s.cnu with
          receiver := s.cnu.receiver.set p none
          waiting := s.cnu.waiting.set p (some { code := code, status := .busy, data := [] }) } }) ∧
      (∀ code w, s.cnu.waiting.get p = some w →
        exec (.busy p code) s = .next { s with cnu := { s.cnu with receiver := s.cnu.receiver.set p none } }) ∧
      (∀ params, ∀ entry ∈ ([
      (0x10#8, .requestHold p params), (0x11#8, .releaseHold p params), (0x12#8, .setView p params),
      (0x13#8, .setCursor p params), (0x14#8, .setLayers p params), (0x15#8, .setGauge p params),
      (0x16#8, .clearGauge p params), (0x17#8, .setAreas p params), (0x18#8, .copyAirToDraft p params),
      (0x19#8, .readPlan p params), (0x1A#8, .setAirLock p params), (0x1B#8, .clearAirLock p params),
      (0x20#8, .readRunStatus p params), (0x21#8, .readFrameTable p params), (0x28#8, .loadSegment p params),
      (0x29#8, .deleteSegment p params), (0x2A#8, .readSegments p params), (0x2C#8, .loadStation p params),
      (0x2D#8, .deleteStation p params), (0x2E#8, .readStation p params), (0x30#8, .submitTake p params),
      (0x31#8, .flushTakes p params), (0x32#8, .readCompletions p params), (0x33#8, .readTakeLog p params),
      (0x38#8, .readFrameRecord p params), (0x3C#8, .readTiming p params),
      (0x40#8, .readIngestStatus p params), (0x41#8, .setIngestLevels p params),
      (0x42#8, .ingestReset p params), (0x49#8, .setAutoTakeover p params), (0x50#8, .readNotice p params),
      (0x51#8, .setNoticeMask p params), (0x52#8, .readFaultStatus p params), (0x53#8, .readHealth p params),
      (0x54#8, .setThreshold p params), (0x55#8, .clearHealth p params), (0x56#8, .setAlarmEnable p params),
      (0x5F#8, .restart p params)] : List (Byte × Instr)),
        exec entry.2 s = exec (.busy p entry.1) s) ∧
      (∀ params palarm, exec (.readOutputStatus p params palarm) s = exec (.busy p 0x48#8) { s with palarm := palarm }) ∧
      (p = .a → ∀ ignored, exec (.reclaim ignored) s = exec (.busy p 0x10#8) s) ∧
      (∀ code, Config.commandCodes.contains code = false → exec (.unknown p code) s = exec (.busy p code) s) ∧
      (∀ bytes u, s.cnu.receiver.get p = some bytes →
        u = { s with cnu := { s.cnu with
          receiver := s.cnu.receiver.set p none
          waiting := match s.cnu.waiting.get p with
            | none => s.cnu.waiting.set p (some { code := bytes.getD 1 0#8, status := .frameError, data := [] })
            | some _ => s.cnu.waiting } } →
        exec (.portReceiveTimeout p) s = .next u ∧ exec (.requestFrameError p .bad) s = .next u ∧
        ∀ b, ((bytes = [] ∧ (b.toNat = 0 ∨ 250 < b.toNat)) ∨
            ∃ len code rest, bytes = len :: code :: rest ∧ rest.length + 1 = len.toNat ∧ sumBytes (bytes ++ [b]) ≠ 0#8) →
          exec (.requestFrameError p (.good b)) s = .next u ∧
          ∀ palarm, exec (.portCharacter p b palarm) s = .next u) ∧
      exec (.replySent p) s = .next { s with cnu := { s.cnu with
        reply := s.cnu.reply.set p (s.cnu.waiting.get p), waiting := s.cnu.waiting.set p none } }

/-! ### The edit hold and the air lock -/

/-- REQUEST HOLD and RECLAIM (R65, R66, R68): a FREE hold is granted, the holder keeps it, a request behind the other port
is PENDING, and a reclaim from port A takes the hold from port B, whose event becomes LOST with the HOLD notice. That a
RANGE reply carries no data is the model's choice (log 34). -/
def Obligations.RequestHoldGrantsQueuesOrReclaims : Prop :=
  ∀ p s, Ready p s →
    (∀ params, params.length ≠ 1 → exec (.requestHold p params) s = .next (answered p 0x10#8 .range [] s)) ∧
    (∀ flags, s.pln.hold = none →
      exec (.requestHold p [flags]) s =
        .next (answered p 0x10#8 .done [portCode (some p)] { s with pln := { s.pln with hold := some p } })) ∧
    (∀ flags, s.pln.hold = some p →
      exec (.requestHold p [flags]) s = .next (answered p 0x10#8 .done [portCode (some p)] s)) ∧
    (∀ flags, s.pln.hold = some p.other → ¬ (p = .a ∧ flags.getLsbD 0 = true) →
      exec (.requestHold p [flags]) s = .next (answered p 0x10#8 .pending [portCode (some p.other)]
        { s with pln := { s.pln with waiting := s.pln.waiting.set p true } })) ∧
    (p = .a → s.pln.hold = some .b → ∀ ignored flags, flags = (ignored ++ 1#1 : Byte) →
      exec (.reclaim ignored) s = exec (.requestHold .a [flags]) s ∧
      exec (.reclaim ignored) s = .next (answered .a 0x10#8 .done [1#8] { s with
        pln := { s.pln with
          hold := some .a
          waiting := s.pln.waiting.set .a false
          event := s.pln.event.set .b .lost }
        cnu := { s.cnu with raised := s.cnu.raised.set .b { s.cnu.raised.b with hold := true } } })) ∧
    (p = .a → s.pln.hold ≠ some .b → ∀ ignored,
      exec (.reclaim ignored) s =
        .next (answered .a 0x10#8 .done [1#8] { s with pln := { s.pln with hold := some .a } }))

/-- RELEASE HOLD (R67, R68): the holder passes the hold to a pending port with GRANTED and the HOLD notice or makes it
FREE, a pending port withdraws, and any other port is refused. That a RANGE reply carries no data is the model's choice
(log 34). -/
def Obligations.ReleaseHoldPassesFreesOrWithdraws : Prop :=
  ∀ p s, Ready p s →
    (∀ params, params ≠ [] → exec (.releaseHold p params) s = .next (answered p 0x11#8 .range [] s)) ∧
    (s.pln.hold = some p → s.pln.waiting.get p.other = true →
      exec (.releaseHold p []) s = .next (answered p 0x11#8 .done [portCode (some p.other)] { s with
        pln := { s.pln with
          hold := some p.other
          waiting := s.pln.waiting.set p.other false
          event := s.pln.event.set p.other .granted }
        cnu := { s.cnu with
          raised := s.cnu.raised.set p.other { s.cnu.raised.get p.other with hold := true } } })) ∧
    (s.pln.hold = some p → s.pln.waiting.get p.other = false →
      exec (.releaseHold p []) s =
        .next (answered p 0x11#8 .done [0#8] { s with pln := { s.pln with hold := none } })) ∧
    (s.pln.hold ≠ some p → s.pln.waiting.get p = true →
      exec (.releaseHold p []) s = .next (answered p 0x11#8 .done [portCode s.pln.hold]
        { s with pln := { s.pln with waiting := s.pln.waiting.set p false } })) ∧
    (s.pln.hold ≠ some p → s.pln.waiting.get p = false →
      exec (.releaseHold p []) s = .next (answered p 0x11#8 .notHolder [portCode s.pln.hold] s))

/-- SET AIR LOCK and CLEAR AIR LOCK (R69, R70): the lock is set for the first port, only that port clears it. That a RANGE
reply carries no data is the model's choice (log 34). -/
def Obligations.AirLockBelongsToItsSetter : Prop :=
  ∀ p s, Ready p s →
    (∀ params, params ≠ [] →
      exec (.setAirLock p params) s = .next (answered p 0x1A#8 .range [] s) ∧
      exec (.clearAirLock p params) s = .next (answered p 0x1B#8 .range [] s)) ∧
    (s.pln.lock = none →
      exec (.setAirLock p []) s =
        .next (answered p 0x1A#8 .done [portCode (some p)] { s with pln := { s.pln with lock := some p } }) ∧
      exec (.clearAirLock p []) s = .next (answered p 0x1B#8 .done [0#8] s)) ∧
    (s.pln.lock = some p →
      exec (.setAirLock p []) s = .next (answered p 0x1A#8 .done [portCode (some p)] s) ∧
      exec (.clearAirLock p []) s =
        .next (answered p 0x1B#8 .done [0#8] { s with pln := { s.pln with lock := none } })) ∧
    (s.pln.lock = some p.other →
      exec (.setAirLock p []) s = .next (answered p 0x1A#8 .locked [portCode (some p.other)] s) ∧
      exec (.clearAirLock p []) s = .next (answered p 0x1B#8 .locked [portCode (some p.other)] s))

/-! ### Draft edits -/

/-- SET VIEW (R52, R56, R57): a holder's view is stored with the view clamps and read back in the reply; the rest of the
draft, and everything else, stands. -/
def Obligations.SetViewStoresTheClampedView : Prop :=
  ∀ p params s, Ready p s →
    (s.pln.hold ≠ some p → exec (.setView p params) s = .next (answered p 0x12#8 .notHolder [] s)) ∧
    (s.pln.hold = some p → params.length ≠ 6 → exec (.setView p params) s = .next (answered p 0x12#8 .range [] s)) ∧
    ∀ x0 x1 y0 y1 w0 w1, s.pln.hold = some p → params = [x0, x1, y0, y1, w0, w1] →
      ∀ x y w h : Nat, w = max 1024 (w1 ++ w0).toNat → h = w * 9 / 16 → x = min (65536 - w) (x1 ++ x0).toNat →
        y = min (65536 - h) (y1 ++ y0).toNat →
        exec (.setView p params) s = .next (answered p 0x12#8 .done (nat16 x ++ nat16 y ++ nat16 w ++ nat16 h)
          { s with pln := { s.pln with draft := { s.pln.draft with x0 := x, y0 := y, w := w } } })

/-- SET CURSOR, SET LAYERS, SET GAUGE and CLEAR GAUGE (R56, R58, R59, R60): the cursor is stored as carried; the layer set takes
bits 0..3, and the stride base is clamped into 1..4; one gauge slot is written or emptied and the other eleven stand. -/
def Obligations.CursorLayersAndGaugesAreEdited : Prop :=
  (∀ p params s, Ready p s →
    (s.pln.hold ≠ some p →
      exec (.setCursor p params) s = .next (answered p 0x13#8 .notHolder [] s) ∧
      exec (.setLayers p params) s = .next (answered p 0x14#8 .notHolder [] s)) ∧
    (s.pln.hold = some p → params.length ≠ 4 →
      exec (.setCursor p params) s = .next (answered p 0x13#8 .range [] s)) ∧
    (s.pln.hold = some p → params.length ≠ 2 →
      exec (.setLayers p params) s = .next (answered p 0x14#8 .range [] s)) ∧
    (∀ c0 c1 c2 c3, s.pln.hold = some p → params = [c0, c1, c2, c3] →
      exec (.setCursor p params) s = .next (answered p 0x13#8 .done []
        { s with pln := { s.pln with draft := { s.pln.draft with cursor := (c3 ++ c2) ++ (c1 ++ c0) } } })) ∧
    ∀ layers stride, s.pln.hold = some p → params = [layers, stride] →
      exec (.setLayers p params) s = .next (answered p 0x14#8 .done
        [layers &&& 0x0F#8, BitVec.ofNat 8 (min 4 (max 1 stride.toNat))]
        { s with pln := { s.pln with draft := { s.pln.draft with
          layers := { coast := layers.getLsbD 0, wind := layers.getLsbD 1, tide := layers.getLsbD 2,
                      areas := layers.getLsbD 3 }
          stride := min 4 (max 1 stride.toNat) } } })) ∧
  ∀ p params s, Ready p s →
    (s.pln.hold ≠ some p →
      exec (.setGauge p params) s = .next (answered p 0x15#8 .notHolder [] s) ∧
      exec (.clearGauge p params) s = .next (answered p 0x16#8 .notHolder [] s)) ∧
    (s.pln.hold = some p →
      (params.length ≠ 3 → exec (.setGauge p params) s = .next (answered p 0x15#8 .range [] s)) ∧
      (params.length ≠ 1 → exec (.clearGauge p params) s = .next (answered p 0x16#8 .range [] s)) ∧
      ∀ slot station flags,
        (params = [slot, station, flags] →
          exec (.setGauge p params) s = .next
            (if 11 < slot.toNat ∨ station = 0#8 then answered p 0x15#8 .range [] s
             else answered p 0x15#8 .done [] { s with pln := { s.pln with draft := { s.pln.draft with
               gauges := s.pln.draft.gauges.set slot.toNat
                 (some { station := station.toNat, curve := flags.getLsbD 0 }) } } })) ∧
        (params = [slot] →
          exec (.clearGauge p params) s = .next
            (if 11 < slot.toNat then answered p 0x16#8 .range [] s
             else answered p 0x16#8 .done [] { s with pln := { s.pln with draft := { s.pln.draft with
               gauges := s.pln.draft.gauges.set slot.toNat none } } })))

/-- SET AREAS and COPY AIR TO DRAFT (R56, R61, R62): the first eight ids, without repeats and in their order, replace the
area list; the copy replaces the draft whole. -/
def Obligations.SetAreasAndCopyReplaceTheDraft : Prop :=
  ∀ p params s, Ready p s →
    (s.pln.hold ≠ some p →
      exec (.setAreas p params) s = .next (answered p 0x17#8 .notHolder [] s) ∧
      exec (.copyAirToDraft p params) s = .next (answered p 0x18#8 .notHolder [] s)) ∧
    (s.pln.hold = some p →
      (params ≠ [] → exec (.copyAirToDraft p params) s = .next (answered p 0x18#8 .range [] s)) ∧
      (params = [] →
        exec (.copyAirToDraft p params) s = .next (answered p 0x18#8 .done (bytes16 s.pln.air.seq)
          { s with pln := { s.pln with draft := s.pln.air } }) ∧
        exec (.setAreas p params) s = .next (answered p 0x17#8 .range [] s)) ∧
      (∀ count rest, params = count :: rest → (rest.length ≠ 2 * count.toNat ∨ 124 < count.toNat) →
        exec (.setAreas p params) s = .next (answered p 0x17#8 .range [] s)) ∧
      ∀ (ids : List Word16) count, ids.length ≤ 124 → count = BitVec.ofNat 8 ids.length →
        params = count :: (ids.map bytes16).flatten →
        ((∃ id ∈ ids.take 8, id.toNat = 0 ∨ 4095 < id.toNat) →
          exec (.setAreas p params) s = .next (answered p 0x17#8 .range [] s)) ∧
        ((∀ id ∈ ids.take 8, 1 ≤ id.toNat ∧ id.toNat ≤ 4095) →
          ∃ areas : List Nat, areas = ((ids.take 8).map BitVec.toNat).eraseDups ∧
            exec (.setAreas p params) s = .next (answered p 0x17#8 .done [BitVec.ofNat 8 areas.length]
              { s with pln := { s.pln with draft := { s.pln.draft with areas := areas } } })))

/-- READ PLAN (R63): 60 bytes of the chosen plan with the hold and the lock, and nothing changes. -/
def Obligations.ReadPlanShowsAPlanAndTheHold : Prop :=
  ∀ p params s, Ready p s → PlansLaw s.pln →
    (params.length ≠ 1 → exec (.readPlan p params) s = .next (answered p 0x19#8 .range [] s)) ∧
    (∀ which, params = [which] → 1 < which.toNat →
      exec (.readPlan p params) s = .next (answered p 0x19#8 .range [] s)) ∧
    ∀ (which : Byte) plan, params = [which] → which.toNat ≤ 1 →
      plan = (if which = 0#8 then s.pln.draft else s.pln.air) →
      ∃ d, exec (.readPlan p params) s = .next (answered p 0x19#8 .done d s) ∧ d.length = 60 ∧
        d.take 16 = bytes16 plan.seq ++ nat16 plan.x0 ++ nat16 plan.y0 ++ nat16 plan.w ++ nat16 (plan.w * 9 / 16) ++
          bytes32 plan.cursor ++ [plan.layers.byte, BitVec.ofNat 8 plan.stride] ∧
        (∀ i, i < 12 → (d.drop (16 + 2 * i)).take 2 =
          match plan.gauges.getD i none with
          | none => [0#8, 0#8]
          | some g => [BitVec.ofNat 8 g.station, if g.curve then 1#8 else 0#8]) ∧
        d.getD 40 0#8 = BitVec.ofNat 8 plan.areas.length ∧
        (∀ j, j < 8 → (d.drop (41 + 2 * j)).take 2 = nat16 (plan.areas.getD j 0)) ∧
        d.drop 57 = [portCode s.pln.hold, BitVec.ofNat 8
          ((if s.pln.waiting.a then 1 else 0) + if s.pln.waiting.b then 2 else 0), portCode s.pln.lock]

/-! ### The forecast store -/

/-- READ RUN STATUS and READ FRAME TABLE (R28 to R30): the reading of the runs counts the FREE slots, the frames of each run
and state and the clamped frames, and clears the RUN notice for the requesting port alone; the table returns up to 24
summaries of eight bytes. That byte 16, the frames-sent count, reads 0 after a restart has abandoned NEXT, and that the
summary of a FREE slot carries its slot number, are the model's choices (logs 33 and 40). -/
def Obligations.RunsAndFramesAreRead : Prop :=
  ∀ p params s, Ready p s → s.fsw.slots.length = 48 →
    (params ≠ [] → exec (.readRunStatus p params) s = .next (answered p 0x20#8 .range [] s)) ∧
    (params = [] → ∃ d, exec (.readRunStatus p params) s = .next (answered p 0x20#8 .done d { s with
        cnu := { s.cnu with raised := s.cnu.raised.set p { s.cnu.raised.get p with run := false } } }) ∧
      d.length = 31 ∧ d.getD 0 0#8 = (if s.fsw.current.isSome then 1#8 else 0#8) ∧
      (∀ r, s.fsw.current = some r → (d.drop 1).take 7 = bytes16 r.id ++ bytes32 r.base ++ [BitVec.ofNat 8 r.expected]) ∧
      (s.fsw.current = none → (d.drop 1).take 7 = List.replicate 7 0#8) ∧
      (∀ n, s.fsw.next = some n → (d.drop 8).take 10 =
        (match n.state with | .opened => 1#8 | .ended => 2#8 | .ready => 3#8) ::
          (bytes16 n.run.id ++ bytes32 n.run.base ++
            [BitVec.ofNat 8 n.run.expected, BitVec.ofNat 8 n.sent, if n.short then 1#8 else 0#8])) ∧
      (s.fsw.next = none → (d.drop 8).take 10 = List.replicate 10 0#8) ∧
      (d.drop 18).take 4 = bytes32 s.fsw.abandonment ∧ (((d.drop 22).take 7).map BitVec.toNat).sum = 48 ∧
      (d.getD 22 0#8).toNat = s.fsw.slots.countP (fun slot => slot = none) ∧
      (∀ i owner state, [(Owner.current, FrameState.complete), (.current, .incomplete), (.current, .filling),
          (.next, .complete), (.next, .incomplete), (.next, .filling)][i]? = some (owner, state) →
        (d.getD (23 + i) 0#8).toNat = (heldFrames s.fsw).countP fun f => f.owner = owner && f.state = state) ∧
      (d.getD 29 0#8).toNat = ((heldFrames s.fsw).countP fun f => f.owner = .current && f.clamped) ∧
      (d.getD 30 0#8).toNat = (heldFrames s.fsw).countP fun f => f.owner = .next && f.clamped) ∧
    ((params.length ≠ 1 ∨ ∃ start : Byte, params = [start] ∧ 47 < start.toNat) →
      exec (.readFrameTable p params) s = .next (answered p 0x21#8 .range [] s)) ∧
    ∀ start : Byte, params = [start] → start.toNat ≤ 47 →
      ∃ d, exec (.readFrameTable p params) s = .next (answered p 0x21#8 .done d s) ∧
        d.length = 2 + 8 * min 24 (48 - start.toNat) ∧
        d.take 2 = [start, BitVec.ofNat 8 (min 24 (48 - start.toNat))] ∧
        ∀ i, i < min 24 (48 - start.toNat) → (d.drop (2 + 8 * i)).take 8 =
          BitVec.ofNat 8 (start.toNat + i) ::
            match s.fsw.slots.getD (start.toNat + i) none with
            | none => List.replicate 7 0#8
            | some f =>
              BitVec.ofNat 8 ((match f.owner with | .current => 1 | .next => 2) +
                4 * (match f.state with | .filling => 0 | .complete => 1 | .incomplete => 2) +
                16 * (if f.clamped then 1 else 0)) :: (nat16 f.offset ++ bytes32 f.mask)

/-- LOAD SEGMENT, DELETE SEGMENT and READ SEGMENTS (R43 to R47): the tests in their order, the write with its bounding box
and its counts in the reply, the removal, and the summaries. -/
def Obligations.SegmentCommandsFollowTheirTests : Prop :=
  ∀ p s, Ready p s → SegmentLaw s.fst →
    (∀ params, s.pln.hold ≠ some p →
      exec (.loadSegment p params) s = .next (answered p 0x28#8 .notHolder [] s) ∧
      exec (.deleteSegment p params) s = .next (answered p 0x29#8 .notHolder [] s)) ∧
    (∀ (id : Word16) (cls : Byte) (points : List (Word16 × Word16)) params, s.pln.hold = some p →
      points.length ≤ 255 →
      params = bytes16 id ++ [cls, BitVec.ofNat 8 points.length] ++
        (points.map fun q => bytes16 q.1 ++ bytes16 q.2).flatten →
      ((id.toNat = 0 ∨ 4095 < id.toNat ∨ 3 < cls.toNat ∨ points.length < 2 ∨ 60 < points.length) →
        exec (.loadSegment p params) s = .next (answered p 0x28#8 .range [] s)) ∧
      ∀ c, 1 ≤ id.toNat → id.toNat ≤ 4095 → SegClass.code c = cls → 2 ≤ points.length → points.length ≤ 60 →
        (s.pln.lock.isSome → exec (.loadSegment p params) s = .next (answered p 0x28#8 .locked [] s)) ∧
        ∀ others, others = s.fst.segments.filter (fun g => g.id ≠ id.toNat) → s.pln.lock = none →
          (((others.map fun g => g.points.length).sum + points.length > 16384 ∨ 512 ≤ others.length) →
            exec (.loadSegment p params) s = .next (answered p 0x28#8 .full [] s)) ∧
          ((others.map fun g => g.points.length).sum + points.length ≤ 16384 → others.length < 512 →
            ∃ f : Fst, ∃ g : Segment, g.id = id.toNat ∧ g.cls = c ∧
              g.points = points.map (fun q => ⟨q.1.toNat, q.2.toNat⟩) ∧ OneSegmentLaw g ∧
              (∃ q ∈ g.points, q.x = g.box.xmin) ∧ (∃ q ∈ g.points, q.y = g.box.ymin) ∧
              (∃ q ∈ g.points, q.x = g.box.xmax) ∧ (∃ q ∈ g.points, q.y = g.box.ymax) ∧
              f.stations = s.fst.stations ∧ f.segments.Perm (g :: others) ∧
              (f.segments.map Segment.id).Pairwise (· < ·) ∧
              exec (.loadSegment p params) s = .next (answered p 0x28#8 .done
                ((if others.length = s.fst.segments.length then 0#8 else 1#8) ::
                  (nat16 (others.length + 1) ++
                    nat16 ((others.map fun g => g.points.length).sum + points.length))) { s with fst := f }))) ∧
    (∀ (id : Word16) params, s.pln.hold = some p → params = bytes16 id →
      ((id.toNat = 0 ∨ 4095 < id.toNat) → exec (.deleteSegment p params) s = .next (answered p 0x29#8 .range [] s)) ∧
      (1 ≤ id.toNat → id.toNat ≤ 4095 →
        (s.pln.lock.isSome → exec (.deleteSegment p params) s = .next (answered p 0x29#8 .locked [] s)) ∧
        (s.pln.lock = none → (∀ g ∈ s.fst.segments, g.id ≠ id.toNat) →
          exec (.deleteSegment p params) s = .next (answered p 0x29#8 .notFound [] s)) ∧
        ∀ others, others = s.fst.segments.filter (fun g => g.id ≠ id.toNat) → s.pln.lock = none →
          (∃ g ∈ s.fst.segments, g.id = id.toNat) →
          exec (.deleteSegment p params) s = .next (answered p 0x29#8 .done
            (nat16 others.length ++ nat16 (others.map fun g => g.points.length).sum)
            { s with fst := { s.fst with segments := others } }))) ∧
    (∀ params : List Byte, s.pln.hold = some p →
      (params.length < 4 ∨ params.length ≠ 4 + 4 * (params.getD 3 0#8).toNat) →
      exec (.loadSegment p params) s = .next (answered p 0x28#8 .range [] s)) ∧
    (∀ params, s.pln.hold = some p → params.length ≠ 2 →
      exec (.deleteSegment p params) s = .next (answered p 0x29#8 .range [] s)) ∧
    ∀ params,
      (params.length ≠ 2 → exec (.readSegments p params) s = .next (answered p 0x2A#8 .range [] s)) ∧
      ∀ start : Word16, params = bytes16 start →
        (4095 < start.toNat → exec (.readSegments p params) s = .next (answered p 0x2A#8 .range [] s)) ∧
        (start.toNat ≤ 4095 → ∀ shown, shown = (s.fst.segments.filter fun g => start.toNat ≤ g.id).take 20 →
          exec (.readSegments p params) s = .next (answered p 0x2A#8 .done
            (nat16 s.fst.segments.length ++ nat16 (s.fst.segments.map fun g => g.points.length).sum ++
              BitVec.ofNat 8 shown.length :: (shown.map fun g =>
                nat16 g.id ++ [g.cls.code, BitVec.ofNat 8 g.points.length] ++ nat16 g.box.xmin ++ nat16 g.box.ymin ++
                  nat16 g.box.xmax ++ nat16 g.box.ymax).flatten) s))

/-- LOAD STATION, DELETE STATION and READ STATION (R34 to R41): a record sent in the record format is stored with its clamps
and the requesting port as its source, in its place in the table, unless a test refuses it; a record is removed; a record
or the directory is read. -/
def Obligations.StationCommandsFollowTheirTests : Prop :=
  ∀ p s, Ready p s → StationLaw s.fst →
    (∀ params, s.pln.hold ≠ some p →
      exec (.loadStation p params) s = .next (answered p 0x2C#8 .notHolder [] s) ∧
      exec (.deleteStation p params) s = .next (answered p 0x2D#8 .notHolder [] s)) ∧
    (∀ params : List Byte, s.pln.hold = some p →
      (params.length < 8 ∨ params.length ≠ 8 + 8 * (params.getD 7 0#8).toNat) →
      exec (.loadStation p params) s = .next (answered p 0x2C#8 .range [] s)) ∧
    (∀ c st : Station, s.pln.hold = some p → c.number ≤ 255 → -32768 ≤ c.z0 → c.z0 ≤ 32767 → -32768 ≤ c.hmin →
      c.hmin ≤ 32767 → -32768 ≤ c.hmax → c.hmax ≤ 32767 → c.constituents.length ≤ 255 →
      (∀ x ∈ c.constituents, x.amp ≤ 65535) →
      st.number = c.number → st.z0 = max (-2000) (min 8000 c.z0) → st.hmin = max (-3000) (min 12000 c.hmin) →
      st.hmax = max (-3000) (min 12000 c.hmax) →
      st.constituents = c.constituents.map (fun x => { x with amp := min 8000 x.amp }) →
      st.source = (match p with | .a => .portA | .b => .portB) →
      (st.clamped = true ↔ ¬ (st.z0 = c.z0 ∧ st.hmin = c.hmin ∧ st.hmax = c.hmax ∧
        st.constituents = c.constituents)) →
      ((c.number = 0 ∨ c.constituents = [] ∨ 16 < c.constituents.length ∨ st.hmax ≤ st.hmin) →
        exec (.loadStation p c.bytes) s = .next (answered p 0x2C#8 .range [] s)) ∧
      (RecordLaw st → s.pln.lock.isSome → (∃ g, some g ∈ s.pln.air.gauges ∧ g.station = st.number) →
        exec (.loadStation p c.bytes) s = .next (answered p 0x2C#8 .locked [] s)) ∧
      ∀ others, RecordLaw st → others = s.fst.stations.filter (fun x => x.number ≠ st.number) →
        ¬ (s.pln.lock.isSome ∧ ∃ g, some g ∈ s.pln.air.gauges ∧ g.station = st.number) →
        (others.length = 32 → exec (.loadStation p c.bytes) s = .next (answered p 0x2C#8 .full [] s)) ∧
        (others.length < 32 →
          ∃ f : Fst, f.segments = s.fst.segments ∧ f.stations.Perm (st :: others) ∧
            (f.stations.map Station.number).Pairwise (· < ·) ∧
            exec (.loadStation p c.bytes) s = .next (answered p 0x2C#8 .done
              [BitVec.ofNat 8 ((if others.length = s.fst.stations.length then 0 else 1) +
                 if st.clamped then 2 else 0), BitVec.ofNat 8 (others.length + 1)]
              { s with fst := f }))) ∧
    (∀ params, s.pln.hold = some p → params.length ≠ 1 →
      exec (.deleteStation p params) s = .next (answered p 0x2D#8 .range [] s)) ∧
    (∀ n : Byte, s.pln.hold = some p →
      (n = 0#8 → exec (.deleteStation p [n]) s = .next (answered p 0x2D#8 .range [] s)) ∧
      (n ≠ 0#8 → s.pln.lock.isSome → (∃ g, some g ∈ s.pln.air.gauges ∧ g.station = n.toNat) →
        exec (.deleteStation p [n]) s = .next (answered p 0x2D#8 .locked [] s)) ∧
      (n ≠ 0#8 → ¬ (s.pln.lock.isSome ∧ ∃ g, some g ∈ s.pln.air.gauges ∧ g.station = n.toNat) →
        ∀ others, others = s.fst.stations.filter (fun x => x.number ≠ n.toNat) →
        exec (.deleteStation p [n]) s = .next
          (if others.length = s.fst.stations.length then answered p 0x2D#8 .notFound [] s
           else answered p 0x2D#8 .done [BitVec.ofNat 8 others.length]
             { s with fst := { s.fst with stations := others } }))) ∧
    (∀ params, params.length ≠ 1 → exec (.readStation p params) s = .next (answered p 0x2E#8 .range [] s)) ∧
    ∀ n : Byte,
      (n = 0#8 → exec (.readStation p [n]) s = .next (answered p 0x2E#8 .done
        (BitVec.ofNat 8 s.fst.stations.length :: s.fst.stations.map fun x => BitVec.ofNat 8 x.number) s)) ∧
      (n ≠ 0#8 → (∀ st ∈ s.fst.stations, st.number ≠ n.toNat) →
        exec (.readStation p [n]) s = .next (answered p 0x2E#8 .notFound [] s)) ∧
      ∀ st ∈ s.fst.stations, st.number = n.toNat →
        exec (.readStation p [n]) s = .next (answered p 0x2E#8 .done
          (BitVec.ofNat 8 ((match st.source with | .loader => 0 | .portA => 1 | .portB => 2) +
            4 * (if st.clamped then 1 else 0)) :: st.bytes) s)

/-! ### Takes -/

/-- SUBMIT TAKE is refused by its tests in order (R73). -/
def Obligations.SubmitTakeRefusesByItsTests : Prop :=
  ∀ p s, Ready p s →
    (∀ params, params.length ≠ 14 → exec (.submitTake p params) s = .next (answered p 0x30#8 .range [] s)) ∧
    ∀ (tag kind flags d0 d1 d2 d3 n0 n1 c0 c1 c2 c3 mode : Byte) (n : Nat), n = (n1 ++ n0).toNat →
      ((7 < tag.toNat ∨ 4 < kind.toNat ∨ (kind = 0#8 ∧ 250 < n) ∨ (kind = 1#8 ∧ (n = 0 ∨ 1000 < n)) ∨
          (kind = 3#8 ∧ 2 < mode.toNat)) →
        exec (.submitTake p [tag, kind, flags, d0, d1, d2, d3, n0, n1, c0, c1, c2, c3, mode]) s =
          .next (answered p 0x30#8 .range [] s)) ∧
      (tag.toNat ≤ 7 → kind.toNat ≤ 4 → (kind = 0#8 → n ≤ 250) → (kind = 1#8 → 1 ≤ n ∧ n ≤ 1000) →
        (kind = 3#8 → mode.toNat ≤ 2) → tag.toNat ∈ usedTags s.tke p →
        exec (.submitTake p [tag, kind, flags, d0, d1, d2, d3, n0, n1, c0, c1, c2, c3, mode]) s =
          .next (answered p 0x30#8 .tagInUse [] s))

/-- An accepted take other than a SWAP (R73, R75, R76): its due frame is the one submitted, or the count plus two with
NEXT; past without URGENT it completes TOO LATE into the list and the log, which keeps the eight most recent (R90); else it
enters the queue before the first entry whose due frame its own does not reach (the model's reading of the place where the
queue is not in order of the reached test, log 17), which is after every entry whose due frame it reaches when those entries
stand before the others. -/
def Obligations.SubmittedTakesAreQueuedOrTooLate : Prop :=
  ∀ p s (tag kind flags d0 d1 d2 d3 n0 n1 c0 c1 c2 c3 mode : Byte) (n : Nat) k (due : Word32) params, Ready p s →
    params = [tag, kind, flags, d0, d1, d2, d3, n0, n1, c0, c1, c2, c3, mode] → n = (n1 ++ n0).toNat →
    tag.toNat ≤ 7 → tag.toNat ∉ usedTags s.tke p →
    ((kind = 0#8 ∧ n ≤ 250 ∧ k = .publish n) ∨
      (kind = 1#8 ∧ 1 ≤ n ∧ n ≤ 1000 ∧ k = .sweep n ((c3 ++ c2) ++ (c1 ++ c0))) ∨ (kind = 2#8 ∧ k = .adopt) ∨
      (kind = 3#8 ∧ ((mode = 0#8 ∧ k = .line .live) ∨ (mode = 1#8 ∧ k = .line .pass) ∨
        (mode = 2#8 ∧ k = .line .check)))) →
    due = (if flags.getLsbD 2 then s.fcy.count + 2 else (d3 ++ d2) ++ (d1 ++ d0)) →
    (reached due (s.fcy.count + 1) = true → flags.getLsbD 0 = false →
      ∃ c : Completion, c.port = p ∧ c.tag = tag.toNat ∧ c.sort = k.sort ∧
        c.status = .tooLate ∧ c.applied = s.fcy.count + 1 ∧ c.due = due ∧
        exec (.submitTake p params) s = .next (answered p 0x30#8 .done
          (1#8 :: 3#8 :: (bytes32 due ++ bytes32 s.fcy.count)) { s with tke := { s.tke with
            completions := s.tke.completions.set p (s.tke.completions.get p ++ [c])
            log := (s.tke.log ++ [c]).drop ((s.tke.log ++ [c]).length - 8) } })) ∧
    ((reached due (s.fcy.count + 1) = false ∨ flags.getLsbD 0 = true) →
      ∃ (e : TakeEntry) (before after : List TakeEntry), e.port = p ∧ e.tag = tag.toNat ∧ e.kind = k ∧ e.due = due ∧
        e.urgent = flags.getLsbD 0 ∧ e.force = flags.getLsbD 1 ∧ e.past = reached due (s.fcy.count + 1) ∧
        e.state = .queued ∧ (k = .adopt → e.abandonment = s.fsw.abandonment) ∧
        s.tke.queue = before ++ after ∧ (∀ x ∈ before, reached x.due due = true) ∧
        (∀ x, after.head? = some x → reached x.due due = false) ∧
        ((∀ first later, s.tke.queue = first ++ later → ∀ x ∈ first, ∀ y ∈ later,
            reached y.due due = true → reached x.due due = true) → ∀ y ∈ after, reached y.due due = false) ∧
        exec (.submitTake p params) s = .next (answered p 0x30#8 .done
          (0#8 :: 0#8 :: (bytes32 due ++ bytes32 s.fcy.count))
          { s with tke := { s.tke with queue := before ++ e :: after } }))

/-- An accepted SWAP (R75, R87, R167): its due frame is raised to the count plus four when reached there. A SOLE part, one
HANDING OVER, and one with a record of another line frame or past REQUESTING or OFFERING complete it SWAP FAILED at once. A
MAIN or STANDBY without a record makes one, and with a record it can join the entry joins it; the entry is NEGOTIATING. -/
def Obligations.SubmittedSwapsStartANegotiation : Prop :=
  ∀ p s (tag flags d0 d1 d2 d3 n0 n1 c0 c1 c2 c3 mode : Byte) (sub due : Word32) params, Ready p s →
    params = [tag, 4#8, flags, d0, d1, d2, d3, n0, n1, c0, c1, c2, c3, mode] → tag.toNat ≤ 7 →
    tag.toNat ∉ usedTags s.tke p →
    sub = (if flags.getLsbD 2 then s.fcy.count + 2 else (d3 ++ d2) ++ (d1 ++ d0)) →
    due = (if reached sub (s.fcy.count + 4) then s.fcy.count + 4 else sub) →
    ((s.opr.role = .sole ∨ s.opr.role = .handingOver ∨ ∃ n, s.opr.negotiation = some n ∧ ¬ (n.lineFrame = due ∧
        (n.stage = .requesting ∨ n.stage = .waiting ∨ n.stage = .offering))) → ∃ u c, exec (.submitTake p params) s = .next u ∧
      u.cnu.reply.get p = some { code := 0x30#8, status := .done,
                                 data := 1#8 :: 9#8 :: (bytes32 due ++ bytes32 s.fcy.count) } ∧
      u.tke.queue = s.tke.queue ∧ u.opr = s.opr ∧ u.tke.completions.get p = s.tke.completions.get p ++ [c] ∧
      c.tag = tag.toNat ∧ c.sort = .swap ∧ c.status = .swapFailed ∧ c.applied = s.fcy.count + 1 ∧ c.due = due) ∧
    ((s.opr.role = .main ∨ s.opr.role = .standby) → (∀ n, s.opr.negotiation = some n → n.lineFrame = due ∧
        (n.stage = .requesting ∨ n.stage = .waiting ∨ n.stage = .offering)) →
      ∃ u e n, exec (.submitTake p params) s = .next u ∧
      u.cnu.reply.get p = some { code := 0x30#8, status := .done,
                                 data := 0#8 :: 0#8 :: (bytes32 due ++ bytes32 s.fcy.count) } ∧
      e ∈ u.tke.queue ∧ e.port = p ∧ e.tag = tag.toNat ∧ e.kind = .swap ∧ e.due = due ∧ e.state = .negotiating ∧
      u.tke.completions = s.tke.completions ∧ u.opr = { s.opr with negotiation := some n } ∧
      (s.opr.negotiation = none → n.lineFrame = due ∧ n.origin = .take ∧ n.force = flags.getLsbD 1 ∧
        n.entries = [{ port := p, tag := tag.toNat }] ∧
        (s.opr.role = .main → n.side = .mainSide ∧ n.stage = .requesting ∧ n.offerSeen = false) ∧
        (s.opr.role = .standby → n.side = .standbySide ∧ n.stage = .waiting)) ∧
      ∀ m, s.opr.negotiation = some m → n = { m with
        origin := .take
        force := m.force || flags.getLsbD 1
        entries := m.entries ++ [{ port := p, tag := tag.toNat }] })

/-- FLUSH TAKES (R91): the port's QUEUED and DEFERRED entries leave the queue, with FLUSHED records in queue order at the end
of its list and of the log, which keeps the eight most recent; every other entry stays, and the flush mark is set. -/
def Obligations.FlushRemovesThePortsWaitingTakes : Prop :=
  ∀ p params s, Ready p s → TakeLaw s.tke →
    (params ≠ [] → exec (.flushTakes p params) s = .next (answered p 0x31#8 .range [] s)) ∧
    (params = [] → ∀ gone (records : List Completion), gone = s.tke.queue.filter (fun e =>
        e.port = p && (e.state = .queued || e.state = .deferred)) →
      records = gone.map (fun e => { port := p, tag := e.tag, sort := e.kind.sort, status := .flushed,
                                     applied := s.fcy.count + 1, due := e.due }) →
      ∃ t : Tke, exec (.flushTakes p params) s = .next (answered p 0x31#8 .done [BitVec.ofNat 8 gone.length]
          { s with tke := t }) ∧
        t.queue = s.tke.queue.filter (fun e => !(e.port = p && (e.state = .queued || e.state = .deferred))) ∧
        t.completions = s.tke.completions.set p (s.tke.completions.get p ++ records) ∧
        t.log = (s.tke.log ++ records).drop ((s.tke.log ++ records).length - 8) ∧ t.flushMark = true ∧
        t.ts = s.tke.ts)

/-- READ COMPLETIONS and READ TAKE LOG (R74, R89, R90): the port's records are returned oldest first and its list emptied,
so that their tags are FREE; the log is returned and stands. -/
def Obligations.CompletionsAndTheLogAreRead : Prop :=
  ∀ p params s, Ready p s →
    (params ≠ [] →
      exec (.readCompletions p params) s = .next (answered p 0x32#8 .range [] s) ∧
      exec (.readTakeLog p params) s = .next (answered p 0x33#8 .range [] s)) ∧
    (params = [] →
      exec (.readCompletions p params) s = .next (answered p 0x32#8 .done
        (BitVec.ofNat 8 (s.tke.completions.get p).length :: ((s.tke.completions.get p).map fun c =>
          [BitVec.ofNat 8 c.tag, c.sort.code, c.status.code] ++ bytes32 c.applied ++ bytes32 c.due).flatten)
        { s with tke := { s.tke with completions := s.tke.completions.set p [] } }) ∧
      exec (.readTakeLog p params) s = .next (answered p 0x33#8 .done
        (BitVec.ofNat 8 s.tke.log.length :: (s.tke.log.map fun c =>
          [match c.port with | .a => 0#8 | .b => 1#8, BitVec.ofNat 8 c.tag, c.sort.code, c.status.code] ++
            bytes32 c.applied ++ bytes32 c.due).flatten) s))

/-! ### Readings -/

/-- READ TIMING and READ FRAME RECORD (R15, R136): the cycle in seven bytes; NONE, or the displayed chart's record. -/
def Obligations.TimingAndTheFrameRecordAreRead : Prop :=
  ∀ p params s, Ready p s →
    (params ≠ [] →
      exec (.readTiming p params) s = .next (answered p 0x3C#8 .range [] s) ∧
      exec (.readFrameRecord p params) s = .next (answered p 0x38#8 .range [] s)) ∧
    (params = [] →
      exec (.readTiming p params) s = .next (answered p 0x3C#8 .done
        (bytes32 s.fcy.count ++ [match s.fcy.ref with
          | .acquiring => 0#8 | .locked => 1#8 | .lost => 2#8 | .regaining => 3#8,
         BitVec.ofNat 8 s.fcy.regain,
         BitVec.ofNat 8 ((if s.fcy.inFlight.isSome then 1 else 0) + if s.fcy.rate = .fps2997 then 2 else 0)]) s) ∧
      (s.fcy.displayed = none →
        exec (.readFrameRecord p params) s = .next (answered p 0x38#8 .done [0#8] s)) ∧
      ∀ chart r, s.fcy.displayed = some chart → r = chart.record →
        ∃ d, exec (.readFrameRecord p params) s = .next (answered p 0x38#8 .done d s) ∧
          d.length = 36 + 11 * r.gauges.length ∧
          d.take 18 = 1#8 :: (bytes32 r.frame ++ bytes16 r.airSeq ++ bytes16 r.runId ++ bytes32 r.cursor ++
            BitVec.ofNat 8 r.level :: (nat16 r.cost ++ nat16 r.budget)) ∧
          (d.drop 18).take 18 = (match r.wind.status with
            | .drawn => 0#8 | .heldFirst => 1#8 | .heldLast => 2#8 | .noData => 3#8 | .off => 4#8) :: (bytes32 r.wind.t0 ++ bytes32 r.wind.t1 ++
            BitVec.ofNat 8 r.wind.f :: (nat16 r.wind.arrows ++ nat16 r.coastSegments ++ nat16 r.coastPoints ++
              [BitVec.ofNat 8 r.areaCount, BitVec.ofNat 8 r.gauges.length])) ∧
          ∀ i g, r.gauges[i]? = some g → (d.drop (36 + 11 * i)).take 11 =
            [BitVec.ofNat 8 g.slot, BitVec.ofNat 8 g.station,
             match g.status with | .live => 0#8 | .held => 1#8 | .noStation => 2#8] ++
              match g.values with
              | none => List.replicate 8 0#8
              | some v => BitVec.ofNat 8 (1 + (if v.offScale then 2 else 0) +
                  4 * (match v.trend with | .slack => 0 | .rising => 1 | .falling => 2)) ::
                (bytes32 (BitVec.ofInt 32 v.height) ++ BitVec.ofNat 8 v.level :: bytes16 (BitVec.ofInt 16 v.rate)))

/-- READ INGEST STATUS (R156): 16 bytes (with no loader error bytes 10 to 14 read 0, log 37), and the last loader error is
marked read; SET INGEST LEVELS (R150): the levels are clamped and flow control evaluated, and the symbol matching HOLD-OFF is
made when the enable is turned on (with the symbol of flow control before it, log 22); INGEST RESET (R157): the queue, the unit
in reception and the pending overrun go, and HOLD-OFF is released. Nothing else changes. -/
def Obligations.IngestIsReadSetAndReset : Prop :=
  ∀ p params s, Ready p s →
    (params ≠ [] →
      exec (.readIngestStatus p params) s = .next (answered p 0x40#8 .range [] s) ∧
      exec (.ingestReset p params) s = .next (answered p 0x42#8 .range [] s)) ∧
    (params = [] → (∃ d, exec (.readIngestStatus p params) s = .next (answered p 0x40#8 .done d { s with
          ing := { s.ing with lastError := s.ing.lastError.map fun e => { e with unread := false } } }) ∧
        d.length = 16 ∧
        d.take 3 = [BitVec.ofNat 8 s.ing.queue.length, BitVec.ofNat 8 s.ing.halt, BitVec.ofNat 8 s.ing.resume] ∧
        d.getD 3 0#8 = BitVec.ofNat 8 ((if s.ing.holdOff then 1 else 0) + (if s.ing.inBand then 2 else 0) +
          (if ∃ x ∈ s.ing.queue, x.mark ≠ .none then 4 else 0) + (if s.ing.reception.isSome then 8 else 0) +
          (if s.ing.overrun.isSome then 16 else 0) +
          if s.ing.lastError.any fun e => e.unread then 32 else 0) ∧
        (d.drop 4).take 5 = (match s.ing.queue with
          | [] => [0#8, 0#8, 0#8]
          | u :: _ => [u.mark.code, BitVec.ofNat 8 (u.overrun.getD 0), u.type_.getD 0#8]) ++ nat16 s.ing.grant ∧
        (d.drop 9).take 6 = (match s.ing.lastError with
          | none => List.replicate 6 0#8
          | some e => [e.kind.code, e.type_] ++ bytes16 e.runId ++
              [BitVec.ofNat 8 e.station, BitVec.ofNat 8 e.since]) ∧
        d.getD 15 0#8 = BitVec.ofNat 8 (s.ing.overrun.getD 0)) ∧
      ∀ i : Ing, i = { s.ing with queue := [], reception := none, gap := 0, overrun := none, holdOff := false } →
        exec (.ingestReset p params) s = .next (answered p 0x42#8 .done [BitVec.ofNat 8 s.ing.queue.length] { s with
          ing := if s.ing.holdOff = true ∧ s.ing.inBand = true then symbolMade .continue_ i else i })) ∧
    (params.length ≠ 3 → exec (.setIngestLevels p params) s = .next (answered p 0x41#8 .range [] s)) ∧
    ∀ halt resume flags : Byte, params = [halt, resume, flags] → ∀ h r (stored i : Ing), h = min 63 (max 8 halt.toNat) →
      r = min (h - 8) resume.toNat →
      stored = flowEvaluated { s.ing with halt := h, resume := r, inBand := flags.getLsbD 0 } →
      i = (if flags.getLsbD 0 = true ∧ s.ing.inBand = false then
        symbolMade (if stored.holdOff then .pause else .continue_) stored else stored) →
      exec (.setIngestLevels p params) s = .next (answered p 0x41#8 .done
        [BitVec.ofNat 8 h, BitVec.ofNat 8 r,
         BitVec.ofNat 8 ((if flags.getLsbD 0 then 1 else 0) + if i.holdOff then 2 else 0)] { s with ing := i })

/-- READ OUTPUT STATUS (R173) and SET AUTO TAKEOVER (R170): 18 bytes with the PARTNER-ALARM level presented; the setting
is stored and answered. That the part holds the level presented, also after a RANGE reply, is the model's choice (log 6). -/
def Obligations.OutputStatusAndAutoTakeover : Prop :=
  ∀ p params palarm s, Ready p s →
    (params ≠ [] → exec (.readOutputStatus p params palarm) s =
      .next (answered p 0x48#8 .range [] { s with palarm := palarm })) ∧
    (params = [] → ∃ d, exec (.readOutputStatus p params palarm) s =
        .next (answered p 0x48#8 .done d { s with palarm := palarm }) ∧ d.length = 18 ∧
      d.take 7 = [match s.opr.lineMode with | .live => 0#8 | .pass => 1#8 | .check => 2#8,
        match s.opr.frameLineMode with | .live => 0#8 | .pass => 1#8 | .check => 2#8,
        match s.opr.role with | .sole => 0#8 | .main => 1#8 | .standby => 2#8 | .handingOver => 3#8,
        match s.opr.strap with | .sole => 0#8 | .pairFirst => 1#8 | .pairSecond => 2#8,
        if s.opr.partnerPresent then 1#8 else 0#8, if s.opr.inStep then 1#8 else 0#8,
        BitVec.ofNat 8 ((if s.opr.autoTakeover then 1 else 0) + (if alarm s then 2 else 0) +
          (if palarm then 4 else 0) + (if s.opr.partnerSeen then 8 else 0) +
          if s.opr.role = .main ∨ s.opr.role = .sole then 16 else 0)] ∧
      (s.opr.negotiation = none → (d.drop 7).take 7 = List.replicate 7 0#8) ∧
      (∀ n, s.opr.negotiation = some n → (d.drop 7).take 7 = n.stage.code ::
        BitVec.ofNat 8 ((match n.origin with | .take => 0 | .request => 1 | .automatic => 2) +
          (if n.force then 4 else 0) + if n.offerSeen then 8 else 0) ::
        (bytes32 n.lineFrame ++ [BitVec.ofNat 8 n.entries.length])) ∧
      d.drop 14 = [BitVec.ofNat 8 s.opr.missed, BitVec.ofNat 8 s.opr.lossCount, BitVec.ofNat 8 s.opr.matchRun,
        BitVec.ofNat 8 s.opr.mismatchRun]) ∧
    (params.length ≠ 1 → exec (.setAutoTakeover p params) s = .next (answered p 0x49#8 .range [] s)) ∧
    ∀ b : Byte, params = [b] → exec (.setAutoTakeover p params) s =
      .next (answered p 0x49#8 .done [if b.getLsbD 0 then 1#8 else 0#8]
        { s with opr := { s.opr with autoTakeover := b.getLsbD 0 } })

/-! ### Notices and health -/

/-- READ NOTICE (R182): the highest-priority class pending and enabled, its detail and the pending set; HOLD and STEP cease
to be pending for the port when returned; the other port's set stands. SET NOTICE MASK (R181). That the pending set in the
reply still shows the class that it clears is the model's choice (log 39). -/
def Obligations.ReadNoticeReturnsTheTopClass : Prop :=
  ∀ p params s, Ready p s →
    (params ≠ [] → exec (.readNotice p params) s = .next (answered p 0x50#8 .range [] s)) ∧
    (params = [] → ∀ n m, n = pendingSet s p → m = s.cnu.mask.get p → ∃ cls r,
      exec (.readNotice p params) s = .next (answered p 0x50#8 .done
        [cls, if cls = 3#8 then (s.pln.event.get p).code else if cls = 6#8 then (if s.opr.inStep then 1#8 else 0#8) else 0#8,
         n.byte] { s with cnu := { s.cnu with raised := s.cnu.raised.set p r } }) ∧
      cls = (if n.fault && m.fault then 1#8 else if n.ingest && m.ingest then 2#8
        else if n.hold && m.hold then 3#8 else if n.take && m.take then 4#8 else if n.run && m.run then 5#8
        else if n.step && m.step then 6#8 else 0#8) ∧
      r = { s.cnu.raised.get p with
        hold := (s.cnu.raised.get p).hold && cls ≠ 3#8, step := (s.cnu.raised.get p).step && cls ≠ 6#8 }) ∧
    (params.length ≠ 1 → exec (.setNoticeMask p params) s = .next (answered p 0x51#8 .range [] s)) ∧
    ∀ b : Byte, params = [b] → exec (.setNoticeMask p params) s =
      .next (answered p 0x51#8 .done [b &&& 0x3F#8, (pendingSet s p).byte] { s with cnu := { s.cnu with
        mask := s.cnu.mask.set p { fault := b.getLsbD 0, ingest := b.getLsbD 1, hold := b.getLsbD 2,
                                   take := b.getLsbD 3, run := b.getLsbD 4, step := b.getLsbD 5 } } })

/-- READ FAULT STATUS (R183): seven bytes, and then the port's causes, counters tripped and FAULT are cleared, whether or
not FAULT is masked; READ HEALTH (R185) changes nothing. -/
def Obligations.ReadFaultStatusClearsThePortsFault : Prop :=
  ∀ p params s, Ready p s →
    (params ≠ [] →
      exec (.readFaultStatus p params) s = .next (answered p 0x52#8 .range [] s) ∧
      exec (.readHealth p params) s = .next (answered p 0x53#8 .range [] s)) ∧
    (params = [] →
      exec (.readFaultStatus p params) s = .next (answered p 0x52#8 .done
        [(s.cnu.causes.get p).byte, counterByte (s.cnu.trippedSince.get p), counterByte s.cnu.tripped, s.fcy.ref.code,
         if s.opr.partnerPresent then 1#8 else 0#8, s.opr.role.code,
         BitVec.ofNat 8 ((if alarm s then 1 else 0) + if s.cnu.alarmEnable then 2 else 0)]
        { s with cnu := { s.cnu with
          raised := s.cnu.raised.set p { s.cnu.raised.get p with fault := false }
          causes := s.cnu.causes.set p
            { referenceLost := false, partnerLost := false, healthTripped := false, roleChange := false }
          trippedSince := s.cnu.trippedSince.set p (PerCounter.all false) } }) ∧
      ∃ d, exec (.readHealth p params) s = .next (answered p 0x53#8 .done d s) ∧ d.length = 26 ∧
        d.take 12 = (s.cnu.counters.toList.map nat16).flatten ∧
        (d.drop 12).take 12 = (s.cnu.thresholds.toList.map nat16).flatten ∧
        d.drop 24 = [counterByte s.cnu.tripped, if s.cnu.alarmEnable then 1#8 else 0#8])

/-- SET THRESHOLD (R184, R185): the threshold is stored and its counter tested, with the raises of a trip and nothing else;
CLEAR HEALTH and SET ALARM ENABLE (R186). -/
def Obligations.ThresholdsClearingAndAlarmEnable : Prop :=
  ∀ p params s, Ready p s →
    (params.length ≠ 3 → exec (.setThreshold p params) s = .next (answered p 0x54#8 .range [] s)) ∧
    (∀ index t0 t1 : Byte, params = [index, t0, t1] →
      (5 < index.toNat → exec (.setThreshold p params) s = .next (answered p 0x54#8 .range [] s)) ∧
      ∀ c (stored : Cnu), [Counter.lateFrames, .degradedEntries, .ingestErrors, .overruns, .referenceLosses,
          .stepLosses][index.toNat]? = some c →
        stored = { s.cnu with thresholds := s.cnu.thresholds.set c (t1 ++ t0).toNat } →
        exec (.setThreshold p params) s = .next (answered p 0x54#8 .done
          [t0, t1, counterByte (tested c stored).tripped] { s with cnu := tested c stored })) ∧
    (params ≠ [] → exec (.clearHealth p params) s = .next (answered p 0x55#8 .range [] s)) ∧
    (params = [] → exec (.clearHealth p params) s = .next (answered p 0x55#8 .done [] { s with cnu := { s.cnu with
      counters := PerCounter.all 0, tripped := PerCounter.all false } })) ∧
    (params.length ≠ 1 → exec (.setAlarmEnable p params) s = .next (answered p 0x56#8 .range [] s)) ∧
    ∀ b : Byte, params = [b] → exec (.setAlarmEnable p params) s =
      .next (answered p 0x56#8 .done [if b.getLsbD 0 then 1#8 else 0#8]
        { s with cnu := { s.cnu with alarmEnable := b.getLsbD 0 } })

/-- RESTART (R33, R50, R72, R94, R139, R158, R175, R187): refused under the lock; otherwise every block restarts, and the
frame cycle, the tide and coast store, CURRENT and its frames, the counters, causes and masks stand. NEXT is abandoned with
its frames (R27), and every NEGOTIATING entry is logged FLUSHED (R94; several in queue order, log 35). That parameter bytes
under a set lock are answered RANGE (log 42), and that no unit of the emptied ingest queue reaches the store afterwards (log
41), are the model's choices. -/
def Obligations.RestartResetsEveryBlockSoftly : Prop :=
  ∀ p params s, Ready p s →
    (params ≠ [] → exec (.restart p params) s = .next (answered p 0x5F#8 .range [] s)) ∧
    (params = [] → s.pln.lock.isSome → exec (.restart p params) s = .next (answered p 0x5F#8 .locked [] s)) ∧
    (params = [] → s.pln.lock = none → ∃ u : State,
      exec (.restart p params) s = .next (answered p 0x5F#8 .done [] u) ∧
      u.power = s.power ∧ u.palarm = s.palarm ∧ u.pending = s.pending ∧ u.fcy = s.fcy ∧ u.fst = s.fst ∧
      (s.fsw.next = none → u.fsw = s.fsw) ∧
      (s.fsw.next.isSome → u.fsw = { s.fsw with
        next := none, abandonment := s.fsw.abandonment + 1, slots := onNextFrames (fun _ => none) s.fsw.slots }) ∧
      u.pln.draft = Plan.default ∧ u.pln.air = Plan.default ∧ u.pln.hold = none ∧ u.pln.lock = none ∧
      (∀ q, u.pln.waiting.get q = false ∧ u.pln.event.get q = .none ∧ u.tke.completions.get q = []) ∧
      u.tke.queue = [] ∧ u.tke.flushMark = true ∧ u.tke.ts = s.tke.ts ∧
      (s.tke.log.length ≤ 8 → ∀ log, log = s.tke.log ++ (s.tke.queue.filter fun e => e.state = .negotiating).map
          (fun e => { port := e.port, tag := e.tag, sort := e.kind.sort, status := .flushed,
                      applied := s.fcy.count + 1, due := e.due }) →
        u.tke.log = log.drop (log.length - 8)) ∧
      u.cmp = { s.cmp with sticky := 0, relax := 0 } ∧
      (∀ i : Ing, i = { s.ing with
          queue := [], reception := none, gap := 0, overrun := none, holdOff := false
          lastError := s.ing.lastError.map fun e => { e with unread := false } } →
        u.ing = if s.ing.holdOff = true ∧ s.ing.inBand = true then symbolMade .continue_ i else i) ∧
      u.opr = { s.opr with lineMode := .pass, negotiation := u.opr.negotiation } ∧
      (∀ n, s.opr.negotiation = some n → u.opr.negotiation =
        if n.stage = .released ∨ n.stage = .releaseReceived then some { n with entries := [] } else none) ∧
      (s.opr.negotiation = none → u.opr.negotiation = none) ∧
      u.cnu = { s.cnu with raised := u.cnu.raised } ∧
      ∀ q, pendingSet u q = { fault := (s.cnu.raised.get q).fault, ingest := false, hold := false, take := false,
                              run := false, step := false })

/-! ### Output -/

/-- A STANDBY or HANDING OVER part, and one that does not run, keeps its line output released, and a driven line carries what
the frame line mode says, the background before the first display (R14, R159); ALARM follows a tripped counter under the
enable and a lost reference, and reads asserted while the part does not run (R172). ATTN of a port is asserted while a class
is both pending and enabled there; TAKE is pending while the port's completion list holds a record, INGEST while a unit of the
ingest queue is marked or the last loader error unread, and the others as raised (R88, R155, R180). What the monitor carries
and what is pending while the part does not run is the model's choice (log 11). -/
def Obligations.LineOutputAndAlarmFollowTheState : Prop :=
  ∀ s : State,
    ((s.opr.role = .standby ∨ s.opr.role = .handingOver) → lineOutput s = .released) ∧
    (s.power = .running → (s.opr.role = .main ∨ s.opr.role = .sole) →
      (s.opr.frameLineMode = .live → s.fcy.displayed = none → lineOutput s = .background) ∧
      (∀ c, s.opr.frameLineMode = .live → s.fcy.displayed = some c → lineOutput s = .chartOver c) ∧
      (s.opr.frameLineMode ≠ .live → lineOutput s = .background)) ∧
    (s.power ≠ .running → lineOutput s = .released ∧ alarm s = true) ∧
    ((s.opr.frameLineMode = .pass ∨ s.fcy.displayed = none) → monitorOutput s = .background) ∧
    (∀ c, s.opr.frameLineMode ≠ .pass → s.fcy.displayed = some c → monitorOutput s = .chartOver c) ∧
    (s.power = .running → (alarm s = true ↔
      (s.cnu.alarmEnable = true ∧ ∃ c, s.cnu.tripped.get c = true) ∨ s.fcy.ref = .lost)) ∧
    ∀ p n m, n = pendingSet s p → m = s.cnu.mask.get p →
      (attn s p = true ↔ s.power = .running ∧
        (n.fault = true ∧ m.fault = true ∨ n.ingest = true ∧ m.ingest = true ∨ n.hold = true ∧ m.hold = true ∨
          n.take = true ∧ m.take = true ∨ n.run = true ∧ m.run = true ∨ n.step = true ∧ m.step = true)) ∧
      (n.take = true ↔ s.tke.completions.get p ≠ []) ∧
      (n.ingest = true ↔
        (∃ x ∈ s.ing.queue, x.mark ≠ .none) ∨ ∃ e, s.ing.lastError = some e ∧ e.unread = true) ∧
      n.fault = (s.cnu.raised.get p).fault ∧ n.hold = (s.cnu.raised.get p).hold ∧
      n.run = (s.cnu.raised.get p).run ∧ n.step = (s.cnu.raised.get p).step

/-! ### Tide and wind -/

/-- The laws of R104 and R118 over the computations: a gauge level within 0..100, a rate within ±9,999, an interpolation
fraction within 0..255, an interpolated component within the stored range, a force within 0..12; and a sweep at step N
stands at its target, the cursor modulo 2³² (R82). The speed of an arrow is the floor of its root, its force the highest whose
lower bound the speed reaches (R119, R120), and its sector the quadrant of the from-vector with the boundaries counted in it
(R121, R122); below speed 10 it is a calm mark (R123). -/
def Obligations.ComputedValuesStayInRange : Prop :=
  ((∀ (st : Station) (h : Int), st.hmin < st.hmax → gaugeLevel st h ≤ 100) ∧
  (∀ st t, -9999 ≤ rateAt st t ∧ rateAt st t ≤ 9999) ∧
  (∀ frames r b, brackets frames r = some b → fraction r b ≤ 255) ∧
  (∀ (c0 c1 : Int) (f : Nat), -1000 ≤ c0 → c0 ≤ 1000 → -1000 ≤ c1 → c1 ≤ 1000 → f ≤ 255 →
    -1000 ≤ interpolate c0 c1 f ∧ interpolate c0 c1 f ≤ 1000) ∧
  ∀ speed, forceOf speed ≤ 12) ∧
  (∀ (start target : Int) (n : Nat), 1 ≤ n → sweepValue start target n n = target) ∧
  (∀ r : SweepRecord, 1 ≤ r.n → r.k = r.n → sweepCursor r = r.cursorTarget) ∧
  (∀ u v : Int, -1000 ≤ u → u ≤ 1000 → -1000 ≤ v → v ≤ 1000 → ∀ speed : Nat, speed = speedOf { u := u, v := v } →
    (speed * speed : Int) ≤ u * u + v * v ∧ u * u + v * v < ((speed + 1) * (speed + 1) : Int) ∧ speed ≤ 1414) ∧
  (∀ speed force bound : Nat, [0, 10, 35, 65, 105, 165, 215, 275, 335, 405, 475, 555, 635][force]? = some bound →
    (force ≤ forceOf speed ↔ bound ≤ speed)) ∧
  ∀ (wind : WindPair) (speed : Nat) (e n : Int), speed = speedOf wind → e = -wind.u → n = -wind.v →
    (speed < 10 → markOf wind = .calm speed) ∧
    (10 ≤ speed → ∃ (q : Nat) (e' n' : Int), markOf wind = .arrow speed (forceOf speed)
        ((4 * q + ([13036, 43790, 98082, 329472] : List Int).countP fun bound => n' * bound ≤ e' * 65536) % 16) ∧
      (0 ≤ e ∧ 0 < n → q = 0 ∧ e' = e ∧ n' = n) ∧ (0 < e ∧ n ≤ 0 → q = 1 ∧ e' = -n ∧ n' = e) ∧
      (e ≤ 0 ∧ n < 0 → q = 2 ∧ e' = -e ∧ n' = -n) ∧ (e < 0 ∧ 0 ≤ n → q = 3 ∧ e' = n ∧ n' = -e) ∧
      0 ≤ e' ∧ 0 < n')

/-! ### The laws that hold at all times -/

/-- The laws of `Lawful` hold in State.reset. That it is the state of a hard reset ended at moment 0 with every strap low is the
model's choice (log 7). R53's law speaks of a pulse (DeferredPublishExpires), R159's of the line output
(LineOutputAndAlarmFollowTheState). -/
def Obligations.LawsHoldAfterReset : Prop := Lawful State.reset

/-- R18's law: every step keeps the law of the wind frame slots. -/
def Obligations.StepKeepsTheSlotLaw : Prop := ∀ s t, step s = .next t → SlotLaw s.fsw → SlotLaw t.fsw

/-- R34's and R43's laws: every step keeps the laws of the station table and the segment list. -/
def Obligations.StepKeepsTheStoreLaws : Prop :=
  ∀ s t, step s = .next t → StationLaw s.fst → SegmentLaw s.fst → StationLaw t.fst ∧ SegmentLaw t.fst

/-- R51's ranges and R64's law: every step keeps them. -/
def Obligations.StepKeepsPlansAndHold : Prop :=
  ∀ s t, step s = .next t → (PlansLaw s.pln → PlansLaw t.pln) ∧ (HoldLaw s.pln → HoldLaw t.pln)

/-- R74's and R84's laws: every step keeps them. -/
def Obligations.StepKeepsTheTakeLaw : Prop := ∀ s t, step s = .next t → TakeLaw s.tke → TakeLaw t.tke

/-- The law of R148 about HOLD-OFF and the ranges of the ingest unit: every step keeps them. -/
def Obligations.StepKeepsTheIngestLaw : Prop := ∀ s t, step s = .next t → IngestLaw s.ing → IngestLaw t.ing

/-- R133's and R134's laws, the laws of the reference states and the ranges of the pair unit: every step keeps them. -/
def Obligations.StepKeepsLevelCycleAndPair : Prop :=
  (∀ s t, step s = .next t → (LevelLaw s.cmp → LevelLaw t.cmp) ∧ (CycleLaw s → CycleLaw t)) ∧
  ∀ s t, step s = .next t → PairLaw s.opr → PairLaw t.opr

/-- R184's law: every step keeps the ranges of the health counters and their trips; and a counter falls only at
CLEAR HEALTH (as a command or framed on a port) or hard reset. -/
def Obligations.StepKeepsTheHealthLaw : Prop :=
  (∀ s t, step s = .next t → HealthLaw s.cnu → HealthLaw t.cnu) ∧
  ∀ i s t, exec i s = .next t → HealthLaw s.cnu → (∀ p params, i ≠ .clearHealth p params) →
    (∀ m straps, i ≠ .endOfHardReset m straps) →
    (∀ p b palarm len, i = .portCharacter p b palarm → s.cnu.receiver.get p ≠ some [len, 0x55#8]) →
    ∀ c, s.cnu.counters.get c ≤ t.cnu.counters.get c

/-- R104's law: every step keeps the ranges of the gauge results in the charts. -/
def Obligations.StepKeepsTheGaugeLaw : Prop := ∀ s t, step s = .next t → GaugeLaw s → GaugeLaw t
end

