-- ==== Sys2Proof/Laws/State.lean ====
section
/-! SUPPORT. Laws/State.lean: reading a field of the state after one block is rewritten, true by rfl, so that no proof
unfolds a record update; and reading one port's or one counter's value after a write. -/

namespace Sys2Proof.Machine

/-! ### onFcy -/

@[simp] theorem State.power_onFcy (s : State) (f : Fcy → Fcy) : (s.onFcy f).power = s.power := rfl
@[simp] theorem State.palarm_onFcy (s : State) (f : Fcy → Fcy) : (s.onFcy f).palarm = s.palarm := rfl
@[simp] theorem State.fcy_onFcy (s : State) (f : Fcy → Fcy) : (s.onFcy f).fcy = f s.fcy := rfl
@[simp] theorem State.fsw_onFcy (s : State) (f : Fcy → Fcy) : (s.onFcy f).fsw = s.fsw := rfl
@[simp] theorem State.fst_onFcy (s : State) (f : Fcy → Fcy) : (s.onFcy f).fst = s.fst := rfl
@[simp] theorem State.pln_onFcy (s : State) (f : Fcy → Fcy) : (s.onFcy f).pln = s.pln := rfl
@[simp] theorem State.tke_onFcy (s : State) (f : Fcy → Fcy) : (s.onFcy f).tke = s.tke := rfl
@[simp] theorem State.cmp_onFcy (s : State) (f : Fcy → Fcy) : (s.onFcy f).cmp = s.cmp := rfl
@[simp] theorem State.ing_onFcy (s : State) (f : Fcy → Fcy) : (s.onFcy f).ing = s.ing := rfl
@[simp] theorem State.opr_onFcy (s : State) (f : Fcy → Fcy) : (s.onFcy f).opr = s.opr := rfl
@[simp] theorem State.cnu_onFcy (s : State) (f : Fcy → Fcy) : (s.onFcy f).cnu = s.cnu := rfl
@[simp] theorem State.pending_onFcy (s : State) (f : Fcy → Fcy) : (s.onFcy f).pending = s.pending := rfl

/-! ### onFsw -/

@[simp] theorem State.power_onFsw (s : State) (f : Fsw → Fsw) : (s.onFsw f).power = s.power := rfl
@[simp] theorem State.palarm_onFsw (s : State) (f : Fsw → Fsw) : (s.onFsw f).palarm = s.palarm := rfl
@[simp] theorem State.fcy_onFsw (s : State) (f : Fsw → Fsw) : (s.onFsw f).fcy = s.fcy := rfl
@[simp] theorem State.fsw_onFsw (s : State) (f : Fsw → Fsw) : (s.onFsw f).fsw = f s.fsw := rfl
@[simp] theorem State.fst_onFsw (s : State) (f : Fsw → Fsw) : (s.onFsw f).fst = s.fst := rfl
@[simp] theorem State.pln_onFsw (s : State) (f : Fsw → Fsw) : (s.onFsw f).pln = s.pln := rfl
@[simp] theorem State.tke_onFsw (s : State) (f : Fsw → Fsw) : (s.onFsw f).tke = s.tke := rfl
@[simp] theorem State.cmp_onFsw (s : State) (f : Fsw → Fsw) : (s.onFsw f).cmp = s.cmp := rfl
@[simp] theorem State.ing_onFsw (s : State) (f : Fsw → Fsw) : (s.onFsw f).ing = s.ing := rfl
@[simp] theorem State.opr_onFsw (s : State) (f : Fsw → Fsw) : (s.onFsw f).opr = s.opr := rfl
@[simp] theorem State.cnu_onFsw (s : State) (f : Fsw → Fsw) : (s.onFsw f).cnu = s.cnu := rfl
@[simp] theorem State.pending_onFsw (s : State) (f : Fsw → Fsw) : (s.onFsw f).pending = s.pending := rfl

/-! ### onFst -/

@[simp] theorem State.power_onFst (s : State) (f : Fst → Fst) : (s.onFst f).power = s.power := rfl
@[simp] theorem State.palarm_onFst (s : State) (f : Fst → Fst) : (s.onFst f).palarm = s.palarm := rfl
@[simp] theorem State.fcy_onFst (s : State) (f : Fst → Fst) : (s.onFst f).fcy = s.fcy := rfl
@[simp] theorem State.fsw_onFst (s : State) (f : Fst → Fst) : (s.onFst f).fsw = s.fsw := rfl
@[simp] theorem State.fst_onFst (s : State) (f : Fst → Fst) : (s.onFst f).fst = f s.fst := rfl
@[simp] theorem State.pln_onFst (s : State) (f : Fst → Fst) : (s.onFst f).pln = s.pln := rfl
@[simp] theorem State.tke_onFst (s : State) (f : Fst → Fst) : (s.onFst f).tke = s.tke := rfl
@[simp] theorem State.cmp_onFst (s : State) (f : Fst → Fst) : (s.onFst f).cmp = s.cmp := rfl
@[simp] theorem State.ing_onFst (s : State) (f : Fst → Fst) : (s.onFst f).ing = s.ing := rfl
@[simp] theorem State.opr_onFst (s : State) (f : Fst → Fst) : (s.onFst f).opr = s.opr := rfl
@[simp] theorem State.cnu_onFst (s : State) (f : Fst → Fst) : (s.onFst f).cnu = s.cnu := rfl
@[simp] theorem State.pending_onFst (s : State) (f : Fst → Fst) : (s.onFst f).pending = s.pending := rfl

/-! ### onPln -/

@[simp] theorem State.power_onPln (s : State) (f : Pln → Pln) : (s.onPln f).power = s.power := rfl
@[simp] theorem State.palarm_onPln (s : State) (f : Pln → Pln) : (s.onPln f).palarm = s.palarm := rfl
@[simp] theorem State.fcy_onPln (s : State) (f : Pln → Pln) : (s.onPln f).fcy = s.fcy := rfl
@[simp] theorem State.fsw_onPln (s : State) (f : Pln → Pln) : (s.onPln f).fsw = s.fsw := rfl
@[simp] theorem State.fst_onPln (s : State) (f : Pln → Pln) : (s.onPln f).fst = s.fst := rfl
@[simp] theorem State.pln_onPln (s : State) (f : Pln → Pln) : (s.onPln f).pln = f s.pln := rfl
@[simp] theorem State.tke_onPln (s : State) (f : Pln → Pln) : (s.onPln f).tke = s.tke := rfl
@[simp] theorem State.cmp_onPln (s : State) (f : Pln → Pln) : (s.onPln f).cmp = s.cmp := rfl
@[simp] theorem State.ing_onPln (s : State) (f : Pln → Pln) : (s.onPln f).ing = s.ing := rfl
@[simp] theorem State.opr_onPln (s : State) (f : Pln → Pln) : (s.onPln f).opr = s.opr := rfl
@[simp] theorem State.cnu_onPln (s : State) (f : Pln → Pln) : (s.onPln f).cnu = s.cnu := rfl
@[simp] theorem State.pending_onPln (s : State) (f : Pln → Pln) : (s.onPln f).pending = s.pending := rfl

/-! ### onTke -/

@[simp] theorem State.power_onTke (s : State) (f : Tke → Tke) : (s.onTke f).power = s.power := rfl
@[simp] theorem State.palarm_onTke (s : State) (f : Tke → Tke) : (s.onTke f).palarm = s.palarm := rfl
@[simp] theorem State.fcy_onTke (s : State) (f : Tke → Tke) : (s.onTke f).fcy = s.fcy := rfl
@[simp] theorem State.fsw_onTke (s : State) (f : Tke → Tke) : (s.onTke f).fsw = s.fsw := rfl
@[simp] theorem State.fst_onTke (s : State) (f : Tke → Tke) : (s.onTke f).fst = s.fst := rfl
@[simp] theorem State.pln_onTke (s : State) (f : Tke → Tke) : (s.onTke f).pln = s.pln := rfl
@[simp] theorem State.tke_onTke (s : State) (f : Tke → Tke) : (s.onTke f).tke = f s.tke := rfl
@[simp] theorem State.cmp_onTke (s : State) (f : Tke → Tke) : (s.onTke f).cmp = s.cmp := rfl
@[simp] theorem State.ing_onTke (s : State) (f : Tke → Tke) : (s.onTke f).ing = s.ing := rfl
@[simp] theorem State.opr_onTke (s : State) (f : Tke → Tke) : (s.onTke f).opr = s.opr := rfl
@[simp] theorem State.cnu_onTke (s : State) (f : Tke → Tke) : (s.onTke f).cnu = s.cnu := rfl
@[simp] theorem State.pending_onTke (s : State) (f : Tke → Tke) : (s.onTke f).pending = s.pending := rfl

/-! ### onCmp -/

@[simp] theorem State.power_onCmp (s : State) (f : Cmp → Cmp) : (s.onCmp f).power = s.power := rfl
@[simp] theorem State.palarm_onCmp (s : State) (f : Cmp → Cmp) : (s.onCmp f).palarm = s.palarm := rfl
@[simp] theorem State.fcy_onCmp (s : State) (f : Cmp → Cmp) : (s.onCmp f).fcy = s.fcy := rfl
@[simp] theorem State.fsw_onCmp (s : State) (f : Cmp → Cmp) : (s.onCmp f).fsw = s.fsw := rfl
@[simp] theorem State.fst_onCmp (s : State) (f : Cmp → Cmp) : (s.onCmp f).fst = s.fst := rfl
@[simp] theorem State.pln_onCmp (s : State) (f : Cmp → Cmp) : (s.onCmp f).pln = s.pln := rfl
@[simp] theorem State.tke_onCmp (s : State) (f : Cmp → Cmp) : (s.onCmp f).tke = s.tke := rfl
@[simp] theorem State.cmp_onCmp (s : State) (f : Cmp → Cmp) : (s.onCmp f).cmp = f s.cmp := rfl
@[simp] theorem State.ing_onCmp (s : State) (f : Cmp → Cmp) : (s.onCmp f).ing = s.ing := rfl
@[simp] theorem State.opr_onCmp (s : State) (f : Cmp → Cmp) : (s.onCmp f).opr = s.opr := rfl
@[simp] theorem State.cnu_onCmp (s : State) (f : Cmp → Cmp) : (s.onCmp f).cnu = s.cnu := rfl
@[simp] theorem State.pending_onCmp (s : State) (f : Cmp → Cmp) : (s.onCmp f).pending = s.pending := rfl

/-! ### onIng -/

@[simp] theorem State.power_onIng (s : State) (f : Ing → Ing) : (s.onIng f).power = s.power := rfl
@[simp] theorem State.palarm_onIng (s : State) (f : Ing → Ing) : (s.onIng f).palarm = s.palarm := rfl
@[simp] theorem State.fcy_onIng (s : State) (f : Ing → Ing) : (s.onIng f).fcy = s.fcy := rfl
@[simp] theorem State.fsw_onIng (s : State) (f : Ing → Ing) : (s.onIng f).fsw = s.fsw := rfl
@[simp] theorem State.fst_onIng (s : State) (f : Ing → Ing) : (s.onIng f).fst = s.fst := rfl
@[simp] theorem State.pln_onIng (s : State) (f : Ing → Ing) : (s.onIng f).pln = s.pln := rfl
@[simp] theorem State.tke_onIng (s : State) (f : Ing → Ing) : (s.onIng f).tke = s.tke := rfl
@[simp] theorem State.cmp_onIng (s : State) (f : Ing → Ing) : (s.onIng f).cmp = s.cmp := rfl
@[simp] theorem State.ing_onIng (s : State) (f : Ing → Ing) : (s.onIng f).ing = f s.ing := rfl
@[simp] theorem State.opr_onIng (s : State) (f : Ing → Ing) : (s.onIng f).opr = s.opr := rfl
@[simp] theorem State.cnu_onIng (s : State) (f : Ing → Ing) : (s.onIng f).cnu = s.cnu := rfl
@[simp] theorem State.pending_onIng (s : State) (f : Ing → Ing) : (s.onIng f).pending = s.pending := rfl

/-! ### onOpr -/

@[simp] theorem State.power_onOpr (s : State) (f : Opr → Opr) : (s.onOpr f).power = s.power := rfl
@[simp] theorem State.palarm_onOpr (s : State) (f : Opr → Opr) : (s.onOpr f).palarm = s.palarm := rfl
@[simp] theorem State.fcy_onOpr (s : State) (f : Opr → Opr) : (s.onOpr f).fcy = s.fcy := rfl
@[simp] theorem State.fsw_onOpr (s : State) (f : Opr → Opr) : (s.onOpr f).fsw = s.fsw := rfl
@[simp] theorem State.fst_onOpr (s : State) (f : Opr → Opr) : (s.onOpr f).fst = s.fst := rfl
@[simp] theorem State.pln_onOpr (s : State) (f : Opr → Opr) : (s.onOpr f).pln = s.pln := rfl
@[simp] theorem State.tke_onOpr (s : State) (f : Opr → Opr) : (s.onOpr f).tke = s.tke := rfl
@[simp] theorem State.cmp_onOpr (s : State) (f : Opr → Opr) : (s.onOpr f).cmp = s.cmp := rfl
@[simp] theorem State.ing_onOpr (s : State) (f : Opr → Opr) : (s.onOpr f).ing = s.ing := rfl
@[simp] theorem State.opr_onOpr (s : State) (f : Opr → Opr) : (s.onOpr f).opr = f s.opr := rfl
@[simp] theorem State.cnu_onOpr (s : State) (f : Opr → Opr) : (s.onOpr f).cnu = s.cnu := rfl
@[simp] theorem State.pending_onOpr (s : State) (f : Opr → Opr) : (s.onOpr f).pending = s.pending := rfl

/-! ### onCnu -/

@[simp] theorem State.power_onCnu (s : State) (f : Cnu → Cnu) : (s.onCnu f).power = s.power := rfl
@[simp] theorem State.palarm_onCnu (s : State) (f : Cnu → Cnu) : (s.onCnu f).palarm = s.palarm := rfl
@[simp] theorem State.fcy_onCnu (s : State) (f : Cnu → Cnu) : (s.onCnu f).fcy = s.fcy := rfl
@[simp] theorem State.fsw_onCnu (s : State) (f : Cnu → Cnu) : (s.onCnu f).fsw = s.fsw := rfl
@[simp] theorem State.fst_onCnu (s : State) (f : Cnu → Cnu) : (s.onCnu f).fst = s.fst := rfl
@[simp] theorem State.pln_onCnu (s : State) (f : Cnu → Cnu) : (s.onCnu f).pln = s.pln := rfl
@[simp] theorem State.tke_onCnu (s : State) (f : Cnu → Cnu) : (s.onCnu f).tke = s.tke := rfl
@[simp] theorem State.cmp_onCnu (s : State) (f : Cnu → Cnu) : (s.onCnu f).cmp = s.cmp := rfl
@[simp] theorem State.ing_onCnu (s : State) (f : Cnu → Cnu) : (s.onCnu f).ing = s.ing := rfl
@[simp] theorem State.opr_onCnu (s : State) (f : Cnu → Cnu) : (s.onCnu f).opr = s.opr := rfl
@[simp] theorem State.cnu_onCnu (s : State) (f : Cnu → Cnu) : (s.onCnu f).cnu = f s.cnu := rfl
@[simp] theorem State.pending_onCnu (s : State) (f : Cnu → Cnu) : (s.onCnu f).pending = s.pending := rfl

/-! ### withPending -/

@[simp] theorem State.power_withPending (s : State) (q : List Instr) : (s.withPending q).power = s.power := rfl
@[simp] theorem State.palarm_withPending (s : State) (q : List Instr) : (s.withPending q).palarm = s.palarm := rfl
@[simp] theorem State.fcy_withPending (s : State) (q : List Instr) : (s.withPending q).fcy = s.fcy := rfl
@[simp] theorem State.fsw_withPending (s : State) (q : List Instr) : (s.withPending q).fsw = s.fsw := rfl
@[simp] theorem State.fst_withPending (s : State) (q : List Instr) : (s.withPending q).fst = s.fst := rfl
@[simp] theorem State.pln_withPending (s : State) (q : List Instr) : (s.withPending q).pln = s.pln := rfl
@[simp] theorem State.tke_withPending (s : State) (q : List Instr) : (s.withPending q).tke = s.tke := rfl
@[simp] theorem State.cmp_withPending (s : State) (q : List Instr) : (s.withPending q).cmp = s.cmp := rfl
@[simp] theorem State.ing_withPending (s : State) (q : List Instr) : (s.withPending q).ing = s.ing := rfl
@[simp] theorem State.opr_withPending (s : State) (q : List Instr) : (s.withPending q).opr = s.opr := rfl
@[simp] theorem State.cnu_withPending (s : State) (q : List Instr) : (s.withPending q).cnu = s.cnu := rfl
@[simp] theorem State.pending_withPending (s : State) (q : List Instr) : (s.withPending q).pending = q := rfl

/-! ### One value for each port -/

@[simp] theorem PerPort.get_set_same {α : Type} (v : PerPort α) (p : Port) (x : α) : (v.set p x).get p = x := by
  cases p <;> rfl

@[simp] theorem PerPort.get_set_other {α : Type} (v : PerPort α) (p : Port) (x : α) :
    (v.set p x).get p.other = v.get p.other := by
  cases p <;> rfl

theorem PerPort.get_set {α : Type} (v : PerPort α) (p q : Port) (x : α) :
    (v.set p x).get q = if p = q then x else v.get q := by
  cases p <;> cases q <;> rfl

@[simp] theorem PerPort.get_both {α : Type} (x : α) (p : Port) : (PerPort.both x).get p = x := by
  cases p <;> rfl

@[simp] theorem PerPort.set_set {α : Type} (v : PerPort α) (p : Port) (x y : α) :
    (v.set p x).set p y = v.set p y := by
  cases p <;> rfl

@[simp] theorem PerPort.set_get {α : Type} (v : PerPort α) (p : Port) : v.set p (v.get p) = v := by
  cases p <;> rfl

@[simp] theorem Port.other_other (p : Port) : p.other.other = p := by
  cases p <;> rfl

@[simp] theorem Port.other_ne (p : Port) : p.other ≠ p := by
  cases p <;> decide

@[simp] theorem Port.ne_other (p : Port) : p ≠ p.other := by
  cases p <;> decide

/-! ### One value for each counter -/

@[simp] theorem PerCounter.get_set_same {α : Type} (v : PerCounter α) (c : Counter) (x : α) :
    (v.set c x).get c = x := by
  cases c <;> rfl

theorem PerCounter.get_set {α : Type} (v : PerCounter α) (c k : Counter) (x : α) :
    (v.set c x).get k = if c = k then x else v.get k := by
  cases c <;> cases k <;> rfl

@[simp] theorem PerCounter.get_all {α : Type} (x : α) (c : Counter) : (PerCounter.all x).get c = x := by
  cases c <;> rfl

end Sys2Proof.Machine
end

