-- ==== Sys2Proof/Laws/Frames.lean ====
section
/-! SUPPORT. Laws/Frames.lean: for each shared operation one lemma that says which fields of the state it leaves, so that
a proof about one block passes over the work of the others. -/

namespace Sys2Proof.Machine

set_option Elab.async false

/-! ### Notices, causes and counters touch CNU alone -/

@[simp] theorem raiseFault_keeps (add : Causes → Causes) (s : State) :
    (raiseFault add s).power = s.power ∧ (raiseFault add s).palarm = s.palarm ∧
    (raiseFault add s).fcy = s.fcy ∧ (raiseFault add s).fsw = s.fsw ∧ (raiseFault add s).fst = s.fst ∧
    (raiseFault add s).pln = s.pln ∧ (raiseFault add s).tke = s.tke ∧ (raiseFault add s).cmp = s.cmp ∧
    (raiseFault add s).ing = s.ing ∧ (raiseFault add s).opr = s.opr ∧
    (raiseFault add s).pending = s.pending := by
  simp [raiseFault]

@[simp] theorem raiseRun_keeps (s : State) :
    (raiseRun s).power = s.power ∧ (raiseRun s).palarm = s.palarm ∧ (raiseRun s).fcy = s.fcy ∧
    (raiseRun s).fsw = s.fsw ∧ (raiseRun s).fst = s.fst ∧ (raiseRun s).pln = s.pln ∧ (raiseRun s).tke = s.tke ∧
    (raiseRun s).cmp = s.cmp ∧ (raiseRun s).ing = s.ing ∧ (raiseRun s).opr = s.opr ∧
    (raiseRun s).pending = s.pending := by
  simp [raiseRun]

@[simp] theorem raiseStep_keeps (s : State) :
    (raiseStep s).power = s.power ∧ (raiseStep s).palarm = s.palarm ∧ (raiseStep s).fcy = s.fcy ∧
    (raiseStep s).fsw = s.fsw ∧ (raiseStep s).fst = s.fst ∧ (raiseStep s).pln = s.pln ∧
    (raiseStep s).tke = s.tke ∧ (raiseStep s).cmp = s.cmp ∧ (raiseStep s).ing = s.ing ∧
    (raiseStep s).opr = s.opr ∧ (raiseStep s).pending = s.pending := by
  simp [raiseStep]

@[simp] theorem raiseHold_keeps (p : Port) (s : State) :
    (raiseHold p s).power = s.power ∧ (raiseHold p s).palarm = s.palarm ∧ (raiseHold p s).fcy = s.fcy ∧
    (raiseHold p s).fsw = s.fsw ∧ (raiseHold p s).fst = s.fst ∧ (raiseHold p s).pln = s.pln ∧
    (raiseHold p s).tke = s.tke ∧ (raiseHold p s).cmp = s.cmp ∧ (raiseHold p s).ing = s.ing ∧
    (raiseHold p s).opr = s.opr ∧ (raiseHold p s).pending = s.pending := by
  simp [raiseHold]

@[simp] theorem updateRaised_keeps (p : Port) (f : Raised → Raised) (s : State) :
    (updateRaised p f s).power = s.power ∧ (updateRaised p f s).palarm = s.palarm ∧
    (updateRaised p f s).fcy = s.fcy ∧ (updateRaised p f s).fsw = s.fsw ∧ (updateRaised p f s).fst = s.fst ∧
    (updateRaised p f s).pln = s.pln ∧ (updateRaised p f s).tke = s.tke ∧ (updateRaised p f s).cmp = s.cmp ∧
    (updateRaised p f s).ing = s.ing ∧ (updateRaised p f s).opr = s.opr ∧
    (updateRaised p f s).pending = s.pending := by
  simp [updateRaised]

@[simp] theorem testTrip_keeps (c : Counter) (s : State) :
    (testTrip c s).power = s.power ∧ (testTrip c s).palarm = s.palarm ∧ (testTrip c s).fcy = s.fcy ∧
    (testTrip c s).fsw = s.fsw ∧ (testTrip c s).fst = s.fst ∧ (testTrip c s).pln = s.pln ∧
    (testTrip c s).tke = s.tke ∧ (testTrip c s).cmp = s.cmp ∧ (testTrip c s).ing = s.ing ∧
    (testTrip c s).opr = s.opr ∧ (testTrip c s).pending = s.pending := by
  unfold testTrip; split <;> simp

@[simp] theorem increase_keeps (c : Counter) (s : State) :
    (increase c s).power = s.power ∧ (increase c s).palarm = s.palarm ∧ (increase c s).fcy = s.fcy ∧
    (increase c s).fsw = s.fsw ∧ (increase c s).fst = s.fst ∧ (increase c s).pln = s.pln ∧
    (increase c s).tke = s.tke ∧ (increase c s).cmp = s.cmp ∧ (increase c s).ing = s.ing ∧
    (increase c s).opr = s.opr ∧ (increase c s).pending = s.pending := by
  simp [increase]

/-! ### Requests and replies -/

@[simp] theorem endFrame_keeps (p : Port) (s : State) :
    (endFrame p s).power = s.power ∧ (endFrame p s).palarm = s.palarm ∧ (endFrame p s).fcy = s.fcy ∧
    (endFrame p s).fsw = s.fsw ∧ (endFrame p s).fst = s.fst ∧ (endFrame p s).pln = s.pln ∧
    (endFrame p s).tke = s.tke ∧ (endFrame p s).cmp = s.cmp ∧ (endFrame p s).ing = s.ing ∧
    (endFrame p s).opr = s.opr ∧ (endFrame p s).pending = s.pending := by
  simp [endFrame]

@[simp] theorem sendReply_keeps (p : Port) (r : Reply) (s : State) :
    (sendReply p r s).power = s.power ∧ (sendReply p r s).palarm = s.palarm ∧ (sendReply p r s).fcy = s.fcy ∧
    (sendReply p r s).fsw = s.fsw ∧ (sendReply p r s).fst = s.fst ∧ (sendReply p r s).pln = s.pln ∧
    (sendReply p r s).tke = s.tke ∧ (sendReply p r s).cmp = s.cmp ∧ (sendReply p r s).ing = s.ing ∧
    (sendReply p r s).opr = s.opr ∧ (sendReply p r s).pending = s.pending := by
  simp [sendReply]

@[simp] theorem holdReply_keeps (p : Port) (r : Reply) (s : State) :
    (holdReply p r s).power = s.power ∧ (holdReply p r s).palarm = s.palarm ∧ (holdReply p r s).fcy = s.fcy ∧
    (holdReply p r s).fsw = s.fsw ∧ (holdReply p r s).fst = s.fst ∧ (holdReply p r s).pln = s.pln ∧
    (holdReply p r s).tke = s.tke ∧ (holdReply p r s).cmp = s.cmp ∧ (holdReply p r s).ing = s.ing ∧
    (holdReply p r s).opr = s.opr ∧ (holdReply p r s).pending = s.pending := by
  unfold holdReply; split <;> simp

@[simp] theorem postReply_keeps (p : Port) (r : Reply) (s : State) :
    (postReply p r s).power = s.power ∧ (postReply p r s).palarm = s.palarm ∧ (postReply p r s).fcy = s.fcy ∧
    (postReply p r s).fsw = s.fsw ∧ (postReply p r s).fst = s.fst ∧ (postReply p r s).pln = s.pln ∧
    (postReply p r s).tke = s.tke ∧ (postReply p r s).cmp = s.cmp ∧ (postReply p r s).ing = s.ing ∧
    (postReply p r s).opr = s.opr ∧ (postReply p r s).pending = s.pending := by
  unfold postReply; split <;> simp

/-! ### Takes -/

@[simp] theorem recordCompletion_keeps (c : Completion) (s : State) :
    (recordCompletion c s).power = s.power ∧ (recordCompletion c s).palarm = s.palarm ∧
    (recordCompletion c s).fcy = s.fcy ∧ (recordCompletion c s).fsw = s.fsw ∧
    (recordCompletion c s).fst = s.fst ∧ (recordCompletion c s).pln = s.pln ∧
    (recordCompletion c s).cmp = s.cmp ∧ (recordCompletion c s).ing = s.ing ∧
    (recordCompletion c s).opr = s.opr ∧ (recordCompletion c s).cnu = s.cnu ∧
    (recordCompletion c s).pending = s.pending := by
  simp [recordCompletion]

@[simp] theorem completeTake_keeps (e : TakeEntry) (status : TakeStatus) (applied : Word32) (s : State) :
    (completeTake e status applied s).power = s.power ∧ (completeTake e status applied s).palarm = s.palarm ∧
    (completeTake e status applied s).fcy = s.fcy ∧ (completeTake e status applied s).fsw = s.fsw ∧
    (completeTake e status applied s).fst = s.fst ∧ (completeTake e status applied s).pln = s.pln ∧
    (completeTake e status applied s).cmp = s.cmp ∧ (completeTake e status applied s).ing = s.ing ∧
    (completeTake e status applied s).opr = s.opr ∧ (completeTake e status applied s).cnu = s.cnu ∧
    (completeTake e status applied s).pending = s.pending := by
  simp [completeTake]

@[simp] theorem completeJoined_keeps (status : TakeStatus) (applied : Word32) (s : State) (j : JoinedEntry) :
    (completeJoined status applied s j).power = s.power ∧
    (completeJoined status applied s j).palarm = s.palarm ∧ (completeJoined status applied s j).fcy = s.fcy ∧
    (completeJoined status applied s j).fsw = s.fsw ∧ (completeJoined status applied s j).fst = s.fst ∧
    (completeJoined status applied s j).pln = s.pln ∧ (completeJoined status applied s j).cmp = s.cmp ∧
    (completeJoined status applied s j).ing = s.ing ∧ (completeJoined status applied s j).opr = s.opr ∧
    (completeJoined status applied s j).cnu = s.cnu ∧
    (completeJoined status applied s j).pending = s.pending := by
  unfold completeJoined; split <;> simp

@[simp] theorem markEntry_keeps (e : TakeEntry) (st : EntryState) (s : State) :
    (markEntry e st s).power = s.power ∧ (markEntry e st s).palarm = s.palarm ∧
    (markEntry e st s).fcy = s.fcy ∧ (markEntry e st s).fsw = s.fsw ∧ (markEntry e st s).fst = s.fst ∧
    (markEntry e st s).pln = s.pln ∧ (markEntry e st s).cmp = s.cmp ∧ (markEntry e st s).ing = s.ing ∧
    (markEntry e st s).opr = s.opr ∧ (markEntry e st s).cnu = s.cnu ∧
    (markEntry e st s).pending = s.pending := by
  simp [markEntry]

@[simp] theorem supersedeEntry_keeps (e : TakeEntry) (s : State) :
    (supersedeEntry e s).power = s.power ∧ (supersedeEntry e s).palarm = s.palarm ∧
    (supersedeEntry e s).fcy = s.fcy ∧ (supersedeEntry e s).fsw = s.fsw ∧ (supersedeEntry e s).fst = s.fst ∧
    (supersedeEntry e s).pln = s.pln ∧ (supersedeEntry e s).cmp = s.cmp ∧ (supersedeEntry e s).ing = s.ing ∧
    (supersedeEntry e s).opr = s.opr ∧ (supersedeEntry e s).cnu = s.cnu ∧
    (supersedeEntry e s).pending = s.pending := by
  unfold supersedeEntry; split <;> simp

@[simp] theorem supersede_keeps (s : State) :
    (supersede s).power = s.power ∧ (supersede s).palarm = s.palarm ∧ (supersede s).fcy = s.fcy ∧
    (supersede s).fsw = s.fsw ∧ (supersede s).fst = s.fst ∧ (supersede s).pln = s.pln ∧
    (supersede s).cmp = s.cmp ∧ (supersede s).ing = s.ing ∧ (supersede s).opr = s.opr ∧
    (supersede s).cnu = s.cnu ∧ (supersede s).pending = s.pending := by
  unfold supersede; split <;> simp

@[simp] theorem onAirPlan_keeps (f : Plan → Plan) (s : State) :
    (onAirPlan f s).power = s.power ∧ (onAirPlan f s).palarm = s.palarm ∧ (onAirPlan f s).fcy = s.fcy ∧
    (onAirPlan f s).fsw = s.fsw ∧ (onAirPlan f s).fst = s.fst ∧ (onAirPlan f s).tke = s.tke ∧
    (onAirPlan f s).cmp = s.cmp ∧ (onAirPlan f s).ing = s.ing ∧ (onAirPlan f s).opr = s.opr ∧
    (onAirPlan f s).cnu = s.cnu ∧ (onAirPlan f s).pending = s.pending := by
  simp [onAirPlan]

@[simp] theorem takeStep_keeps (e : TakeEntry) (r : SweepRecord) (status : TakeStatus) (applied : Word32) (s : State) :
    (takeStep e r status applied s).power = s.power ∧ (takeStep e r status applied s).palarm = s.palarm ∧
    (takeStep e r status applied s).fcy = s.fcy ∧ (takeStep e r status applied s).fsw = s.fsw ∧
    (takeStep e r status applied s).fst = s.fst ∧ (takeStep e r status applied s).cmp = s.cmp ∧
    (takeStep e r status applied s).ing = s.ing ∧ (takeStep e r status applied s).opr = s.opr ∧
    (takeStep e r status applied s).cnu = s.cnu ∧ (takeStep e r status applied s).pending = s.pending := by
  unfold takeStep; simp only []; split <;> simp

@[simp] theorem applyCut_keeps (e : TakeEntry) (s : State) :
    (applyCut e s).power = s.power ∧ (applyCut e s).palarm = s.palarm ∧ (applyCut e s).fcy = s.fcy ∧
    (applyCut e s).fsw = s.fsw ∧ (applyCut e s).fst = s.fst ∧ (applyCut e s).cmp = s.cmp ∧
    (applyCut e s).ing = s.ing ∧ (applyCut e s).opr = s.opr ∧ (applyCut e s).cnu = s.cnu ∧
    (applyCut e s).pending = s.pending := by
  simp [applyCut]

@[simp] theorem applySwept_keeps (n : Nat) (e : TakeEntry) (s : State) :
    (applySwept n e s).power = s.power ∧ (applySwept n e s).palarm = s.palarm ∧
    (applySwept n e s).fcy = s.fcy ∧ (applySwept n e s).fsw = s.fsw ∧ (applySwept n e s).fst = s.fst ∧
    (applySwept n e s).cmp = s.cmp ∧ (applySwept n e s).ing = s.ing ∧ (applySwept n e s).opr = s.opr ∧
    (applySwept n e s).cnu = s.cnu ∧ (applySwept n e s).pending = s.pending := by
  simp [applySwept]

@[simp] theorem applySweep_keeps (n : Nat) (target : Word32) (e : TakeEntry) (s : State) :
    (applySweep n target e s).power = s.power ∧ (applySweep n target e s).palarm = s.palarm ∧
    (applySweep n target e s).fcy = s.fcy ∧ (applySweep n target e s).fsw = s.fsw ∧
    (applySweep n target e s).fst = s.fst ∧ (applySweep n target e s).cmp = s.cmp ∧
    (applySweep n target e s).ing = s.ing ∧ (applySweep n target e s).opr = s.opr ∧
    (applySweep n target e s).cnu = s.cnu ∧ (applySweep n target e s).pending = s.pending := by
  simp [applySweep]

/-- A deal of the first pass touches the takes, the air plan, the wind store and the line mode. -/
@[simp] theorem applyEntry_keeps (acc : State × Nat) (e : TakeEntry) :
    (applyEntry acc e).1.power = acc.1.power ∧ (applyEntry acc e).1.palarm = acc.1.palarm ∧
    (applyEntry acc e).1.fcy = acc.1.fcy ∧ (applyEntry acc e).1.fst = acc.1.fst ∧
    (applyEntry acc e).1.cmp = acc.1.cmp ∧ (applyEntry acc e).1.ing = acc.1.ing ∧
    (applyEntry acc e).1.cnu = acc.1.cnu ∧ (applyEntry acc e).1.pending = acc.1.pending := by
  unfold applyEntry
  simp only []
  repeat' split
  all_goals simp

/-- A property that every deal of the first pass keeps holds after the pass. -/
theorem foldl_applyEntry {P : State → Prop} (h : ∀ acc e, P acc.1 → P (applyEntry acc e).1) (l : List TakeEntry) :
    ∀ acc : State × Nat, P acc.1 → P (l.foldl applyEntry acc).1 := by
  induction l with
  | nil => intro acc hp; exact hp
  | cons e rest ih => intro acc hp; exact ih _ (h acc e hp)

@[simp] theorem stepSweep_keeps (before : Option TakeEntry) (s : State) :
    (stepSweep before s).power = s.power ∧ (stepSweep before s).palarm = s.palarm ∧
    (stepSweep before s).fcy = s.fcy ∧ (stepSweep before s).fsw = s.fsw ∧ (stepSweep before s).fst = s.fst ∧
    (stepSweep before s).cmp = s.cmp ∧ (stepSweep before s).ing = s.ing ∧ (stepSweep before s).opr = s.opr ∧
    (stepSweep before s).cnu = s.cnu ∧ (stepSweep before s).pending = s.pending := by
  unfold stepSweep
  split
  · simp
  · split
    · simp
    · split <;> simp

/-- The take engine's passes leave the cycle, the tide and coast store, the composer, the ingest unit and the ports. -/
@[simp] theorem applyTakes_keeps (s : State) (n : Nat) :
    (applyTakes s n).1.power = s.power ∧ (applyTakes s n).1.palarm = s.palarm ∧ (applyTakes s n).1.fcy = s.fcy ∧
    (applyTakes s n).1.fst = s.fst ∧ (applyTakes s n).1.cmp = s.cmp ∧ (applyTakes s n).1.ing = s.ing ∧
    (applyTakes s n).1.cnu = s.cnu ∧ (applyTakes s n).1.pending = s.pending := by
  have h := foldl_applyEntry (P := fun t => t.power = s.power ∧ t.palarm = s.palarm ∧ t.fcy = s.fcy ∧ t.fst = s.fst ∧
    t.cmp = s.cmp ∧ t.ing = s.ing ∧ t.cnu = s.cnu ∧ t.pending = s.pending)
    (by intro acc e hp; simpa using hp) (dueEntries s) (s, n) (by simp)
  simpa [applyTakes] using h

@[simp] theorem setTsCode_keeps (applied : Nat) (s : State) :
    (setTsCode applied s).power = s.power ∧ (setTsCode applied s).palarm = s.palarm ∧
    (setTsCode applied s).fcy = s.fcy ∧ (setTsCode applied s).fsw = s.fsw ∧ (setTsCode applied s).fst = s.fst ∧
    (setTsCode applied s).pln = s.pln ∧ (setTsCode applied s).cmp = s.cmp ∧ (setTsCode applied s).ing = s.ing ∧
    (setTsCode applied s).opr = s.opr ∧ (setTsCode applied s).cnu = s.cnu ∧
    (setTsCode applied s).pending = s.pending := by
  simp [setTsCode]

/-! ### The pair unit -/

@[simp] theorem setRole_keeps (r : Role) (s : State) :
    (setRole r s).power = s.power ∧ (setRole r s).palarm = s.palarm ∧ (setRole r s).fcy = s.fcy ∧
    (setRole r s).fsw = s.fsw ∧ (setRole r s).fst = s.fst ∧ (setRole r s).pln = s.pln ∧
    (setRole r s).tke = s.tke ∧ (setRole r s).cmp = s.cmp ∧ (setRole r s).ing = s.ing ∧
    (setRole r s).cnu = s.cnu ∧ (setRole r s).pending = s.pending := by
  simp [setRole]

@[simp] theorem setNegotiation_keeps (n : Option Negotiation) (s : State) :
    (setNegotiation n s).power = s.power ∧ (setNegotiation n s).palarm = s.palarm ∧
    (setNegotiation n s).fcy = s.fcy ∧ (setNegotiation n s).fsw = s.fsw ∧ (setNegotiation n s).fst = s.fst ∧
    (setNegotiation n s).pln = s.pln ∧ (setNegotiation n s).tke = s.tke ∧ (setNegotiation n s).cmp = s.cmp ∧
    (setNegotiation n s).ing = s.ing ∧ (setNegotiation n s).cnu = s.cnu ∧
    (setNegotiation n s).pending = s.pending := by
  simp [setNegotiation]

@[simp] theorem setLink_keeps (l : Option LinkReception) (s : State) :
    (setLink l s).power = s.power ∧ (setLink l s).palarm = s.palarm ∧ (setLink l s).fcy = s.fcy ∧
    (setLink l s).fsw = s.fsw ∧ (setLink l s).fst = s.fst ∧ (setLink l s).pln = s.pln ∧
    (setLink l s).tke = s.tke ∧ (setLink l s).cmp = s.cmp ∧ (setLink l s).ing = s.ing ∧
    (setLink l s).cnu = s.cnu ∧ (setLink l s).pending = s.pending := by
  simp [setLink]

@[simp] theorem leaveStep_keeps (s : State) :
    (leaveStep s).power = s.power ∧ (leaveStep s).palarm = s.palarm ∧ (leaveStep s).fcy = s.fcy ∧
    (leaveStep s).fsw = s.fsw ∧ (leaveStep s).fst = s.fst ∧ (leaveStep s).pln = s.pln ∧
    (leaveStep s).tke = s.tke ∧ (leaveStep s).cmp = s.cmp ∧ (leaveStep s).ing = s.ing ∧
    (leaveStep s).pending = s.pending := by
  unfold leaveStep; split <;> simp

@[simp] theorem losePartner_keeps (s : State) :
    (losePartner s).power = s.power ∧ (losePartner s).palarm = s.palarm ∧ (losePartner s).fcy = s.fcy ∧
    (losePartner s).fsw = s.fsw ∧ (losePartner s).fst = s.fst ∧ (losePartner s).pln = s.pln ∧
    (losePartner s).tke = s.tke ∧ (losePartner s).cmp = s.cmp ∧ (losePartner s).ing = s.ing ∧
    (losePartner s).pending = s.pending := by
  simp [losePartner]

@[simp] theorem partnerPresence_keeps (s : State) :
    (partnerPresence s).power = s.power ∧ (partnerPresence s).palarm = s.palarm ∧
    (partnerPresence s).fcy = s.fcy ∧ (partnerPresence s).fsw = s.fsw ∧ (partnerPresence s).fst = s.fst ∧
    (partnerPresence s).pln = s.pln ∧ (partnerPresence s).tke = s.tke ∧ (partnerPresence s).cmp = s.cmp ∧
    (partnerPresence s).ing = s.ing ∧ (partnerPresence s).pending = s.pending := by
  unfold partnerPresence
  simp only []
  repeat' split
  all_goals simp

@[simp] theorem matchStep_keeps (s : State) :
    (matchStep s).power = s.power ∧ (matchStep s).palarm = s.palarm ∧ (matchStep s).fcy = s.fcy ∧
    (matchStep s).fsw = s.fsw ∧ (matchStep s).fst = s.fst ∧ (matchStep s).pln = s.pln ∧
    (matchStep s).tke = s.tke ∧ (matchStep s).cmp = s.cmp ∧ (matchStep s).ing = s.ing ∧
    (matchStep s).pending = s.pending := by
  unfold matchStep; simp only []; split <;> simp

@[simp] theorem mismatchStep_keeps (s : State) :
    (mismatchStep s).power = s.power ∧ (mismatchStep s).palarm = s.palarm ∧ (mismatchStep s).fcy = s.fcy ∧
    (mismatchStep s).fsw = s.fsw ∧ (mismatchStep s).fst = s.fst ∧ (mismatchStep s).pln = s.pln ∧
    (mismatchStep s).tke = s.tke ∧ (mismatchStep s).cmp = s.cmp ∧ (mismatchStep s).ing = s.ing ∧
    (mismatchStep s).pending = s.pending := by
  unfold mismatchStep; simp only []; split <;> simp

@[simp] theorem stepComparison_keeps (s : State) :
    (stepComparison s).power = s.power ∧ (stepComparison s).palarm = s.palarm ∧
    (stepComparison s).fcy = s.fcy ∧ (stepComparison s).fsw = s.fsw ∧ (stepComparison s).fst = s.fst ∧
    (stepComparison s).pln = s.pln ∧ (stepComparison s).tke = s.tke ∧ (stepComparison s).cmp = s.cmp ∧
    (stepComparison s).ing = s.ing ∧ (stepComparison s).pending = s.pending := by
  unfold stepComparison
  split
  · simp
  · split <;> simp

/-- Joined entries complete in the take engine alone. -/
@[simp] theorem foldl_completeJoined_keeps (status : TakeStatus) (applied : Word32) (l : List JoinedEntry) (s : State) :
    (l.foldl (completeJoined status applied) s).power = s.power ∧
    (l.foldl (completeJoined status applied) s).palarm = s.palarm ∧
    (l.foldl (completeJoined status applied) s).fcy = s.fcy ∧ (l.foldl (completeJoined status applied) s).fsw = s.fsw ∧
    (l.foldl (completeJoined status applied) s).fst = s.fst ∧ (l.foldl (completeJoined status applied) s).pln = s.pln ∧
    (l.foldl (completeJoined status applied) s).cmp = s.cmp ∧ (l.foldl (completeJoined status applied) s).ing = s.ing ∧
    (l.foldl (completeJoined status applied) s).opr = s.opr ∧ (l.foldl (completeJoined status applied) s).cnu = s.cnu ∧
    (l.foldl (completeJoined status applied) s).pending = s.pending := by
  induction l generalizing s with
  | nil => simp
  | cons j rest ih => simp [List.foldl_cons, ih]

@[simp] theorem endNegotiation_keeps (status : TakeStatus) (s : State) :
    (endNegotiation status s).power = s.power ∧ (endNegotiation status s).palarm = s.palarm ∧
    (endNegotiation status s).fcy = s.fcy ∧ (endNegotiation status s).fsw = s.fsw ∧
    (endNegotiation status s).fst = s.fst ∧ (endNegotiation status s).pln = s.pln ∧
    (endNegotiation status s).cmp = s.cmp ∧ (endNegotiation status s).ing = s.ing ∧
    (endNegotiation status s).cnu = s.cnu ∧ (endNegotiation status s).pending = s.pending := by
  unfold endNegotiation; split <;> simp

@[simp] theorem faultIfAutomatic_keeps (n : Negotiation) (s : State) :
    (faultIfAutomatic n s).power = s.power ∧ (faultIfAutomatic n s).palarm = s.palarm ∧
    (faultIfAutomatic n s).fcy = s.fcy ∧ (faultIfAutomatic n s).fsw = s.fsw ∧
    (faultIfAutomatic n s).fst = s.fst ∧ (faultIfAutomatic n s).pln = s.pln ∧
    (faultIfAutomatic n s).tke = s.tke ∧ (faultIfAutomatic n s).cmp = s.cmp ∧
    (faultIfAutomatic n s).ing = s.ing ∧ (faultIfAutomatic n s).opr = s.opr ∧
    (faultIfAutomatic n s).pending = s.pending := by
  unfold faultIfAutomatic; split <;> simp

@[simp] theorem mainCommit_keeps (n : Negotiation) (s : State) :
    (mainCommit n s).power = s.power ∧ (mainCommit n s).palarm = s.palarm ∧ (mainCommit n s).fcy = s.fcy ∧
    (mainCommit n s).fsw = s.fsw ∧ (mainCommit n s).fst = s.fst ∧ (mainCommit n s).pln = s.pln ∧
    (mainCommit n s).cmp = s.cmp ∧ (mainCommit n s).ing = s.ing ∧ (mainCommit n s).pending = s.pending := by
  unfold mainCommit; split <;> simp

@[simp] theorem mainHandOver_keeps (n : Negotiation) (s : State) :
    ((mainHandOver n s).1).power = s.power ∧ ((mainHandOver n s).1).palarm = s.palarm ∧
    ((mainHandOver n s).1).fcy = s.fcy ∧ ((mainHandOver n s).1).fsw = s.fsw ∧
    ((mainHandOver n s).1).fst = s.fst ∧ ((mainHandOver n s).1).pln = s.pln ∧
    ((mainHandOver n s).1).cmp = s.cmp ∧ ((mainHandOver n s).1).ing = s.ing ∧
    ((mainHandOver n s).1).pending = s.pending := by
  unfold mainHandOver; split <;> simp

@[simp] theorem mainSettle_keeps (n : Negotiation) (s : State) :
    (mainSettle n s).power = s.power ∧ (mainSettle n s).palarm = s.palarm ∧ (mainSettle n s).fcy = s.fcy ∧
    (mainSettle n s).fsw = s.fsw ∧ (mainSettle n s).fst = s.fst ∧ (mainSettle n s).pln = s.pln ∧
    (mainSettle n s).cmp = s.cmp ∧ (mainSettle n s).ing = s.ing ∧ (mainSettle n s).pending = s.pending := by
  unfold mainSettle
  split
  · simp
  · split <;> simp

@[simp] theorem standbyAtMinus2_keeps (n : Negotiation) (s : State) :
    (standbyAtMinus2 n s).power = s.power ∧ (standbyAtMinus2 n s).palarm = s.palarm ∧
    (standbyAtMinus2 n s).fcy = s.fcy ∧ (standbyAtMinus2 n s).fsw = s.fsw ∧ (standbyAtMinus2 n s).fst = s.fst ∧
    (standbyAtMinus2 n s).pln = s.pln ∧ (standbyAtMinus2 n s).cmp = s.cmp ∧ (standbyAtMinus2 n s).ing = s.ing ∧
    (standbyAtMinus2 n s).pending = s.pending := by
  unfold standbyAtMinus2; split <;> simp

@[simp] theorem standbyAtMinus1_keeps (n : Negotiation) (s : State) :
    (standbyAtMinus1 n s).power = s.power ∧ (standbyAtMinus1 n s).palarm = s.palarm ∧
    (standbyAtMinus1 n s).fcy = s.fcy ∧ (standbyAtMinus1 n s).fsw = s.fsw ∧ (standbyAtMinus1 n s).fst = s.fst ∧
    (standbyAtMinus1 n s).pln = s.pln ∧ (standbyAtMinus1 n s).cmp = s.cmp ∧ (standbyAtMinus1 n s).ing = s.ing ∧
    (standbyAtMinus1 n s).pending = s.pending := by
  unfold standbyAtMinus1
  split <;> simp

@[simp] theorem standbyTake_keeps (n : Negotiation) (s : State) :
    ((standbyTake n s).1).power = s.power ∧ ((standbyTake n s).1).palarm = s.palarm ∧
    ((standbyTake n s).1).fcy = s.fcy ∧ ((standbyTake n s).1).fsw = s.fsw ∧ ((standbyTake n s).1).fst = s.fst ∧
    ((standbyTake n s).1).pln = s.pln ∧ ((standbyTake n s).1).cmp = s.cmp ∧ ((standbyTake n s).1).ing = s.ing ∧
    ((standbyTake n s).1).pending = s.pending := by
  unfold standbyTake; split <;> simp

@[simp] theorem doStage_keeps (k : Nat) (n : Negotiation) (s : State) :
    ((doStage k n s).1).power = s.power ∧ ((doStage k n s).1).palarm = s.palarm ∧
    ((doStage k n s).1).fcy = s.fcy ∧ ((doStage k n s).1).fsw = s.fsw ∧ ((doStage k n s).1).fst = s.fst ∧
    ((doStage k n s).1).pln = s.pln ∧ ((doStage k n s).1).cmp = s.cmp ∧ ((doStage k n s).1).ing = s.ing ∧
    ((doStage k n s).1).pending = s.pending := by
  unfold doStage; split <;> simp

@[simp] theorem standbyCheck_keeps (s : State) :
    (standbyCheck s).power = s.power ∧ (standbyCheck s).palarm = s.palarm ∧ (standbyCheck s).fcy = s.fcy ∧
    (standbyCheck s).fsw = s.fsw ∧ (standbyCheck s).fst = s.fst ∧ (standbyCheck s).pln = s.pln ∧
    (standbyCheck s).cmp = s.cmp ∧ (standbyCheck s).ing = s.ing ∧ (standbyCheck s).pending = s.pending := by
  unfold standbyCheck
  split
  · simp
  · split <;> simp

@[simp] theorem stageStep_keeps (acc : State × Nat) (k : Nat) :
    ((stageStep acc k).1).power = acc.1.power ∧ ((stageStep acc k).1).palarm = acc.1.palarm ∧
    ((stageStep acc k).1).fcy = acc.1.fcy ∧ ((stageStep acc k).1).fsw = acc.1.fsw ∧ ((stageStep acc k).1).fst = acc.1.fst ∧
    ((stageStep acc k).1).pln = acc.1.pln ∧ ((stageStep acc k).1).cmp = acc.1.cmp ∧ ((stageStep acc k).1).ing = acc.1.ing ∧
    ((stageStep acc k).1).pending = acc.1.pending := by
  unfold stageStep
  split
  · simp
  · split <;> simp

@[simp] theorem negotiationStages_keeps (s : State) :
    ((negotiationStages s).1).power = s.power ∧ ((negotiationStages s).1).palarm = s.palarm ∧
    ((negotiationStages s).1).fcy = s.fcy ∧ ((negotiationStages s).1).fsw = s.fsw ∧
    ((negotiationStages s).1).fst = s.fst ∧ ((negotiationStages s).1).pln = s.pln ∧
    ((negotiationStages s).1).cmp = s.cmp ∧ ((negotiationStages s).1).ing = s.ing ∧
    ((negotiationStages s).1).pending = s.pending := by
  simp [negotiationStages]

@[simp] theorem autoNegotiate_keeps (s : State) :
    (autoNegotiate s).power = s.power ∧ (autoNegotiate s).palarm = s.palarm ∧ (autoNegotiate s).fcy = s.fcy ∧
    (autoNegotiate s).fsw = s.fsw ∧ (autoNegotiate s).fst = s.fst ∧ (autoNegotiate s).pln = s.pln ∧
    (autoNegotiate s).cmp = s.cmp ∧ (autoNegotiate s).ing = s.ing ∧ (autoNegotiate s).pending = s.pending := by
  unfold autoNegotiate; split <;> simp

@[simp] theorem forceRole_keeps (r : Role) (s : State) :
    (forceRole r s).power = s.power ∧ (forceRole r s).palarm = s.palarm ∧ (forceRole r s).fcy = s.fcy ∧
    (forceRole r s).fsw = s.fsw ∧ (forceRole r s).fst = s.fst ∧ (forceRole r s).pln = s.pln ∧
    (forceRole r s).cmp = s.cmp ∧ (forceRole r s).ing = s.ing ∧ (forceRole r s).pending = s.pending := by
  simp [forceRole]

@[simp] theorem forcedTakeover_keeps (s : State) :
    (forcedTakeover s).power = s.power ∧ (forcedTakeover s).palarm = s.palarm ∧
    (forcedTakeover s).fcy = s.fcy ∧ (forcedTakeover s).fsw = s.fsw ∧ (forcedTakeover s).fst = s.fst ∧
    (forcedTakeover s).pln = s.pln ∧ (forcedTakeover s).cmp = s.cmp ∧ (forcedTakeover s).ing = s.ing ∧
    (forcedTakeover s).pending = s.pending := by
  unfold forcedTakeover; split <;> simp

@[simp] theorem selfRelease_keeps (s : State) :
    (selfRelease s).power = s.power ∧ (selfRelease s).palarm = s.palarm ∧ (selfRelease s).fcy = s.fcy ∧
    (selfRelease s).fsw = s.fsw ∧ (selfRelease s).fst = s.fst ∧ (selfRelease s).pln = s.pln ∧
    (selfRelease s).cmp = s.cmp ∧ (selfRelease s).ing = s.ing ∧ (selfRelease s).pending = s.pending := by
  unfold selfRelease; split <;> simp

@[simp] theorem contention_keeps (before : Word32) (s : State) :
    (contention before s).power = s.power ∧ (contention before s).palarm = s.palarm ∧
    (contention before s).fcy = s.fcy ∧ (contention before s).fsw = s.fsw ∧ (contention before s).fst = s.fst ∧
    (contention before s).pln = s.pln ∧ (contention before s).cmp = s.cmp ∧ (contention before s).ing = s.ing ∧
    (contention before s).pending = s.pending := by
  unfold contention; split <;> simp

@[simp] theorem roleChanges_keeps (before : Word32) (s : State) :
    ((roleChanges before s).1).power = s.power ∧ ((roleChanges before s).1).palarm = s.palarm ∧
    ((roleChanges before s).1).fcy = s.fcy ∧ ((roleChanges before s).1).fsw = s.fsw ∧
    ((roleChanges before s).1).fst = s.fst ∧ ((roleChanges before s).1).pln = s.pln ∧
    ((roleChanges before s).1).cmp = s.cmp ∧ ((roleChanges before s).1).ing = s.ing ∧
    ((roleChanges before s).1).pending = s.pending := by
  simp [roleChanges]

@[simp] theorem pairChanges_keeps (before : Word32) (s : State) :
    ((pairChanges before s).1).power = s.power ∧ ((pairChanges before s).1).palarm = s.palarm ∧
    ((pairChanges before s).1).fcy = s.fcy ∧ ((pairChanges before s).1).fsw = s.fsw ∧
    ((pairChanges before s).1).fst = s.fst ∧ ((pairChanges before s).1).pln = s.pln ∧
    ((pairChanges before s).1).cmp = s.cmp ∧ ((pairChanges before s).1).ing = s.ing ∧
    ((pairChanges before s).1).pending = s.pending := by
  unfold pairChanges; split <;> simp

@[simp] theorem closePeriod_keeps (ended : Handed) (s : State) :
    (closePeriod ended s).power = s.power ∧ (closePeriod ended s).palarm = s.palarm ∧
    (closePeriod ended s).fcy = s.fcy ∧ (closePeriod ended s).fsw = s.fsw ∧ (closePeriod ended s).fst = s.fst ∧
    (closePeriod ended s).pln = s.pln ∧ (closePeriod ended s).tke = s.tke ∧ (closePeriod ended s).cmp = s.cmp ∧
    (closePeriod ended s).ing = s.ing ∧ (closePeriod ended s).cnu = s.cnu ∧
    (closePeriod ended s).pending = s.pending := by
  unfold closePeriod; split <;> simp

@[simp] theorem linkPulse_keeps (s : State) :
    (linkPulse s).power = s.power ∧ (linkPulse s).palarm = s.palarm ∧ (linkPulse s).fcy = s.fcy ∧
    (linkPulse s).fsw = s.fsw ∧ (linkPulse s).fst = s.fst ∧ (linkPulse s).pln = s.pln ∧
    (linkPulse s).tke = s.tke ∧ (linkPulse s).cmp = s.cmp ∧ (linkPulse s).ing = s.ing ∧
    (linkPulse s).cnu = s.cnu ∧ (linkPulse s).pending = s.pending := by
  simp [linkPulse]

@[simp] theorem sampleAlarm_keeps (level : Bool) (s : State) :
    (sampleAlarm level s).power = s.power ∧ (sampleAlarm level s).fcy = s.fcy ∧
    (sampleAlarm level s).fsw = s.fsw ∧ (sampleAlarm level s).fst = s.fst ∧ (sampleAlarm level s).pln = s.pln ∧
    (sampleAlarm level s).tke = s.tke ∧ (sampleAlarm level s).cmp = s.cmp ∧ (sampleAlarm level s).ing = s.ing ∧
    (sampleAlarm level s).opr = s.opr ∧ (sampleAlarm level s).cnu = s.cnu ∧
    (sampleAlarm level s).pending = s.pending := by
  simp [sampleAlarm]

/-! ### The cycle, the composer and the ingest unit -/

@[simp] theorem display_keeps (s : State) :
    (display s).power = s.power ∧ (display s).palarm = s.palarm ∧ (display s).fsw = s.fsw ∧
    (display s).fst = s.fst ∧ (display s).pln = s.pln ∧ (display s).tke = s.tke ∧ (display s).cmp = s.cmp ∧
    (display s).ing = s.ing ∧ (display s).opr = s.opr ∧ (display s).cnu = s.cnu ∧
    (display s).pending = s.pending := by
  unfold display; split <;> simp

@[simp] theorem abandon_keeps (s : State) :
    (abandon s).power = s.power ∧ (abandon s).palarm = s.palarm ∧ (abandon s).fsw = s.fsw ∧
    (abandon s).fst = s.fst ∧ (abandon s).pln = s.pln ∧ (abandon s).tke = s.tke ∧ (abandon s).cmp = s.cmp ∧
    (abandon s).ing = s.ing ∧ (abandon s).opr = s.opr ∧ (abandon s).pending = s.pending := by
  unfold abandon; split <;> simp

@[simp] theorem advance_keeps (t : Time) (count : Word32) (s : State) :
    (advance t count s).power = s.power ∧ (advance t count s).palarm = s.palarm ∧
    (advance t count s).fsw = s.fsw ∧ (advance t count s).fst = s.fst ∧ (advance t count s).pln = s.pln ∧
    (advance t count s).tke = s.tke ∧ (advance t count s).cmp = s.cmp ∧ (advance t count s).ing = s.ing ∧
    (advance t count s).cnu = s.cnu ∧ (advance t count s).pending = s.pending := by
  simp [advance]

@[simp] theorem fixLineMode_keeps (s : State) :
    (fixLineMode s).power = s.power ∧ (fixLineMode s).palarm = s.palarm ∧ (fixLineMode s).fcy = s.fcy ∧
    (fixLineMode s).fsw = s.fsw ∧ (fixLineMode s).fst = s.fst ∧ (fixLineMode s).pln = s.pln ∧
    (fixLineMode s).tke = s.tke ∧ (fixLineMode s).cmp = s.cmp ∧ (fixLineMode s).ing = s.ing ∧
    (fixLineMode s).cnu = s.cnu ∧ (fixLineMode s).pending = s.pending := by
  simp [fixLineMode]

@[simp] theorem levelChoice_keeps (snap : Snapshot) (budget : Nat) (s : State) :
    (levelChoice snap budget s).power = s.power ∧ (levelChoice snap budget s).palarm = s.palarm ∧
    (levelChoice snap budget s).fcy = s.fcy ∧ (levelChoice snap budget s).fsw = s.fsw ∧
    (levelChoice snap budget s).fst = s.fst ∧ (levelChoice snap budget s).pln = s.pln ∧
    (levelChoice snap budget s).tke = s.tke ∧ (levelChoice snap budget s).ing = s.ing ∧
    (levelChoice snap budget s).opr = s.opr ∧ (levelChoice snap budget s).pending = s.pending := by
  unfold levelChoice; simp only []; split <;> simp

@[simp] theorem beginComposition_keeps (s : State) :
    (beginComposition s).power = s.power ∧ (beginComposition s).palarm = s.palarm ∧
    (beginComposition s).fsw = s.fsw ∧ (beginComposition s).fst = s.fst ∧ (beginComposition s).pln = s.pln ∧
    (beginComposition s).tke = s.tke ∧ (beginComposition s).pending = s.pending := by
  simp [beginComposition]

@[simp] theorem offerUnit_keeps (u : IngestUnit) (s : State) :
    (offerUnit u s).power = s.power ∧ (offerUnit u s).palarm = s.palarm ∧ (offerUnit u s).fcy = s.fcy ∧
    (offerUnit u s).fsw = s.fsw ∧ (offerUnit u s).fst = s.fst ∧ (offerUnit u s).pln = s.pln ∧
    (offerUnit u s).tke = s.tke ∧ (offerUnit u s).cmp = s.cmp ∧ (offerUnit u s).opr = s.opr ∧
    (offerUnit u s).pending = s.pending := by
  unfold offerUnit; split <;> simp

@[simp] theorem hunt_keeps (s : State) :
    (hunt s).power = s.power ∧ (hunt s).palarm = s.palarm ∧ (hunt s).fcy = s.fcy ∧ (hunt s).fsw = s.fsw ∧
    (hunt s).fst = s.fst ∧ (hunt s).pln = s.pln ∧ (hunt s).tke = s.tke ∧ (hunt s).cmp = s.cmp ∧
    (hunt s).opr = s.opr ∧ (hunt s).cnu = s.cnu ∧ (hunt s).pending = s.pending := by
  simp [hunt]

@[simp] theorem gapPulse_keeps (s : State) :
    (gapPulse s).power = s.power ∧ (gapPulse s).palarm = s.palarm ∧ (gapPulse s).fcy = s.fcy ∧
    (gapPulse s).fsw = s.fsw ∧ (gapPulse s).fst = s.fst ∧ (gapPulse s).pln = s.pln ∧ (gapPulse s).tke = s.tke ∧
    (gapPulse s).cmp = s.cmp ∧ (gapPulse s).opr = s.opr ∧ (gapPulse s).pending = s.pending := by
  unfold gapPulse
  split
  · simp
  · split <;> simp

end Sys2Proof.Machine
end

