-- ==== Sys2Proof/Laws/Fields.lean ====
section
/-! SUPPORT. Laws/Fields.lean: within CNU and OPR, which fields and which counters each operation of a serving pulse leaves:
none touches a port's receiver, replies or mask, a threshold, the alarm enable, the straps or auto takeover. -/

namespace Sys2Proof.Machine

set_option Elab.async false

/-- An increase adds one to its counter, saturating at 65,535 (R184). -/
@[simp] theorem increase_counters (c : Counter) (s : State) :
    (increase c s).cnu.counters = s.cnu.counters.set c (min 65535 (s.cnu.counters.get c + 1)) := by
  unfold increase testTrip
  split <;> rfl

@[simp] theorem raiseFault_fields (add : Causes → Causes) (s : State) :
    (raiseFault add s).cnu.receiver = s.cnu.receiver ∧ (raiseFault add s).cnu.reply = s.cnu.reply ∧
    (raiseFault add s).cnu.waiting = s.cnu.waiting ∧ (raiseFault add s).cnu.mask = s.cnu.mask ∧
    (raiseFault add s).cnu.thresholds = s.cnu.thresholds ∧
    (raiseFault add s).cnu.alarmEnable = s.cnu.alarmEnable ∧ (raiseFault add s).cnu.counters = s.cnu.counters ∧
    (raiseFault add s).cnu.tripped = s.cnu.tripped ∧
    (raiseFault add s).cnu.trippedSince = s.cnu.trippedSince := by
  simp [raiseFault]

@[simp] theorem raiseStep_fields (s : State) :
    (raiseStep s).cnu.receiver = s.cnu.receiver ∧ (raiseStep s).cnu.reply = s.cnu.reply ∧
    (raiseStep s).cnu.waiting = s.cnu.waiting ∧ (raiseStep s).cnu.mask = s.cnu.mask ∧
    (raiseStep s).cnu.thresholds = s.cnu.thresholds ∧ (raiseStep s).cnu.alarmEnable = s.cnu.alarmEnable ∧
    (raiseStep s).cnu.counters = s.cnu.counters ∧ (raiseStep s).cnu.tripped = s.cnu.tripped ∧
    (raiseStep s).cnu.trippedSince = s.cnu.trippedSince ∧ (raiseStep s).cnu.causes = s.cnu.causes := by
  simp [raiseStep]

@[simp] theorem raiseRun_fields (s : State) :
    (raiseRun s).cnu.receiver = s.cnu.receiver ∧ (raiseRun s).cnu.reply = s.cnu.reply ∧
    (raiseRun s).cnu.waiting = s.cnu.waiting ∧ (raiseRun s).cnu.mask = s.cnu.mask ∧
    (raiseRun s).cnu.thresholds = s.cnu.thresholds ∧ (raiseRun s).cnu.alarmEnable = s.cnu.alarmEnable ∧
    (raiseRun s).cnu.counters = s.cnu.counters ∧ (raiseRun s).cnu.tripped = s.cnu.tripped ∧
    (raiseRun s).cnu.trippedSince = s.cnu.trippedSince ∧ (raiseRun s).cnu.causes = s.cnu.causes := by
  simp [raiseRun]

@[simp] theorem testTrip_fields (c : Counter) (s : State) :
    (testTrip c s).cnu.receiver = s.cnu.receiver ∧ (testTrip c s).cnu.reply = s.cnu.reply ∧
    (testTrip c s).cnu.waiting = s.cnu.waiting ∧ (testTrip c s).cnu.mask = s.cnu.mask ∧
    (testTrip c s).cnu.thresholds = s.cnu.thresholds ∧ (testTrip c s).cnu.alarmEnable = s.cnu.alarmEnable ∧
    (testTrip c s).cnu.counters = s.cnu.counters := by
  unfold testTrip; split <;> simp

@[simp] theorem increase_fields (c : Counter) (s : State) :
    (increase c s).cnu.receiver = s.cnu.receiver ∧ (increase c s).cnu.reply = s.cnu.reply ∧
    (increase c s).cnu.waiting = s.cnu.waiting ∧ (increase c s).cnu.mask = s.cnu.mask ∧
    (increase c s).cnu.thresholds = s.cnu.thresholds ∧ (increase c s).cnu.alarmEnable = s.cnu.alarmEnable := by
  simp [increase]

@[simp] theorem leaveStep_fields (s : State) :
    (leaveStep s).cnu.receiver = s.cnu.receiver ∧ (leaveStep s).cnu.reply = s.cnu.reply ∧
    (leaveStep s).cnu.waiting = s.cnu.waiting ∧ (leaveStep s).cnu.mask = s.cnu.mask ∧
    (leaveStep s).cnu.thresholds = s.cnu.thresholds ∧ (leaveStep s).cnu.alarmEnable = s.cnu.alarmEnable ∧
    (leaveStep s).cnu.counters.lateFrames = s.cnu.counters.lateFrames ∧
    (leaveStep s).cnu.counters.degradedEntries = s.cnu.counters.degradedEntries ∧
    (leaveStep s).cnu.counters.ingestErrors = s.cnu.counters.ingestErrors ∧
    (leaveStep s).cnu.counters.overruns = s.cnu.counters.overruns ∧
    (leaveStep s).cnu.counters.referenceLosses = s.cnu.counters.referenceLosses ∧
    (leaveStep s).opr.strap = s.opr.strap ∧ (leaveStep s).opr.autoTakeover = s.opr.autoTakeover ∧
    (leaveStep s).opr.role = s.opr.role ∧ (leaveStep s).opr.inHand = s.opr.inHand ∧
    (leaveStep s).opr.partnerPresent = s.opr.partnerPresent ∧ (leaveStep s).opr.missed = s.opr.missed ∧
    (leaveStep s).opr.lossCount = s.opr.lossCount ∧ (leaveStep s).opr.matchRun = s.opr.matchRun ∧
    (leaveStep s).opr.link = s.opr.link ∧ (leaveStep s).opr.negotiation = s.opr.negotiation ∧
    (leaveStep s).opr.mains = s.opr.mains ∧ (leaveStep s).opr.sent = s.opr.sent ∧
    (leaveStep s).opr.lineMode = s.opr.lineMode := by
  unfold leaveStep; split <;> simp [PerCounter.set]

@[simp] theorem losePartner_fields (s : State) :
    (losePartner s).cnu.receiver = s.cnu.receiver ∧ (losePartner s).cnu.reply = s.cnu.reply ∧
    (losePartner s).cnu.waiting = s.cnu.waiting ∧ (losePartner s).cnu.mask = s.cnu.mask ∧
    (losePartner s).cnu.thresholds = s.cnu.thresholds ∧ (losePartner s).cnu.alarmEnable = s.cnu.alarmEnable ∧
    (losePartner s).cnu.counters.lateFrames = s.cnu.counters.lateFrames ∧
    (losePartner s).cnu.counters.degradedEntries = s.cnu.counters.degradedEntries ∧
    (losePartner s).cnu.counters.ingestErrors = s.cnu.counters.ingestErrors ∧
    (losePartner s).cnu.counters.overruns = s.cnu.counters.overruns ∧
    (losePartner s).cnu.counters.referenceLosses = s.cnu.counters.referenceLosses ∧
    (losePartner s).opr.strap = s.opr.strap ∧ (losePartner s).opr.autoTakeover = s.opr.autoTakeover ∧
    (losePartner s).opr.role = s.opr.role ∧ (losePartner s).opr.inHand = s.opr.inHand ∧
    (losePartner s).opr.missed = s.opr.missed ∧ (losePartner s).opr.link = s.opr.link ∧
    (losePartner s).opr.negotiation = s.opr.negotiation ∧ (losePartner s).opr.mains = s.opr.mains ∧
    (losePartner s).opr.sent = s.opr.sent ∧ (losePartner s).opr.lineMode = s.opr.lineMode := by
  cases h : s.opr.inStep <;> simp [losePartner, h]

@[simp] theorem partnerPresence_fields (s : State) :
    (partnerPresence s).cnu.receiver = s.cnu.receiver ∧ (partnerPresence s).cnu.reply = s.cnu.reply ∧
    (partnerPresence s).cnu.waiting = s.cnu.waiting ∧ (partnerPresence s).cnu.mask = s.cnu.mask ∧
    (partnerPresence s).cnu.thresholds = s.cnu.thresholds ∧
    (partnerPresence s).cnu.alarmEnable = s.cnu.alarmEnable ∧
    (partnerPresence s).cnu.counters.lateFrames = s.cnu.counters.lateFrames ∧
    (partnerPresence s).cnu.counters.degradedEntries = s.cnu.counters.degradedEntries ∧
    (partnerPresence s).cnu.counters.ingestErrors = s.cnu.counters.ingestErrors ∧
    (partnerPresence s).cnu.counters.overruns = s.cnu.counters.overruns ∧
    (partnerPresence s).cnu.counters.referenceLosses = s.cnu.counters.referenceLosses ∧
    (partnerPresence s).opr.strap = s.opr.strap ∧ (partnerPresence s).opr.autoTakeover = s.opr.autoTakeover ∧
    (partnerPresence s).opr.role = s.opr.role ∧ (partnerPresence s).opr.inHand = s.opr.inHand ∧
    (partnerPresence s).opr.link = s.opr.link ∧ (partnerPresence s).opr.negotiation = s.opr.negotiation ∧
    (partnerPresence s).opr.mains = s.opr.mains ∧ (partnerPresence s).opr.sent = s.opr.sent ∧
    (partnerPresence s).opr.lineMode = s.opr.lineMode := by
  unfold partnerPresence
  simp only []
  repeat' split
  all_goals simp

@[simp] theorem matchStep_fields (s : State) :
    (matchStep s).cnu.receiver = s.cnu.receiver ∧ (matchStep s).cnu.reply = s.cnu.reply ∧
    (matchStep s).cnu.waiting = s.cnu.waiting ∧ (matchStep s).cnu.mask = s.cnu.mask ∧
    (matchStep s).cnu.thresholds = s.cnu.thresholds ∧ (matchStep s).cnu.alarmEnable = s.cnu.alarmEnable ∧
    (matchStep s).cnu.counters.lateFrames = s.cnu.counters.lateFrames ∧
    (matchStep s).cnu.counters.degradedEntries = s.cnu.counters.degradedEntries ∧
    (matchStep s).cnu.counters.ingestErrors = s.cnu.counters.ingestErrors ∧
    (matchStep s).cnu.counters.overruns = s.cnu.counters.overruns ∧
    (matchStep s).cnu.counters.referenceLosses = s.cnu.counters.referenceLosses ∧
    (matchStep s).opr.strap = s.opr.strap ∧ (matchStep s).opr.autoTakeover = s.opr.autoTakeover ∧
    (matchStep s).opr.role = s.opr.role ∧ (matchStep s).opr.inHand = s.opr.inHand ∧
    (matchStep s).opr.link = s.opr.link ∧ (matchStep s).opr.negotiation = s.opr.negotiation ∧
    (matchStep s).opr.mains = s.opr.mains ∧ (matchStep s).opr.sent = s.opr.sent ∧
    (matchStep s).opr.lineMode = s.opr.lineMode ∧ (matchStep s).opr.partnerPresent = s.opr.partnerPresent ∧
    (matchStep s).opr.missed = s.opr.missed ∧ (matchStep s).opr.lossCount = s.opr.lossCount := by
  unfold matchStep; simp only []; split <;> simp

@[simp] theorem mismatchStep_fields (s : State) :
    (mismatchStep s).cnu.receiver = s.cnu.receiver ∧ (mismatchStep s).cnu.reply = s.cnu.reply ∧
    (mismatchStep s).cnu.waiting = s.cnu.waiting ∧ (mismatchStep s).cnu.mask = s.cnu.mask ∧
    (mismatchStep s).cnu.thresholds = s.cnu.thresholds ∧ (mismatchStep s).cnu.alarmEnable = s.cnu.alarmEnable ∧
    (mismatchStep s).cnu.counters.lateFrames = s.cnu.counters.lateFrames ∧
    (mismatchStep s).cnu.counters.degradedEntries = s.cnu.counters.degradedEntries ∧
    (mismatchStep s).cnu.counters.ingestErrors = s.cnu.counters.ingestErrors ∧
    (mismatchStep s).cnu.counters.overruns = s.cnu.counters.overruns ∧
    (mismatchStep s).cnu.counters.referenceLosses = s.cnu.counters.referenceLosses ∧
    (mismatchStep s).opr.strap = s.opr.strap ∧ (mismatchStep s).opr.autoTakeover = s.opr.autoTakeover ∧
    (mismatchStep s).opr.role = s.opr.role ∧ (mismatchStep s).opr.inHand = s.opr.inHand ∧
    (mismatchStep s).opr.link = s.opr.link ∧ (mismatchStep s).opr.negotiation = s.opr.negotiation ∧
    (mismatchStep s).opr.mains = s.opr.mains ∧ (mismatchStep s).opr.sent = s.opr.sent ∧
    (mismatchStep s).opr.lineMode = s.opr.lineMode ∧
    (mismatchStep s).opr.partnerPresent = s.opr.partnerPresent ∧ (mismatchStep s).opr.missed = s.opr.missed ∧
    (mismatchStep s).opr.lossCount = s.opr.lossCount := by
  unfold mismatchStep; simp only []; split <;> simp

@[simp] theorem stepComparison_fields (s : State) :
    (stepComparison s).cnu.receiver = s.cnu.receiver ∧ (stepComparison s).cnu.reply = s.cnu.reply ∧
    (stepComparison s).cnu.waiting = s.cnu.waiting ∧ (stepComparison s).cnu.mask = s.cnu.mask ∧
    (stepComparison s).cnu.thresholds = s.cnu.thresholds ∧
    (stepComparison s).cnu.alarmEnable = s.cnu.alarmEnable ∧
    (stepComparison s).cnu.counters.lateFrames = s.cnu.counters.lateFrames ∧
    (stepComparison s).cnu.counters.degradedEntries = s.cnu.counters.degradedEntries ∧
    (stepComparison s).cnu.counters.ingestErrors = s.cnu.counters.ingestErrors ∧
    (stepComparison s).cnu.counters.overruns = s.cnu.counters.overruns ∧
    (stepComparison s).cnu.counters.referenceLosses = s.cnu.counters.referenceLosses ∧
    (stepComparison s).opr.strap = s.opr.strap ∧ (stepComparison s).opr.autoTakeover = s.opr.autoTakeover ∧
    (stepComparison s).opr.role = s.opr.role ∧ (stepComparison s).opr.inHand = s.opr.inHand ∧
    (stepComparison s).opr.link = s.opr.link ∧ (stepComparison s).opr.negotiation = s.opr.negotiation ∧
    (stepComparison s).opr.mains = s.opr.mains ∧ (stepComparison s).opr.sent = s.opr.sent ∧
    (stepComparison s).opr.lineMode = s.opr.lineMode ∧
    (stepComparison s).opr.partnerPresent = s.opr.partnerPresent ∧
    (stepComparison s).opr.missed = s.opr.missed ∧ (stepComparison s).opr.lossCount = s.opr.lossCount := by
  unfold stepComparison
  split
  · simp
  · split <;> simp

@[simp] theorem setRole_fields (r : Role) (s : State) :
    (setRole r s).opr.strap = s.opr.strap ∧ (setRole r s).opr.autoTakeover = s.opr.autoTakeover ∧
    (setRole r s).opr.inHand = s.opr.inHand ∧ (setRole r s).opr.link = s.opr.link ∧
    (setRole r s).opr.mains = s.opr.mains ∧ (setRole r s).opr.sent = s.opr.sent ∧
    (setRole r s).opr.lineMode = s.opr.lineMode ∧ (setRole r s).opr.partnerPresent = s.opr.partnerPresent ∧
    (setRole r s).opr.missed = s.opr.missed ∧ (setRole r s).opr.lossCount = s.opr.lossCount ∧
    (setRole r s).opr.inStep = s.opr.inStep ∧ (setRole r s).opr.matchRun = s.opr.matchRun ∧
    (setRole r s).opr.mismatchRun = s.opr.mismatchRun ∧ (setRole r s).opr.negotiation = s.opr.negotiation := by
  simp [setRole]

@[simp] theorem setNegotiation_fields (n : Option Negotiation) (s : State) :
    (setNegotiation n s).opr.strap = s.opr.strap ∧ (setNegotiation n s).opr.autoTakeover = s.opr.autoTakeover ∧
    (setNegotiation n s).opr.inHand = s.opr.inHand ∧ (setNegotiation n s).opr.link = s.opr.link ∧
    (setNegotiation n s).opr.mains = s.opr.mains ∧ (setNegotiation n s).opr.sent = s.opr.sent ∧
    (setNegotiation n s).opr.lineMode = s.opr.lineMode ∧
    (setNegotiation n s).opr.partnerPresent = s.opr.partnerPresent ∧
    (setNegotiation n s).opr.missed = s.opr.missed ∧ (setNegotiation n s).opr.lossCount = s.opr.lossCount ∧
    (setNegotiation n s).opr.inStep = s.opr.inStep ∧ (setNegotiation n s).opr.matchRun = s.opr.matchRun ∧
    (setNegotiation n s).opr.mismatchRun = s.opr.mismatchRun ∧ (setNegotiation n s).opr.role = s.opr.role := by
  simp [setNegotiation]

@[simp] theorem endNegotiation_fields (status : TakeStatus) (s : State) :
    (endNegotiation status s).opr.strap = s.opr.strap ∧
    (endNegotiation status s).opr.autoTakeover = s.opr.autoTakeover ∧
    (endNegotiation status s).opr.inHand = s.opr.inHand ∧ (endNegotiation status s).opr.link = s.opr.link ∧
    (endNegotiation status s).opr.mains = s.opr.mains ∧ (endNegotiation status s).opr.sent = s.opr.sent ∧
    (endNegotiation status s).opr.lineMode = s.opr.lineMode ∧
    (endNegotiation status s).opr.partnerPresent = s.opr.partnerPresent ∧
    (endNegotiation status s).opr.missed = s.opr.missed ∧
    (endNegotiation status s).opr.lossCount = s.opr.lossCount ∧
    (endNegotiation status s).opr.inStep = s.opr.inStep ∧
    (endNegotiation status s).opr.matchRun = s.opr.matchRun ∧
    (endNegotiation status s).opr.mismatchRun = s.opr.mismatchRun ∧
    (endNegotiation status s).opr.role = s.opr.role := by
  unfold endNegotiation; split <;> simp

@[simp] theorem faultIfAutomatic_fields (n : Negotiation) (s : State) :
    (faultIfAutomatic n s).cnu.receiver = s.cnu.receiver ∧ (faultIfAutomatic n s).cnu.reply = s.cnu.reply ∧
    (faultIfAutomatic n s).cnu.waiting = s.cnu.waiting ∧ (faultIfAutomatic n s).cnu.mask = s.cnu.mask ∧
    (faultIfAutomatic n s).cnu.thresholds = s.cnu.thresholds ∧
    (faultIfAutomatic n s).cnu.alarmEnable = s.cnu.alarmEnable ∧
    (faultIfAutomatic n s).cnu.counters = s.cnu.counters ∧ (faultIfAutomatic n s).cnu.tripped = s.cnu.tripped ∧
    (faultIfAutomatic n s).cnu.trippedSince = s.cnu.trippedSince := by
  unfold faultIfAutomatic; split <;> simp

@[simp] theorem mainCommit_fields (n : Negotiation) (s : State) :
    (mainCommit n s).cnu.receiver = s.cnu.receiver ∧ (mainCommit n s).cnu.reply = s.cnu.reply ∧
    (mainCommit n s).cnu.waiting = s.cnu.waiting ∧ (mainCommit n s).cnu.mask = s.cnu.mask ∧
    (mainCommit n s).cnu.thresholds = s.cnu.thresholds ∧ (mainCommit n s).cnu.alarmEnable = s.cnu.alarmEnable ∧
    (mainCommit n s).cnu.counters = s.cnu.counters ∧ (mainCommit n s).cnu.tripped = s.cnu.tripped ∧
    (mainCommit n s).cnu.trippedSince = s.cnu.trippedSince ∧ (mainCommit n s).opr.strap = s.opr.strap ∧
    (mainCommit n s).opr.autoTakeover = s.opr.autoTakeover ∧ (mainCommit n s).opr.inHand = s.opr.inHand ∧
    (mainCommit n s).opr.link = s.opr.link ∧ (mainCommit n s).opr.mains = s.opr.mains ∧
    (mainCommit n s).opr.sent = s.opr.sent ∧ (mainCommit n s).opr.lineMode = s.opr.lineMode ∧
    (mainCommit n s).opr.partnerPresent = s.opr.partnerPresent ∧ (mainCommit n s).opr.missed = s.opr.missed ∧
    (mainCommit n s).opr.lossCount = s.opr.lossCount ∧ (mainCommit n s).opr.inStep = s.opr.inStep ∧
    (mainCommit n s).opr.matchRun = s.opr.matchRun ∧ (mainCommit n s).opr.mismatchRun = s.opr.mismatchRun := by
  unfold mainCommit; split <;> simp

@[simp] theorem mainHandOver_fields (n : Negotiation) (s : State) :
    ((mainHandOver n s).1).cnu.receiver = s.cnu.receiver ∧ ((mainHandOver n s).1).cnu.reply = s.cnu.reply ∧
    ((mainHandOver n s).1).cnu.waiting = s.cnu.waiting ∧ ((mainHandOver n s).1).cnu.mask = s.cnu.mask ∧
    ((mainHandOver n s).1).cnu.thresholds = s.cnu.thresholds ∧
    ((mainHandOver n s).1).cnu.alarmEnable = s.cnu.alarmEnable ∧
    ((mainHandOver n s).1).cnu.counters = s.cnu.counters ∧ ((mainHandOver n s).1).cnu.tripped = s.cnu.tripped ∧
    ((mainHandOver n s).1).cnu.trippedSince = s.cnu.trippedSince ∧
    ((mainHandOver n s).1).opr.strap = s.opr.strap ∧
    ((mainHandOver n s).1).opr.autoTakeover = s.opr.autoTakeover ∧
    ((mainHandOver n s).1).opr.inHand = s.opr.inHand ∧ ((mainHandOver n s).1).opr.link = s.opr.link ∧
    ((mainHandOver n s).1).opr.mains = s.opr.mains ∧ ((mainHandOver n s).1).opr.sent = s.opr.sent ∧
    ((mainHandOver n s).1).opr.lineMode = s.opr.lineMode ∧
    ((mainHandOver n s).1).opr.partnerPresent = s.opr.partnerPresent ∧
    ((mainHandOver n s).1).opr.missed = s.opr.missed ∧ ((mainHandOver n s).1).opr.lossCount = s.opr.lossCount ∧
    ((mainHandOver n s).1).opr.inStep = s.opr.inStep ∧ ((mainHandOver n s).1).opr.matchRun = s.opr.matchRun ∧
    ((mainHandOver n s).1).opr.mismatchRun = s.opr.mismatchRun := by
  unfold mainHandOver; split <;> simp

@[simp] theorem mainSettle_fields (n : Negotiation) (s : State) :
    (mainSettle n s).cnu.receiver = s.cnu.receiver ∧ (mainSettle n s).cnu.reply = s.cnu.reply ∧
    (mainSettle n s).cnu.waiting = s.cnu.waiting ∧ (mainSettle n s).cnu.mask = s.cnu.mask ∧
    (mainSettle n s).cnu.thresholds = s.cnu.thresholds ∧ (mainSettle n s).cnu.alarmEnable = s.cnu.alarmEnable ∧
    (mainSettle n s).cnu.counters = s.cnu.counters ∧ (mainSettle n s).cnu.tripped = s.cnu.tripped ∧
    (mainSettle n s).cnu.trippedSince = s.cnu.trippedSince ∧ (mainSettle n s).opr.strap = s.opr.strap ∧
    (mainSettle n s).opr.autoTakeover = s.opr.autoTakeover ∧ (mainSettle n s).opr.inHand = s.opr.inHand ∧
    (mainSettle n s).opr.link = s.opr.link ∧ (mainSettle n s).opr.mains = s.opr.mains ∧
    (mainSettle n s).opr.sent = s.opr.sent ∧ (mainSettle n s).opr.lineMode = s.opr.lineMode ∧
    (mainSettle n s).opr.partnerPresent = s.opr.partnerPresent ∧ (mainSettle n s).opr.missed = s.opr.missed ∧
    (mainSettle n s).opr.lossCount = s.opr.lossCount ∧ (mainSettle n s).opr.inStep = s.opr.inStep ∧
    (mainSettle n s).opr.matchRun = s.opr.matchRun ∧ (mainSettle n s).opr.mismatchRun = s.opr.mismatchRun := by
  unfold mainSettle
  split
  · simp
  · split <;> simp

@[simp] theorem standbyAtMinus2_fields (n : Negotiation) (s : State) :
    (standbyAtMinus2 n s).cnu.receiver = s.cnu.receiver ∧ (standbyAtMinus2 n s).cnu.reply = s.cnu.reply ∧
    (standbyAtMinus2 n s).cnu.waiting = s.cnu.waiting ∧ (standbyAtMinus2 n s).cnu.mask = s.cnu.mask ∧
    (standbyAtMinus2 n s).cnu.thresholds = s.cnu.thresholds ∧
    (standbyAtMinus2 n s).cnu.alarmEnable = s.cnu.alarmEnable ∧
    (standbyAtMinus2 n s).cnu.counters = s.cnu.counters ∧ (standbyAtMinus2 n s).cnu.tripped = s.cnu.tripped ∧
    (standbyAtMinus2 n s).cnu.trippedSince = s.cnu.trippedSince ∧
    (standbyAtMinus2 n s).opr.strap = s.opr.strap ∧
    (standbyAtMinus2 n s).opr.autoTakeover = s.opr.autoTakeover ∧
    (standbyAtMinus2 n s).opr.inHand = s.opr.inHand ∧ (standbyAtMinus2 n s).opr.link = s.opr.link ∧
    (standbyAtMinus2 n s).opr.mains = s.opr.mains ∧ (standbyAtMinus2 n s).opr.sent = s.opr.sent ∧
    (standbyAtMinus2 n s).opr.lineMode = s.opr.lineMode ∧
    (standbyAtMinus2 n s).opr.partnerPresent = s.opr.partnerPresent ∧
    (standbyAtMinus2 n s).opr.missed = s.opr.missed ∧ (standbyAtMinus2 n s).opr.lossCount = s.opr.lossCount ∧
    (standbyAtMinus2 n s).opr.inStep = s.opr.inStep ∧ (standbyAtMinus2 n s).opr.matchRun = s.opr.matchRun ∧
    (standbyAtMinus2 n s).opr.mismatchRun = s.opr.mismatchRun := by
  unfold standbyAtMinus2; split <;> simp

@[simp] theorem standbyAtMinus1_fields (n : Negotiation) (s : State) :
    (standbyAtMinus1 n s).cnu.receiver = s.cnu.receiver ∧ (standbyAtMinus1 n s).cnu.reply = s.cnu.reply ∧
    (standbyAtMinus1 n s).cnu.waiting = s.cnu.waiting ∧ (standbyAtMinus1 n s).cnu.mask = s.cnu.mask ∧
    (standbyAtMinus1 n s).cnu.thresholds = s.cnu.thresholds ∧
    (standbyAtMinus1 n s).cnu.alarmEnable = s.cnu.alarmEnable ∧
    (standbyAtMinus1 n s).cnu.counters = s.cnu.counters ∧ (standbyAtMinus1 n s).cnu.tripped = s.cnu.tripped ∧
    (standbyAtMinus1 n s).cnu.trippedSince = s.cnu.trippedSince ∧
    (standbyAtMinus1 n s).opr.strap = s.opr.strap ∧
    (standbyAtMinus1 n s).opr.autoTakeover = s.opr.autoTakeover ∧
    (standbyAtMinus1 n s).opr.inHand = s.opr.inHand ∧ (standbyAtMinus1 n s).opr.link = s.opr.link ∧
    (standbyAtMinus1 n s).opr.mains = s.opr.mains ∧ (standbyAtMinus1 n s).opr.sent = s.opr.sent ∧
    (standbyAtMinus1 n s).opr.lineMode = s.opr.lineMode ∧
    (standbyAtMinus1 n s).opr.partnerPresent = s.opr.partnerPresent ∧
    (standbyAtMinus1 n s).opr.missed = s.opr.missed ∧ (standbyAtMinus1 n s).opr.lossCount = s.opr.lossCount ∧
    (standbyAtMinus1 n s).opr.inStep = s.opr.inStep ∧ (standbyAtMinus1 n s).opr.matchRun = s.opr.matchRun ∧
    (standbyAtMinus1 n s).opr.mismatchRun = s.opr.mismatchRun := by
  unfold standbyAtMinus1
  split <;> simp

@[simp] theorem standbyTake_fields (n : Negotiation) (s : State) :
    ((standbyTake n s).1).cnu.receiver = s.cnu.receiver ∧ ((standbyTake n s).1).cnu.reply = s.cnu.reply ∧
    ((standbyTake n s).1).cnu.waiting = s.cnu.waiting ∧ ((standbyTake n s).1).cnu.mask = s.cnu.mask ∧
    ((standbyTake n s).1).cnu.thresholds = s.cnu.thresholds ∧
    ((standbyTake n s).1).cnu.alarmEnable = s.cnu.alarmEnable ∧
    ((standbyTake n s).1).cnu.counters = s.cnu.counters ∧ ((standbyTake n s).1).cnu.tripped = s.cnu.tripped ∧
    ((standbyTake n s).1).cnu.trippedSince = s.cnu.trippedSince ∧
    ((standbyTake n s).1).opr.strap = s.opr.strap ∧
    ((standbyTake n s).1).opr.autoTakeover = s.opr.autoTakeover ∧
    ((standbyTake n s).1).opr.inHand = s.opr.inHand ∧ ((standbyTake n s).1).opr.link = s.opr.link ∧
    ((standbyTake n s).1).opr.mains = s.opr.mains ∧ ((standbyTake n s).1).opr.sent = s.opr.sent ∧
    ((standbyTake n s).1).opr.lineMode = s.opr.lineMode ∧
    ((standbyTake n s).1).opr.partnerPresent = s.opr.partnerPresent ∧
    ((standbyTake n s).1).opr.missed = s.opr.missed ∧ ((standbyTake n s).1).opr.lossCount = s.opr.lossCount ∧
    ((standbyTake n s).1).opr.inStep = s.opr.inStep ∧ ((standbyTake n s).1).opr.matchRun = s.opr.matchRun ∧
    ((standbyTake n s).1).opr.mismatchRun = s.opr.mismatchRun := by
  unfold standbyTake; split <;> simp

@[simp] theorem doStage_fields (k : Nat) (n : Negotiation) (s : State) :
    ((doStage k n s).1).cnu.receiver = s.cnu.receiver ∧ ((doStage k n s).1).cnu.reply = s.cnu.reply ∧
    ((doStage k n s).1).cnu.waiting = s.cnu.waiting ∧ ((doStage k n s).1).cnu.mask = s.cnu.mask ∧
    ((doStage k n s).1).cnu.thresholds = s.cnu.thresholds ∧
    ((doStage k n s).1).cnu.alarmEnable = s.cnu.alarmEnable ∧
    ((doStage k n s).1).cnu.counters = s.cnu.counters ∧ ((doStage k n s).1).cnu.tripped = s.cnu.tripped ∧
    ((doStage k n s).1).cnu.trippedSince = s.cnu.trippedSince ∧ ((doStage k n s).1).opr.strap = s.opr.strap ∧
    ((doStage k n s).1).opr.autoTakeover = s.opr.autoTakeover ∧ ((doStage k n s).1).opr.inHand = s.opr.inHand ∧
    ((doStage k n s).1).opr.link = s.opr.link ∧ ((doStage k n s).1).opr.mains = s.opr.mains ∧
    ((doStage k n s).1).opr.sent = s.opr.sent ∧ ((doStage k n s).1).opr.lineMode = s.opr.lineMode ∧
    ((doStage k n s).1).opr.partnerPresent = s.opr.partnerPresent ∧
    ((doStage k n s).1).opr.missed = s.opr.missed ∧ ((doStage k n s).1).opr.lossCount = s.opr.lossCount ∧
    ((doStage k n s).1).opr.inStep = s.opr.inStep ∧ ((doStage k n s).1).opr.matchRun = s.opr.matchRun ∧
    ((doStage k n s).1).opr.mismatchRun = s.opr.mismatchRun := by
  unfold doStage; split <;> simp

@[simp] theorem standbyCheck_fields (s : State) :
    (standbyCheck s).cnu.receiver = s.cnu.receiver ∧ (standbyCheck s).cnu.reply = s.cnu.reply ∧
    (standbyCheck s).cnu.waiting = s.cnu.waiting ∧ (standbyCheck s).cnu.mask = s.cnu.mask ∧
    (standbyCheck s).cnu.thresholds = s.cnu.thresholds ∧ (standbyCheck s).cnu.alarmEnable = s.cnu.alarmEnable ∧
    (standbyCheck s).cnu.counters = s.cnu.counters ∧ (standbyCheck s).cnu.tripped = s.cnu.tripped ∧
    (standbyCheck s).cnu.trippedSince = s.cnu.trippedSince ∧ (standbyCheck s).opr.strap = s.opr.strap ∧
    (standbyCheck s).opr.autoTakeover = s.opr.autoTakeover ∧ (standbyCheck s).opr.inHand = s.opr.inHand ∧
    (standbyCheck s).opr.link = s.opr.link ∧ (standbyCheck s).opr.mains = s.opr.mains ∧
    (standbyCheck s).opr.sent = s.opr.sent ∧ (standbyCheck s).opr.lineMode = s.opr.lineMode ∧
    (standbyCheck s).opr.partnerPresent = s.opr.partnerPresent ∧ (standbyCheck s).opr.missed = s.opr.missed ∧
    (standbyCheck s).opr.lossCount = s.opr.lossCount ∧ (standbyCheck s).opr.inStep = s.opr.inStep ∧
    (standbyCheck s).opr.matchRun = s.opr.matchRun ∧ (standbyCheck s).opr.mismatchRun = s.opr.mismatchRun := by
  unfold standbyCheck
  split
  · simp
  · split <;> simp

@[simp] theorem stageStep_fields (acc : State × Nat) (k : Nat) :
    ((stageStep acc k).1).cnu.receiver = acc.1.cnu.receiver ∧
    ((stageStep acc k).1).cnu.reply = acc.1.cnu.reply ∧ ((stageStep acc k).1).cnu.waiting = acc.1.cnu.waiting ∧
    ((stageStep acc k).1).cnu.mask = acc.1.cnu.mask ∧
    ((stageStep acc k).1).cnu.thresholds = acc.1.cnu.thresholds ∧
    ((stageStep acc k).1).cnu.alarmEnable = acc.1.cnu.alarmEnable ∧
    ((stageStep acc k).1).cnu.counters = acc.1.cnu.counters ∧
    ((stageStep acc k).1).cnu.tripped = acc.1.cnu.tripped ∧
    ((stageStep acc k).1).cnu.trippedSince = acc.1.cnu.trippedSince ∧
    ((stageStep acc k).1).opr.strap = acc.1.opr.strap ∧
    ((stageStep acc k).1).opr.autoTakeover = acc.1.opr.autoTakeover ∧
    ((stageStep acc k).1).opr.inHand = acc.1.opr.inHand ∧ ((stageStep acc k).1).opr.link = acc.1.opr.link ∧
    ((stageStep acc k).1).opr.mains = acc.1.opr.mains ∧ ((stageStep acc k).1).opr.sent = acc.1.opr.sent ∧
    ((stageStep acc k).1).opr.lineMode = acc.1.opr.lineMode ∧
    ((stageStep acc k).1).opr.partnerPresent = acc.1.opr.partnerPresent ∧
    ((stageStep acc k).1).opr.missed = acc.1.opr.missed ∧
    ((stageStep acc k).1).opr.lossCount = acc.1.opr.lossCount ∧
    ((stageStep acc k).1).opr.inStep = acc.1.opr.inStep ∧
    ((stageStep acc k).1).opr.matchRun = acc.1.opr.matchRun ∧
    ((stageStep acc k).1).opr.mismatchRun = acc.1.opr.mismatchRun := by
  unfold stageStep
  split
  · simp
  · split <;> simp

@[simp] theorem negotiationStages_fields (s : State) :
    ((negotiationStages s).1).cnu.receiver = s.cnu.receiver ∧
    ((negotiationStages s).1).cnu.reply = s.cnu.reply ∧ ((negotiationStages s).1).cnu.waiting = s.cnu.waiting ∧
    ((negotiationStages s).1).cnu.mask = s.cnu.mask ∧
    ((negotiationStages s).1).cnu.thresholds = s.cnu.thresholds ∧
    ((negotiationStages s).1).cnu.alarmEnable = s.cnu.alarmEnable ∧
    ((negotiationStages s).1).cnu.counters = s.cnu.counters ∧
    ((negotiationStages s).1).cnu.tripped = s.cnu.tripped ∧
    ((negotiationStages s).1).cnu.trippedSince = s.cnu.trippedSince ∧
    ((negotiationStages s).1).opr.strap = s.opr.strap ∧
    ((negotiationStages s).1).opr.autoTakeover = s.opr.autoTakeover ∧
    ((negotiationStages s).1).opr.inHand = s.opr.inHand ∧ ((negotiationStages s).1).opr.link = s.opr.link ∧
    ((negotiationStages s).1).opr.mains = s.opr.mains ∧ ((negotiationStages s).1).opr.sent = s.opr.sent ∧
    ((negotiationStages s).1).opr.lineMode = s.opr.lineMode ∧
    ((negotiationStages s).1).opr.partnerPresent = s.opr.partnerPresent ∧
    ((negotiationStages s).1).opr.missed = s.opr.missed ∧
    ((negotiationStages s).1).opr.lossCount = s.opr.lossCount ∧
    ((negotiationStages s).1).opr.inStep = s.opr.inStep ∧
    ((negotiationStages s).1).opr.matchRun = s.opr.matchRun ∧
    ((negotiationStages s).1).opr.mismatchRun = s.opr.mismatchRun := by
  simp [negotiationStages]

@[simp] theorem autoNegotiate_fields (s : State) :
    (autoNegotiate s).cnu.receiver = s.cnu.receiver ∧ (autoNegotiate s).cnu.reply = s.cnu.reply ∧
    (autoNegotiate s).cnu.waiting = s.cnu.waiting ∧ (autoNegotiate s).cnu.mask = s.cnu.mask ∧
    (autoNegotiate s).cnu.thresholds = s.cnu.thresholds ∧
    (autoNegotiate s).cnu.alarmEnable = s.cnu.alarmEnable ∧ (autoNegotiate s).cnu.counters = s.cnu.counters ∧
    (autoNegotiate s).cnu.tripped = s.cnu.tripped ∧ (autoNegotiate s).cnu.trippedSince = s.cnu.trippedSince ∧
    (autoNegotiate s).opr.strap = s.opr.strap ∧ (autoNegotiate s).opr.autoTakeover = s.opr.autoTakeover ∧
    (autoNegotiate s).opr.inHand = s.opr.inHand ∧ (autoNegotiate s).opr.link = s.opr.link ∧
    (autoNegotiate s).opr.mains = s.opr.mains ∧ (autoNegotiate s).opr.sent = s.opr.sent ∧
    (autoNegotiate s).opr.lineMode = s.opr.lineMode ∧
    (autoNegotiate s).opr.partnerPresent = s.opr.partnerPresent ∧ (autoNegotiate s).opr.missed = s.opr.missed ∧
    (autoNegotiate s).opr.lossCount = s.opr.lossCount ∧ (autoNegotiate s).opr.inStep = s.opr.inStep ∧
    (autoNegotiate s).opr.matchRun = s.opr.matchRun ∧
    (autoNegotiate s).opr.mismatchRun = s.opr.mismatchRun := by
  unfold autoNegotiate; split <;> simp

@[simp] theorem forceRole_fields (r : Role) (s : State) :
    (forceRole r s).cnu.receiver = s.cnu.receiver ∧ (forceRole r s).cnu.reply = s.cnu.reply ∧
    (forceRole r s).cnu.waiting = s.cnu.waiting ∧ (forceRole r s).cnu.mask = s.cnu.mask ∧
    (forceRole r s).cnu.thresholds = s.cnu.thresholds ∧ (forceRole r s).cnu.alarmEnable = s.cnu.alarmEnable ∧
    (forceRole r s).cnu.counters = s.cnu.counters ∧ (forceRole r s).cnu.tripped = s.cnu.tripped ∧
    (forceRole r s).cnu.trippedSince = s.cnu.trippedSince ∧ (forceRole r s).opr.strap = s.opr.strap ∧
    (forceRole r s).opr.autoTakeover = s.opr.autoTakeover ∧ (forceRole r s).opr.inHand = s.opr.inHand ∧
    (forceRole r s).opr.link = s.opr.link ∧ (forceRole r s).opr.mains = s.opr.mains ∧
    (forceRole r s).opr.sent = s.opr.sent ∧ (forceRole r s).opr.lineMode = s.opr.lineMode ∧
    (forceRole r s).opr.partnerPresent = s.opr.partnerPresent ∧ (forceRole r s).opr.missed = s.opr.missed ∧
    (forceRole r s).opr.lossCount = s.opr.lossCount ∧ (forceRole r s).opr.inStep = s.opr.inStep ∧
    (forceRole r s).opr.matchRun = s.opr.matchRun ∧ (forceRole r s).opr.mismatchRun = s.opr.mismatchRun := by
  simp [forceRole]

@[simp] theorem forcedTakeover_fields (s : State) :
    (forcedTakeover s).cnu.receiver = s.cnu.receiver ∧ (forcedTakeover s).cnu.reply = s.cnu.reply ∧
    (forcedTakeover s).cnu.waiting = s.cnu.waiting ∧ (forcedTakeover s).cnu.mask = s.cnu.mask ∧
    (forcedTakeover s).cnu.thresholds = s.cnu.thresholds ∧
    (forcedTakeover s).cnu.alarmEnable = s.cnu.alarmEnable ∧ (forcedTakeover s).cnu.counters = s.cnu.counters ∧
    (forcedTakeover s).cnu.tripped = s.cnu.tripped ∧ (forcedTakeover s).cnu.trippedSince = s.cnu.trippedSince ∧
    (forcedTakeover s).opr.strap = s.opr.strap ∧ (forcedTakeover s).opr.autoTakeover = s.opr.autoTakeover ∧
    (forcedTakeover s).opr.inHand = s.opr.inHand ∧ (forcedTakeover s).opr.link = s.opr.link ∧
    (forcedTakeover s).opr.mains = s.opr.mains ∧ (forcedTakeover s).opr.sent = s.opr.sent ∧
    (forcedTakeover s).opr.lineMode = s.opr.lineMode ∧
    (forcedTakeover s).opr.partnerPresent = s.opr.partnerPresent ∧
    (forcedTakeover s).opr.missed = s.opr.missed ∧ (forcedTakeover s).opr.lossCount = s.opr.lossCount ∧
    (forcedTakeover s).opr.inStep = s.opr.inStep ∧ (forcedTakeover s).opr.matchRun = s.opr.matchRun ∧
    (forcedTakeover s).opr.mismatchRun = s.opr.mismatchRun := by
  unfold forcedTakeover; split <;> simp

@[simp] theorem selfRelease_fields (s : State) :
    (selfRelease s).cnu.receiver = s.cnu.receiver ∧ (selfRelease s).cnu.reply = s.cnu.reply ∧
    (selfRelease s).cnu.waiting = s.cnu.waiting ∧ (selfRelease s).cnu.mask = s.cnu.mask ∧
    (selfRelease s).cnu.thresholds = s.cnu.thresholds ∧ (selfRelease s).cnu.alarmEnable = s.cnu.alarmEnable ∧
    (selfRelease s).cnu.counters = s.cnu.counters ∧ (selfRelease s).cnu.tripped = s.cnu.tripped ∧
    (selfRelease s).cnu.trippedSince = s.cnu.trippedSince ∧ (selfRelease s).opr.strap = s.opr.strap ∧
    (selfRelease s).opr.autoTakeover = s.opr.autoTakeover ∧ (selfRelease s).opr.inHand = s.opr.inHand ∧
    (selfRelease s).opr.link = s.opr.link ∧ (selfRelease s).opr.mains = s.opr.mains ∧
    (selfRelease s).opr.sent = s.opr.sent ∧ (selfRelease s).opr.lineMode = s.opr.lineMode ∧
    (selfRelease s).opr.partnerPresent = s.opr.partnerPresent ∧ (selfRelease s).opr.missed = s.opr.missed ∧
    (selfRelease s).opr.lossCount = s.opr.lossCount ∧ (selfRelease s).opr.inStep = s.opr.inStep ∧
    (selfRelease s).opr.matchRun = s.opr.matchRun ∧ (selfRelease s).opr.mismatchRun = s.opr.mismatchRun := by
  unfold selfRelease; split <;> simp

@[simp] theorem contention_fields (before : Word32) (s : State) :
    (contention before s).cnu.receiver = s.cnu.receiver ∧ (contention before s).cnu.reply = s.cnu.reply ∧
    (contention before s).cnu.waiting = s.cnu.waiting ∧ (contention before s).cnu.mask = s.cnu.mask ∧
    (contention before s).cnu.thresholds = s.cnu.thresholds ∧
    (contention before s).cnu.alarmEnable = s.cnu.alarmEnable ∧
    (contention before s).cnu.counters = s.cnu.counters ∧ (contention before s).cnu.tripped = s.cnu.tripped ∧
    (contention before s).cnu.trippedSince = s.cnu.trippedSince ∧
    (contention before s).opr.strap = s.opr.strap ∧
    (contention before s).opr.autoTakeover = s.opr.autoTakeover ∧
    (contention before s).opr.inHand = s.opr.inHand ∧ (contention before s).opr.link = s.opr.link ∧
    (contention before s).opr.mains = s.opr.mains ∧ (contention before s).opr.sent = s.opr.sent ∧
    (contention before s).opr.lineMode = s.opr.lineMode ∧
    (contention before s).opr.partnerPresent = s.opr.partnerPresent ∧
    (contention before s).opr.missed = s.opr.missed ∧ (contention before s).opr.lossCount = s.opr.lossCount ∧
    (contention before s).opr.inStep = s.opr.inStep ∧ (contention before s).opr.matchRun = s.opr.matchRun ∧
    (contention before s).opr.mismatchRun = s.opr.mismatchRun := by
  unfold contention; split <;> simp

@[simp] theorem roleChanges_fields (before : Word32) (s : State) :
    ((roleChanges before s).1).cnu.receiver = s.cnu.receiver ∧
    ((roleChanges before s).1).cnu.reply = s.cnu.reply ∧
    ((roleChanges before s).1).cnu.waiting = s.cnu.waiting ∧ ((roleChanges before s).1).cnu.mask = s.cnu.mask ∧
    ((roleChanges before s).1).cnu.thresholds = s.cnu.thresholds ∧
    ((roleChanges before s).1).cnu.alarmEnable = s.cnu.alarmEnable ∧
    ((roleChanges before s).1).cnu.counters = s.cnu.counters ∧
    ((roleChanges before s).1).cnu.tripped = s.cnu.tripped ∧
    ((roleChanges before s).1).cnu.trippedSince = s.cnu.trippedSince ∧
    ((roleChanges before s).1).opr.strap = s.opr.strap ∧
    ((roleChanges before s).1).opr.autoTakeover = s.opr.autoTakeover ∧
    ((roleChanges before s).1).opr.inHand = s.opr.inHand ∧ ((roleChanges before s).1).opr.link = s.opr.link ∧
    ((roleChanges before s).1).opr.mains = s.opr.mains ∧ ((roleChanges before s).1).opr.sent = s.opr.sent ∧
    ((roleChanges before s).1).opr.lineMode = s.opr.lineMode ∧
    ((roleChanges before s).1).opr.partnerPresent = s.opr.partnerPresent ∧
    ((roleChanges before s).1).opr.missed = s.opr.missed ∧
    ((roleChanges before s).1).opr.lossCount = s.opr.lossCount ∧
    ((roleChanges before s).1).opr.inStep = s.opr.inStep ∧
    ((roleChanges before s).1).opr.matchRun = s.opr.matchRun ∧
    ((roleChanges before s).1).opr.mismatchRun = s.opr.mismatchRun := by
  simp [roleChanges]

@[simp] theorem pairChanges_fields (before : Word32) (s : State) :
    ((pairChanges before s).1).cnu.receiver = s.cnu.receiver ∧
    ((pairChanges before s).1).cnu.reply = s.cnu.reply ∧
    ((pairChanges before s).1).cnu.waiting = s.cnu.waiting ∧ ((pairChanges before s).1).cnu.mask = s.cnu.mask ∧
    ((pairChanges before s).1).cnu.thresholds = s.cnu.thresholds ∧
    ((pairChanges before s).1).cnu.alarmEnable = s.cnu.alarmEnable ∧
    ((pairChanges before s).1).cnu.counters = s.cnu.counters ∧
    ((pairChanges before s).1).cnu.tripped = s.cnu.tripped ∧
    ((pairChanges before s).1).cnu.trippedSince = s.cnu.trippedSince ∧
    ((pairChanges before s).1).opr.strap = s.opr.strap ∧
    ((pairChanges before s).1).opr.autoTakeover = s.opr.autoTakeover ∧
    ((pairChanges before s).1).opr.inHand = s.opr.inHand ∧ ((pairChanges before s).1).opr.link = s.opr.link ∧
    ((pairChanges before s).1).opr.mains = s.opr.mains ∧ ((pairChanges before s).1).opr.sent = s.opr.sent ∧
    ((pairChanges before s).1).opr.lineMode = s.opr.lineMode ∧
    ((pairChanges before s).1).opr.partnerPresent = s.opr.partnerPresent ∧
    ((pairChanges before s).1).opr.missed = s.opr.missed ∧
    ((pairChanges before s).1).opr.lossCount = s.opr.lossCount ∧
    ((pairChanges before s).1).opr.inStep = s.opr.inStep ∧
    ((pairChanges before s).1).opr.matchRun = s.opr.matchRun ∧
    ((pairChanges before s).1).opr.mismatchRun = s.opr.mismatchRun := by
  unfold pairChanges; split <;> simp

@[simp] theorem applyEntry_fields (acc : State × Nat) (e : TakeEntry) :
    ((applyEntry acc e).1).opr.strap = acc.1.opr.strap ∧
    ((applyEntry acc e).1).opr.autoTakeover = acc.1.opr.autoTakeover ∧
    ((applyEntry acc e).1).opr.role = acc.1.opr.role ∧ ((applyEntry acc e).1).opr.inHand = acc.1.opr.inHand ∧
    ((applyEntry acc e).1).opr.link = acc.1.opr.link ∧ ((applyEntry acc e).1).opr.mains = acc.1.opr.mains ∧
    ((applyEntry acc e).1).opr.sent = acc.1.opr.sent ∧
    ((applyEntry acc e).1).opr.partnerPresent = acc.1.opr.partnerPresent ∧
    ((applyEntry acc e).1).opr.missed = acc.1.opr.missed ∧
    ((applyEntry acc e).1).opr.lossCount = acc.1.opr.lossCount ∧
    ((applyEntry acc e).1).opr.inStep = acc.1.opr.inStep ∧
    ((applyEntry acc e).1).opr.matchRun = acc.1.opr.matchRun ∧
    ((applyEntry acc e).1).opr.mismatchRun = acc.1.opr.mismatchRun ∧
    ((applyEntry acc e).1).opr.negotiation = acc.1.opr.negotiation := by
  unfold applyEntry
  simp only []
  repeat' split
  all_goals simp [*]

/-- The take engine's passes leave everything of the pair unit but its line mode. -/
@[simp] theorem applyTakes_fields (s : State) (n : Nat) :
    ((applyTakes s n).1).opr.strap = s.opr.strap ∧ ((applyTakes s n).1).opr.autoTakeover = s.opr.autoTakeover ∧
    ((applyTakes s n).1).opr.role = s.opr.role ∧ ((applyTakes s n).1).opr.inHand = s.opr.inHand ∧
    ((applyTakes s n).1).opr.link = s.opr.link ∧ ((applyTakes s n).1).opr.mains = s.opr.mains ∧
    ((applyTakes s n).1).opr.sent = s.opr.sent ∧
    ((applyTakes s n).1).opr.partnerPresent = s.opr.partnerPresent ∧
    ((applyTakes s n).1).opr.missed = s.opr.missed ∧ ((applyTakes s n).1).opr.lossCount = s.opr.lossCount ∧
    ((applyTakes s n).1).opr.inStep = s.opr.inStep ∧ ((applyTakes s n).1).opr.matchRun = s.opr.matchRun ∧
    ((applyTakes s n).1).opr.mismatchRun = s.opr.mismatchRun ∧
    ((applyTakes s n).1).opr.negotiation = s.opr.negotiation := by
  have h := foldl_applyEntry (P := fun t =>
      t.opr.strap = s.opr.strap ∧ t.opr.autoTakeover = s.opr.autoTakeover ∧ t.opr.role = s.opr.role ∧
      t.opr.inHand = s.opr.inHand ∧ t.opr.link = s.opr.link ∧ t.opr.mains = s.opr.mains ∧ t.opr.sent = s.opr.sent ∧
      t.opr.partnerPresent = s.opr.partnerPresent ∧ t.opr.missed = s.opr.missed ∧ t.opr.lossCount = s.opr.lossCount ∧
      t.opr.inStep = s.opr.inStep ∧ t.opr.matchRun = s.opr.matchRun ∧ t.opr.mismatchRun = s.opr.mismatchRun ∧
      t.opr.negotiation = s.opr.negotiation)
    (by intro acc e hp; simpa using hp) (dueEntries s) (s, n) (by simp)
  simpa [applyTakes] using h

@[simp] theorem advance_fields (t : Time) (count : Word32) (s : State) :
    (advance t count s).opr.strap = s.opr.strap ∧ (advance t count s).opr.autoTakeover = s.opr.autoTakeover ∧
    (advance t count s).opr.role = s.opr.role ∧ (advance t count s).opr.inHand = s.opr.inHand ∧
    (advance t count s).opr.link = s.opr.link ∧ (advance t count s).opr.mains = s.opr.mains ∧
    (advance t count s).opr.sent = s.opr.sent ∧ (advance t count s).opr.partnerPresent = s.opr.partnerPresent ∧
    (advance t count s).opr.missed = s.opr.missed ∧ (advance t count s).opr.lossCount = s.opr.lossCount ∧
    (advance t count s).opr.inStep = s.opr.inStep ∧ (advance t count s).opr.matchRun = s.opr.matchRun ∧
    (advance t count s).opr.mismatchRun = s.opr.mismatchRun ∧
    (advance t count s).opr.negotiation = s.opr.negotiation ∧
    (advance t count s).opr.lineMode = s.opr.lineMode := by
  simp [advance]

@[simp] theorem abandon_fields (s : State) :
    (abandon s).cnu.receiver = s.cnu.receiver ∧ (abandon s).cnu.reply = s.cnu.reply ∧
    (abandon s).cnu.waiting = s.cnu.waiting ∧ (abandon s).cnu.mask = s.cnu.mask ∧
    (abandon s).cnu.thresholds = s.cnu.thresholds ∧ (abandon s).cnu.alarmEnable = s.cnu.alarmEnable ∧
    (abandon s).cnu.counters.degradedEntries = s.cnu.counters.degradedEntries ∧
    (abandon s).cnu.counters.ingestErrors = s.cnu.counters.ingestErrors ∧
    (abandon s).cnu.counters.overruns = s.cnu.counters.overruns ∧
    (abandon s).cnu.counters.referenceLosses = s.cnu.counters.referenceLosses ∧
    (abandon s).cnu.counters.stepLosses = s.cnu.counters.stepLosses := by
  unfold abandon; split <;> simp [PerCounter.set]

@[simp] theorem fixLineMode_fields (s : State) :
    (fixLineMode s).opr.strap = s.opr.strap ∧ (fixLineMode s).opr.autoTakeover = s.opr.autoTakeover ∧
    (fixLineMode s).opr.role = s.opr.role ∧ (fixLineMode s).opr.inHand = s.opr.inHand ∧
    (fixLineMode s).opr.link = s.opr.link ∧ (fixLineMode s).opr.mains = s.opr.mains ∧
    (fixLineMode s).opr.sent = s.opr.sent ∧ (fixLineMode s).opr.partnerPresent = s.opr.partnerPresent ∧
    (fixLineMode s).opr.missed = s.opr.missed ∧ (fixLineMode s).opr.lossCount = s.opr.lossCount ∧
    (fixLineMode s).opr.inStep = s.opr.inStep ∧ (fixLineMode s).opr.matchRun = s.opr.matchRun ∧
    (fixLineMode s).opr.mismatchRun = s.opr.mismatchRun ∧ (fixLineMode s).opr.negotiation = s.opr.negotiation ∧
    (fixLineMode s).opr.lineMode = s.opr.lineMode := by
  simp [fixLineMode]

@[simp] theorem levelChoice_fields (snap : Snapshot) (budget : Nat) (s : State) :
    (levelChoice snap budget s).cnu.receiver = s.cnu.receiver ∧
    (levelChoice snap budget s).cnu.reply = s.cnu.reply ∧
    (levelChoice snap budget s).cnu.waiting = s.cnu.waiting ∧
    (levelChoice snap budget s).cnu.mask = s.cnu.mask ∧
    (levelChoice snap budget s).cnu.thresholds = s.cnu.thresholds ∧
    (levelChoice snap budget s).cnu.alarmEnable = s.cnu.alarmEnable ∧
    (levelChoice snap budget s).cnu.counters.lateFrames = s.cnu.counters.lateFrames ∧
    (levelChoice snap budget s).cnu.counters.ingestErrors = s.cnu.counters.ingestErrors ∧
    (levelChoice snap budget s).cnu.counters.overruns = s.cnu.counters.overruns ∧
    (levelChoice snap budget s).cnu.counters.referenceLosses = s.cnu.counters.referenceLosses ∧
    (levelChoice snap budget s).cnu.counters.stepLosses = s.cnu.counters.stepLosses := by
  unfold levelChoice; simp only []; split <;> simp [PerCounter.set]

@[simp] theorem beginComposition_fields (s : State) :
    (beginComposition s).cnu.receiver = s.cnu.receiver ∧ (beginComposition s).cnu.reply = s.cnu.reply ∧
    (beginComposition s).cnu.waiting = s.cnu.waiting ∧ (beginComposition s).cnu.mask = s.cnu.mask ∧
    (beginComposition s).cnu.thresholds = s.cnu.thresholds ∧
    (beginComposition s).cnu.alarmEnable = s.cnu.alarmEnable ∧
    (beginComposition s).cnu.counters.lateFrames = s.cnu.counters.lateFrames ∧
    (beginComposition s).cnu.counters.ingestErrors = s.cnu.counters.ingestErrors ∧
    (beginComposition s).cnu.counters.overruns = s.cnu.counters.overruns ∧
    (beginComposition s).cnu.counters.referenceLosses = s.cnu.counters.referenceLosses ∧
    (beginComposition s).cnu.counters.stepLosses = s.cnu.counters.stepLosses ∧
    (beginComposition s).opr.strap = s.opr.strap ∧ (beginComposition s).opr.autoTakeover = s.opr.autoTakeover ∧
    (beginComposition s).opr.role = s.opr.role ∧ (beginComposition s).opr.inHand = s.opr.inHand ∧
    (beginComposition s).opr.link = s.opr.link ∧ (beginComposition s).opr.mains = s.opr.mains ∧
    (beginComposition s).opr.sent = s.opr.sent ∧
    (beginComposition s).opr.partnerPresent = s.opr.partnerPresent ∧
    (beginComposition s).opr.missed = s.opr.missed ∧ (beginComposition s).opr.lossCount = s.opr.lossCount ∧
    (beginComposition s).opr.inStep = s.opr.inStep ∧ (beginComposition s).opr.matchRun = s.opr.matchRun ∧
    (beginComposition s).opr.mismatchRun = s.opr.mismatchRun ∧
    (beginComposition s).opr.negotiation = s.opr.negotiation ∧
    (beginComposition s).opr.lineMode = s.opr.lineMode ∧ (beginComposition s).ing.reception = s.ing.reception ∧
    (beginComposition s).ing.gap = s.ing.gap ∧ (beginComposition s).ing.queue = s.ing.queue ∧
    (beginComposition s).ing.overrun = s.ing.overrun ∧ (beginComposition s).ing.halt = s.ing.halt ∧
    (beginComposition s).ing.resume = s.ing.resume ∧ (beginComposition s).ing.inBand = s.ing.inBand ∧
    (beginComposition s).ing.holdOff = s.ing.holdOff ∧ (beginComposition s).ing.sending = s.ing.sending ∧
    (beginComposition s).ing.waitingSymbol = s.ing.waitingSymbol ∧
    (beginComposition s).ing.lastError = s.ing.lastError := by
  simp [beginComposition]

@[simp] theorem offerUnit_fields (u : IngestUnit) (s : State) :
    (offerUnit u s).cnu.receiver = s.cnu.receiver ∧ (offerUnit u s).cnu.reply = s.cnu.reply ∧
    (offerUnit u s).cnu.waiting = s.cnu.waiting ∧ (offerUnit u s).cnu.mask = s.cnu.mask ∧
    (offerUnit u s).cnu.thresholds = s.cnu.thresholds ∧ (offerUnit u s).cnu.alarmEnable = s.cnu.alarmEnable ∧
    (offerUnit u s).cnu.counters.lateFrames = s.cnu.counters.lateFrames ∧
    (offerUnit u s).cnu.counters.degradedEntries = s.cnu.counters.degradedEntries ∧
    (offerUnit u s).cnu.counters.ingestErrors = s.cnu.counters.ingestErrors ∧
    (offerUnit u s).cnu.counters.referenceLosses = s.cnu.counters.referenceLosses ∧
    (offerUnit u s).cnu.counters.stepLosses = s.cnu.counters.stepLosses := by
  unfold offerUnit; split <;> simp [PerCounter.set]

@[simp] theorem gapPulse_fields (s : State) :
    (gapPulse s).cnu.receiver = s.cnu.receiver ∧ (gapPulse s).cnu.reply = s.cnu.reply ∧
    (gapPulse s).cnu.waiting = s.cnu.waiting ∧ (gapPulse s).cnu.mask = s.cnu.mask ∧
    (gapPulse s).cnu.thresholds = s.cnu.thresholds ∧ (gapPulse s).cnu.alarmEnable = s.cnu.alarmEnable ∧
    (gapPulse s).cnu.counters.lateFrames = s.cnu.counters.lateFrames ∧
    (gapPulse s).cnu.counters.degradedEntries = s.cnu.counters.degradedEntries ∧
    (gapPulse s).cnu.counters.ingestErrors = s.cnu.counters.ingestErrors ∧
    (gapPulse s).cnu.counters.referenceLosses = s.cnu.counters.referenceLosses ∧
    (gapPulse s).cnu.counters.stepLosses = s.cnu.counters.stepLosses := by
  unfold gapPulse
  split
  · simp
  · split <;> simp

@[simp] theorem closePeriod_fields (ended : Handed) (s : State) :
    (closePeriod ended s).opr.strap = s.opr.strap ∧
    (closePeriod ended s).opr.autoTakeover = s.opr.autoTakeover ∧ (closePeriod ended s).opr.role = s.opr.role ∧
    (closePeriod ended s).opr.link = s.opr.link ∧
    (closePeriod ended s).opr.partnerPresent = s.opr.partnerPresent ∧
    (closePeriod ended s).opr.missed = s.opr.missed ∧ (closePeriod ended s).opr.lossCount = s.opr.lossCount ∧
    (closePeriod ended s).opr.inStep = s.opr.inStep ∧ (closePeriod ended s).opr.matchRun = s.opr.matchRun ∧
    (closePeriod ended s).opr.mismatchRun = s.opr.mismatchRun ∧
    (closePeriod ended s).opr.negotiation = s.opr.negotiation ∧
    (closePeriod ended s).opr.lineMode = s.opr.lineMode := by
  unfold closePeriod; split <;> simp

@[simp] theorem linkPulse_fields (s : State) :
    (linkPulse s).opr.strap = s.opr.strap ∧ (linkPulse s).opr.autoTakeover = s.opr.autoTakeover ∧
    (linkPulse s).opr.role = s.opr.role ∧ (linkPulse s).opr.inHand = s.opr.inHand ∧
    (linkPulse s).opr.mains = s.opr.mains ∧ (linkPulse s).opr.sent = s.opr.sent ∧
    (linkPulse s).opr.partnerPresent = s.opr.partnerPresent ∧ (linkPulse s).opr.missed = s.opr.missed ∧
    (linkPulse s).opr.lossCount = s.opr.lossCount ∧ (linkPulse s).opr.inStep = s.opr.inStep ∧
    (linkPulse s).opr.matchRun = s.opr.matchRun ∧ (linkPulse s).opr.mismatchRun = s.opr.mismatchRun ∧
    (linkPulse s).opr.negotiation = s.opr.negotiation ∧ (linkPulse s).opr.lineMode = s.opr.lineMode := by
  unfold linkPulse
  simp only [State.opr_onOpr]
  split
  · simp
  · split <;> simp

end Sys2Proof.Machine
end

