-- ==== Sys2Proof/Laws/Pulse.lean ====
section
/-! SUPPORT. Laws/Pulse.lean: what a serving pulse does to the frame cycle and what it leaves, said once. -/

namespace Sys2Proof.Machine

set_option Elab.async false

/-- An operation made only on a paired part keeps whatever it keeps when made. -/
theorem whenPaired_of {P : State → Prop} {f : State → State} {s : State} (h : P (f s)) (h0 : P s) :
    P (whenPaired f s) := by
  unfold whenPaired
  split
  · exact h
  · exact h0

/-- The level presented is the one held. -/
@[simp] theorem sampleAlarm_palarm (level : Bool) (s : State) : (sampleAlarm level s).palarm = level := rfl

/-- The presence test before a pulse leaves the role, the report in hand and the cycle. -/
@[simp] theorem presence_keeps (s : State) :
    (whenPaired partnerPresence s).fcy = s.fcy ∧ (whenPaired partnerPresence s).fsw = s.fsw ∧
    (whenPaired partnerPresence s).fst = s.fst ∧ (whenPaired partnerPresence s).pln = s.pln ∧
    (whenPaired partnerPresence s).tke = s.tke ∧ (whenPaired partnerPresence s).cmp = s.cmp ∧
    (whenPaired partnerPresence s).ing = s.ing ∧ (whenPaired partnerPresence s).power = s.power ∧
    (whenPaired partnerPresence s).palarm = s.palarm ∧ (whenPaired partnerPresence s).pending = s.pending ∧
    (whenPaired partnerPresence s).opr.role = s.opr.role ∧ (whenPaired partnerPresence s).opr.inHand = s.opr.inHand ∧
    (whenPaired partnerPresence s).opr.sent = s.opr.sent ∧ (whenPaired partnerPresence s).opr.link = s.opr.link ∧
    (whenPaired partnerPresence s).opr.strap = s.opr.strap ∧
    (whenPaired partnerPresence s).opr.negotiation = s.opr.negotiation ∧
    (whenPaired partnerPresence s).opr.autoTakeover = s.opr.autoTakeover ∧
    (whenPaired partnerPresence s).cnu.receiver = s.cnu.receiver ∧
    (whenPaired partnerPresence s).cnu.reply = s.cnu.reply ∧
    (whenPaired partnerPresence s).cnu.waiting = s.cnu.waiting ∧
    (whenPaired partnerPresence s).cnu.mask = s.cnu.mask ∧
    (whenPaired partnerPresence s).cnu.thresholds = s.cnu.thresholds ∧
    (whenPaired partnerPresence s).cnu.alarmEnable = s.cnu.alarmEnable ∧
    (whenPaired partnerPresence s).cnu.counters.lateFrames = s.cnu.counters.lateFrames ∧
    (whenPaired partnerPresence s).cnu.counters.degradedEntries = s.cnu.counters.degradedEntries ∧
    (whenPaired partnerPresence s).cnu.counters.ingestErrors = s.cnu.counters.ingestErrors ∧
    (whenPaired partnerPresence s).cnu.counters.overruns = s.cnu.counters.overruns ∧
    (whenPaired partnerPresence s).cnu.counters.referenceLosses = s.cnu.counters.referenceLosses := by
  unfold whenPaired
  split <;> simp

/-- The step comparison before a pulse's role changes leaves the same. -/
@[simp] theorem comparison_keeps (s : State) :
    (whenPaired stepComparison s).fcy = s.fcy ∧ (whenPaired stepComparison s).fsw = s.fsw ∧
    (whenPaired stepComparison s).fst = s.fst ∧ (whenPaired stepComparison s).pln = s.pln ∧
    (whenPaired stepComparison s).tke = s.tke ∧ (whenPaired stepComparison s).cmp = s.cmp ∧
    (whenPaired stepComparison s).ing = s.ing ∧ (whenPaired stepComparison s).power = s.power ∧
    (whenPaired stepComparison s).palarm = s.palarm ∧ (whenPaired stepComparison s).pending = s.pending ∧
    (whenPaired stepComparison s).opr.role = s.opr.role ∧ (whenPaired stepComparison s).opr.inHand = s.opr.inHand ∧
    (whenPaired stepComparison s).opr.link = s.opr.link ∧ (whenPaired stepComparison s).opr.strap = s.opr.strap ∧
    (whenPaired stepComparison s).opr.negotiation = s.opr.negotiation ∧
    (whenPaired stepComparison s).opr.autoTakeover = s.opr.autoTakeover ∧
    (whenPaired stepComparison s).opr.partnerPresent = s.opr.partnerPresent ∧
    (whenPaired stepComparison s).opr.missed = s.opr.missed ∧
    (whenPaired stepComparison s).opr.lossCount = s.opr.lossCount ∧
    (whenPaired stepComparison s).cnu.receiver = s.cnu.receiver ∧
    (whenPaired stepComparison s).cnu.reply = s.cnu.reply ∧
    (whenPaired stepComparison s).cnu.waiting = s.cnu.waiting ∧
    (whenPaired stepComparison s).cnu.mask = s.cnu.mask ∧
    (whenPaired stepComparison s).cnu.thresholds = s.cnu.thresholds ∧
    (whenPaired stepComparison s).cnu.alarmEnable = s.cnu.alarmEnable ∧
    (whenPaired stepComparison s).cnu.counters.lateFrames = s.cnu.counters.lateFrames ∧
    (whenPaired stepComparison s).cnu.counters.degradedEntries = s.cnu.counters.degradedEntries ∧
    (whenPaired stepComparison s).cnu.counters.ingestErrors = s.cnu.counters.ingestErrors ∧
    (whenPaired stepComparison s).cnu.counters.overruns = s.cnu.counters.overruns ∧
    (whenPaired stepComparison s).cnu.counters.referenceLosses = s.cnu.counters.referenceLosses := by
  unfold whenPaired
  split <;> simp

/-- Without count sync a serving pulse counts one on (R2, R165). -/
theorem nextCount_of_no_sync {s : State} (h : s.opr.role ≠ .standby ∨ s.opr.inHand = none) :
    nextCount s = s.fcy.count + 1 := by
  unfold nextCount
  split
  · rfl
  · next r hr =>
    rcases h with h | h
    · simp [h]
    · rw [h] at hr; cases hr

/-- A composition start puts the composition of its snapshot in flight at the level the composer stands at (R10, R133). -/
theorem beginComposition_fcy (s : State) : ∃ c : Composition,
    (beginComposition s).fcy = { s.fcy with inFlight := some c } ∧ c.snap = snapshotOf s ∧ c.stopped = false ∧
    c.level = (beginComposition s).cmp.sticky ∧ c.cost = costAt c.snap c.level := by
  refine ⟨{ snap := snapshotOf s, level := (beginComposition s).cmp.sticky,
            cost := costAt (snapshotOf s) (beginComposition s).cmp.sticky
            budget := Config.budget s.fcy.rate - floorOf s.ing.halt s.ing.queue.length, stopped := false },
    ?_, rfl, rfl, rfl, rfl⟩
  simp [beginComposition, snapshotOf]

/-- The chart displayed after a pulse: the completed one, else the one displayed before it (R12, R13). -/
def displayedAfter (s : State) : Option Chart :=
  match s.fcy.completed with
  | some c => some c
  | none => s.fcy.displayed

/-- The cycle at the end of the period a pulse ends (R2, R12, R13). -/
theorem endOfPeriod_fcy (t : Time) (count : Word32) (s : State) :
    (abandon (display (advance t count s))).fcy =
      { s.fcy with count := count, lastServing := t, inFlight := none, completed := none,
                   displayed := displayedAfter s } := by
  have h : (advance t count s).fcy = { s.fcy with count := count, lastServing := t } := rfl
  have hd : (display (advance t count s)).fcy =
      { s.fcy with count := count, lastServing := t, completed := none, displayed := displayedAfter s } := by
    unfold display displayedAfter
    rw [h]
    cases hc : s.fcy.completed <;> simp [h, hc]
  unfold abandon
  rw [hd]
  cases hf : s.fcy.inFlight <;> simp [hd, hf]

/-- A serving pulse on the frame cycle (R2, R10, R12, R13). -/
theorem servingPulse_fcy (t : Time) (palarm : Bool) (s : State) : ∃ c : Composition,
    (servingPulse t palarm s).fcy =
      { s.fcy with count := nextCount (whenPaired partnerPresence (sampleAlarm palarm s)), lastServing := t,
                   inFlight := some c, completed := none, displayed := displayedAfter s } ∧
    c.snap.frame = nextCount (whenPaired partnerPresence (sampleAlarm palarm s)) + 1 ∧
    c.snap.plan = (servingPulse t palarm s).pln.air ∧ c.stopped = false ∧
    c.level = (servingPulse t palarm s).cmp.sticky := by
  unfold servingPulse
  simp only [compositionStart]
  obtain ⟨c, hc, hs, hst, hl, -⟩ := beginComposition_fcy (fixLineMode (applyTakes
    (pairChanges s.fcy.count (whenPaired stepComparison (abandon (display (advance t
      (nextCount (whenPaired partnerPresence (sampleAlarm palarm s)))
      (whenPaired partnerPresence (sampleAlarm palarm s))))))).1
    (pairChanges s.fcy.count (whenPaired stepComparison (abandon (display (advance t
      (nextCount (whenPaired partnerPresence (sampleAlarm palarm s)))
      (whenPaired partnerPresence (sampleAlarm palarm s))))))).2).1)
  refine ⟨c, ?_, ?_, ?_, hst, ?_⟩
  · simp [hc, endOfPeriod_fcy, displayedAfter]
  · simp [hs, snapshotOf, endOfPeriod_fcy]
  · simp [hs, snapshotOf]
  · simp [hl]

/-- What a serving pulse leaves: the tide and coast store, the queue of commands, the ports, the settings. -/
@[simp] theorem servingPulse_keeps (t : Time) (palarm : Bool) (s : State) :
    (servingPulse t palarm s).power = s.power ∧ (servingPulse t palarm s).palarm = palarm ∧
    (servingPulse t palarm s).fst = s.fst ∧ (servingPulse t palarm s).pending = s.pending ∧
    (servingPulse t palarm s).cnu.receiver = s.cnu.receiver ∧ (servingPulse t palarm s).cnu.reply = s.cnu.reply ∧
    (servingPulse t palarm s).cnu.waiting = s.cnu.waiting ∧ (servingPulse t palarm s).cnu.mask = s.cnu.mask ∧
    (servingPulse t palarm s).cnu.thresholds = s.cnu.thresholds ∧
    (servingPulse t palarm s).cnu.alarmEnable = s.cnu.alarmEnable ∧
    (servingPulse t palarm s).cnu.counters.ingestErrors = s.cnu.counters.ingestErrors ∧
    (servingPulse t palarm s).cnu.counters.referenceLosses = s.cnu.counters.referenceLosses ∧
    (servingPulse t palarm s).opr.strap = s.opr.strap ∧
    (servingPulse t palarm s).opr.autoTakeover = s.opr.autoTakeover := by
  simp [servingPulse, compositionStart]

end Sys2Proof.Machine
end

