-- ==== Sys2Proof/Laws/Claims.lean ====
section
/-! SUPPORT. Laws/Claims.lean: the operations of the model in the words of Safety.lean: what a request answers, a health
counter's test, flow control, a loader error, the stepped air plan, and which part of a serving pulse a field follows. -/

namespace Sys2Proof.Machine

set_option Elab.async false

/-! ### Requests -/

/-- A request on a ready port sends its rule's answer, made on the state with the port HUNTING (R177 to R179). -/
theorem request_of_ready {p : Port} {s : State} (h : Ready p s) (code : Byte) (params : List Byte) (f : Handler) :
    request p code params f s =
      sendReply p { code := code, status := (f p params (endFrame p s)).status,
                    data := (f p params (endFrame p s)).data } (f p params (endFrame p s)).state := by
  simp [request, whileRunning, h.1, completeRequest, h.2]

/-- A refused request on a ready port changes nothing but its reply. -/
theorem request_refused {p : Port} {s : State} (h : Ready p s) {code : Byte} {params : List Byte} {f : Handler}
    {status : Status} (hf : f p params (endFrame p s) = refuse status (endFrame p s)) :
    request p code params f s = answered p code status [] s := by
  rw [request_of_ready h, hf]
  rfl

/-- A request that is carried out on a ready port, whose rule only answers or rewrites what the ports do not hold. -/
theorem request_done {p : Port} {s t : State} (h : Ready p s) {code : Byte} {params data : List Byte} {f : Handler}
    (hf : f p params (endFrame p s) = done data (endFrame p t)) :
    request p code params f s = answered p code .done data t := by
  rw [request_of_ready h, hf]
  rfl

/-! ### Health counters (R184, R185) -/

/-- The test of a counter rewrites the control and notice unit as `tested` says. -/
theorem testTrip_eq (c : Counter) (s : State) : testTrip c s = { s with cnu := tested c s.cnu } := by
  unfold testTrip trips tested
  by_cases h1 : s.cnu.thresholds.get c = 0 <;> by_cases h2 : s.cnu.thresholds.get c ≤ s.cnu.counters.get c <;>
    cases h3 : s.cnu.tripped.get c <;> simp [h1, h2, raiseFault, Causes.addHealth]

/-- An increase of a counter rewrites the control and notice unit as `counted` says. -/
theorem increase_eq (c : Counter) (s : State) : increase c s = { s with cnu := counted c s.cnu } := by
  simp [increase, testTrip_eq, counted]

/-! ### Flow control and the loader (R148 to R154) -/

theorem makeSymbol_eq (y : Symbol) (i : Ing) : makeSymbol y i = symbolMade y i := by
  unfold makeSymbol symbolMade
  cases i.sending <;> rfl

theorem flowControl_eq (i : Ing) : flowControl i = flowEvaluated i := by
  unfold flowControl flowEvaluated symbolIfEnabled
  cases i.holdOff <;> simp [makeSymbol_eq]

theorem loaderError_eq (k : LoaderErrorKind) (type_ : Byte) (runId : Word16) (station : Nat) (s : State) :
    loaderError k type_ runId station s = loaderFailed k type_ runId station s := by
  simp only [loaderError, increase_eq, loaderFailed, State.onIng]
  congr 2

/-- A loader move within the grant deals with the head after its cost is paid (R151). -/
theorem moveHead_eq {s : State} {u : IngestUnit} {rest : List IngestUnit} (h : s.ing.queue = u :: rest)
    (hc : moveCost u ≤ s.ing.grant) : moveHead s = dealWith u (headTaken rest (moveCost u) s) := by
  simp [moveHead, h, hc, headTaken, State.onIng, flowControl_eq]

/-! ### The air plan (R52 to R55, R82) -/

theorem clampInt_eq {lo hi : Int} (h : lo ≤ hi) (v : Int) : clampInt lo hi v = max lo (min hi v) := by
  unfold clampInt
  split
  · omega
  · split <;> omega

theorem writeView_eq (x y w : Int) (p : Plan) : writeView x y w p = steppedView x y w p := by
  unfold writeView steppedView
  have hw : clampInt 1024 65535 w = max 1024 (min 65535 w) := clampInt_eq (by decide) w
  have hh : ((heightOf (max 1024 (min 65535 w)).toNat : Nat) : Int) = max 1024 (min 65535 w) * 9 / 16 := by
    unfold heightOf; omega
  simp only [hw, hh]
  rw [clampInt_eq (by omega), clampInt_eq (by omega)]

theorem writeStep_eq (r : SweepRecord) (air : Plan) : writeStep r air = steppedAir r air := by
  unfold writeStep steppedAir sweepCursor
  cases r.view <;> simp [writeView_eq, sweepValue, stepOf]

/-- The view of a plan within its ranges is stored as carried (R52). -/
theorem steppedView_of_law {d : Plan} (h : PlanLaw d) (p : Plan) :
    steppedView d.x0 d.y0 d.w p = { p with x0 := d.x0, y0 := d.y0, w := d.w } := by
  obtain ⟨h1, h2, h3, h4, -⟩ := h
  unfold steppedView
  have hw : max 1024 (min 65535 (d.w : Int)) = d.w := by omega
  rw [hw]
  congr 1 <;> omega

/-- A publish by cut of a draft within its ranges puts it on air whole but for its sequence number (R53). -/
theorem publishCut_of_law {d : Plan} (h : PlanLaw d) (air : Plan) :
    publishCut d air = { d with seq := air.seq + 1 } := by
  simp [publishCut, writeView_eq, steppedView_of_law h, publishContent]

/-! ### The parts of a serving pulse -/

/-- The state when the period a pulse ends has been judged: presence, count, display and step comparison. -/
def periodEnded (t : Time) (palarm : Bool) (s : State) : State :=
  let s1 := whenPaired partnerPresence (sampleAlarm palarm s)
  whenPaired stepComparison (abandon (display (advance t (nextCount s1) s1)))

/-- The state after the pair unit's role changes, with the SWAP takes applied. -/
def pairDone (t : Time) (palarm : Bool) (s : State) : State × Nat := pairChanges s.fcy.count (periodEnded t palarm s)

/-- A composition start leaves the count. -/
@[simp] theorem beginComposition_count (s : State) : (beginComposition s).fcy.count = s.fcy.count := by
  simp [beginComposition]

/-- What the composition start and the rest of a pulse leave of the pair unit. -/
theorem servingPulse_pair (t : Time) (palarm : Bool) (s : State) :
    (servingPulse t palarm s).opr.role = (pairDone t palarm s).1.opr.role ∧
    (servingPulse t palarm s).opr.negotiation = (pairDone t palarm s).1.opr.negotiation ∧
    (servingPulse t palarm s).opr.inStep = (pairDone t palarm s).1.opr.inStep ∧
    (servingPulse t palarm s).opr.matchRun = (pairDone t palarm s).1.opr.matchRun ∧
    (servingPulse t palarm s).opr.mismatchRun = (pairDone t palarm s).1.opr.mismatchRun ∧
    (servingPulse t palarm s).opr.partnerPresent = (pairDone t palarm s).1.opr.partnerPresent ∧
    (servingPulse t palarm s).opr.missed = (pairDone t palarm s).1.opr.missed ∧
    (servingPulse t palarm s).opr.lossCount = (pairDone t palarm s).1.opr.lossCount ∧
    (servingPulse t palarm s).fcy.count = (pairDone t palarm s).1.fcy.count := by
  simp [servingPulse, compositionStart, pairDone, periodEnded]

/-- What a pulse does to the plans, the wind store, the takes and the line mode is the take engine's two passes (R77); the TS
code counts the takes applied (R92). -/
theorem servingPulse_takes (t : Time) (palarm : Bool) (s : State) (r : State × Nat)
    (h : r = applyTakes (pairDone t palarm s).1 (pairDone t palarm s).2) :
    (servingPulse t palarm s).pln = r.1.pln ∧ (servingPulse t palarm s).fsw = r.1.fsw ∧
    (servingPulse t palarm s).opr.lineMode = r.1.opr.lineMode ∧
    (servingPulse t palarm s).tke = { r.1.tke with ts := tsCodeOf r.1.tke.flushMark r.2, flushMark := false } := by
  subst h
  simp [servingPulse, compositionStart, pairDone, periodEnded, setTsCode]

/-- A SOLE part has no pair work: before its takes only the cycle, the counters and the line mode in force have changed
(R160). -/
theorem pairDone_of_sole {s : State} (h : s.opr.role = .sole) (t : Time) (palarm : Bool) :
    (pairDone t palarm s).2 = 0 ∧ (pairDone t palarm s).1.fcy.count = s.fcy.count + 1 ∧
    (pairDone t palarm s).1.tke = s.tke ∧ (pairDone t palarm s).1.pln = s.pln ∧ (pairDone t palarm s).1.fsw = s.fsw ∧
    (pairDone t palarm s).1.opr = { s.opr with frameLineMode := s.opr.nextLineMode } := by
  have h0 : ∀ f : State → State, ∀ x : State, x.opr.role = .sole → whenPaired f x = x := by
    intro f x hx; simp [whenPaired, paired, hx]
  have h1 : whenPaired partnerPresence (sampleAlarm palarm s) = sampleAlarm palarm s := h0 _ _ h
  have h2 : nextCount (sampleAlarm palarm s) = s.fcy.count + 1 :=
    nextCount_of_no_sync (s := sampleAlarm palarm s) (.inl (by show s.opr.role ≠ _; rw [h]; decide))
  have h3 : (abandon (display (advance t (s.fcy.count + 1) (sampleAlarm palarm s)))).opr =
      { s.opr with frameLineMode := s.opr.nextLineMode } := by simp [advance, sampleAlarm]
  have h4 : periodEnded t palarm s = abandon (display (advance t (s.fcy.count + 1) (sampleAlarm palarm s))) := by
    simp only [periodEnded, h1, h2]
    exact h0 _ _ (by rw [h3]; exact h)
  have h5 : pairDone t palarm s = (periodEnded t palarm s, 0) := by
    simp [pairDone, pairChanges, paired, h4, h]
  rw [h5, h4]
  refine ⟨rfl, ?_, ?_, ?_, ?_, h3⟩
  · rw [endOfPeriod_fcy]
  · simp [sampleAlarm]
  · simp [sampleAlarm]
  · simp [sampleAlarm]

/-- The entries due at the next pulse, once the count has risen (R77). -/
theorem dueEntries_eq {s v : State} (takes : v.tke = s.tke) (count : v.fcy.count = s.fcy.count + 1) :
    dueEntries v = dueNext s := by
  unfold dueEntries dueNext isWaiting
  rw [takes, count, show s.fcy.count + 1 + 1 = s.fcy.count + 2 by bv_omega]

/-- The internal pulse of a SOLE part: the take engine's passes run in a state v with the count one higher, and give the
plans, the wind store, the line mode and the takes. -/
theorem solePulse_takes {s : State} {t : Time} (h : SolePulse s t) (palarm : Bool) :
    ∃ v : State, v.fcy.count = s.fcy.count + 1 ∧ v.tke = s.tke ∧ v.pln = s.pln ∧ v.fsw = s.fsw ∧
      v.opr.lineMode = s.opr.lineMode ∧
      ∃ u, exec (.internalPulse palarm) s = .next u ∧ ∀ r, r = applyTakes v 0 →
        u.pln = r.1.pln ∧ u.fsw = r.1.fsw ∧ u.opr.lineMode = r.1.opr.lineMode ∧
        u.tke = { r.1.tke with ts := tsCodeOf r.1.tke.flushMark r.2, flushMark := false } := by
  let s0 := s.onFcy fun f => { f with timer := some (t + Config.nominal f.rate) }
  have hs0 : s0.opr.role = .sole := h.sole
  obtain ⟨a0, a1, a2, a3, a4, a5⟩ := pairDone_of_sole hs0 t palarm
  refine ⟨(pairDone t palarm s0).1, a1, a2, a3, a4, by rw [a5]; rfl, servingPulse t palarm s0, ?_, ?_⟩
  · simp [exec, execInternalPulse, whileRunning, h.running, internalPulse, h.timer, s0]
  · intro r hr
    exact servingPulse_takes t palarm s0 r (by rw [hr, a0])

/-! ### Unique entries, and supersession -/

/-- Elements with one image under a map without repeats are the same. -/
theorem eq_of_map_nodup {α β : Type} {f : α → β} :
    ∀ {l : List α}, (l.map f).Nodup → ∀ x ∈ l, ∀ y ∈ l, f x = f y → x = y
  | [], _, _, hx, _, _, _ => by cases hx
  | a :: l, h, x, hx, y, hy, he => by
    simp only [List.map_cons, List.nodup_cons, List.mem_map, not_exists, not_and] at h
    rcases List.mem_cons.mp hx with rfl | hx' <;> rcases List.mem_cons.mp hy with rfl | hy'
    · rfl
    · exact absurd he.symm (h.1 y hy')
    · exact absurd he (h.1 x hx')
    · exact eq_of_map_nodup h.2 x hx' y hy' he

/-- A port and tag name at most one entry of the queue (R74). -/
theorem take_unique {t : Tke} (h : TakeLaw t) {x y : TakeEntry} (hx : x ∈ t.queue) (hy : y ∈ t.queue)
    (same : sameTake x y = true) : x = y := by
  simp only [sameTake, Bool.and_eq_true, decide_eq_true_eq] at same
  have tags := (h.1 x.port).1
  unfold usedTags at tags
  exact eq_of_map_nodup (List.nodup_append.mp tags).1 x (by simp [hx]) y (by simp [hy, same.1]) same.2.symm

/-- At most one entry is SWEEPING (R84). -/
theorem sweeping_unique {t : Tke} (h : TakeLaw t) {x y : TakeEntry} (hx : x ∈ t.queue) (hy : y ∈ t.queue)
    (sx : isSweeping x = true) (sy : isSweeping y = true) : x = y := by
  have hx' : x ∈ t.queue.filter isSweeping := by simp [hx, sx]
  have hy' : y ∈ t.queue.filter isSweeping := by simp [hy, sy]
  have most := h.2.1
  rcases hq : t.queue.filter isSweeping with _ | ⟨a, _ | ⟨b, l⟩⟩ <;> rw [hq] at hx' hy' most <;> simp_all

/-- Supersession takes the SWEEPING entry out of the queue and completes it SUPERSEDED; plans and cycle stand (R84). -/
theorem supersede_spec {v : State} (h : TakeLaw v.tke) :
    (supersede v).tke.queue = v.tke.queue.filter (fun x => !isSweeping x) ∧ (supersede v).pln = v.pln ∧
    (supersede v).fcy = v.fcy ∧ (supersede v).tke.flushMark = v.tke.flushMark ∧
    (∀ p c, c ∈ v.tke.completions.get p → c ∈ (supersede v).tke.completions.get p) ∧ Superseded v (supersede v) := by
  unfold supersede
  cases hf : v.tke.queue.find? isSweeping with
  | none =>
    have hn := List.find?_eq_none.mp hf
    refine ⟨?_, rfl, rfl, rfl, fun _ _ h => h, ?_⟩
    · rw [List.filter_eq_self.mpr]
      intro a ha
      simpa using hn a ha
    · intro x hx r st ap he
      exact absurd (by simp [isSweeping, he]) (hn x hx)
  | some e =>
    have he := List.find?_some hf
    have hm := List.mem_of_find?_eq_some hf
    cases hst : e.state with
    | queued => simp [isSweeping, hst] at he
    | deferred => simp [isSweeping, hst] at he
    | negotiating => simp [isSweeping, hst] at he
    | sweeping r st ap =>
      simp only [supersedeEntry, hst, completeTake, recordCompletion, State.onTke, completionOf]
      refine ⟨?_, by trivial, by trivial, by trivial, ?_, ?_⟩
      · unfold withoutEntry
        apply List.filter_congr
        intro x hx
        have : isSweeping x = (decide (x.port = e.port) && decide (x.tag = e.tag)) := by
          by_cases hs : sameTake e x = true
          · have := take_unique h hm hx hs
            subst this
            simp [he]
          · have h1 : isSweeping x = false := by
              by_contra hc
              have := sweeping_unique h hm hx he (by simpa using hc)
              subst this
              exact hs (by simp [sameTake])
            simp only [sameTake, Bool.and_eq_true, decide_eq_true_eq, not_and] at hs
            simpa [h1] using hs
        rw [this]
      · intro p c hc
        by_cases hpe : e.port = p
        · subst hpe
          simp [hc]
        · cases hp1 : e.port <;> cases p <;> simp_all [PerPort.set, PerPort.get]
      · intro x hx r' st' ap' hx'
        have := sweeping_unique h hm hx he (by simp [isSweeping, hx'])
        subst this
        rw [hst] at hx'
        cases hx'
        simp [completionOf]

end Sys2Proof.Machine
end

