-- ==== Sys2Proof/Laws/PerInstr.lean ====
section
/-! SUPPORT. Laws/PerInstr.lean: one fact about every command as it is framed on a control port (R176): a well-formed
request fits a frame, has a code of the table, and its characters sum to 0; UNKNOWN names no code of the table. -/

namespace Sys2Proof.Laws

open Sys2Proof Sys2Proof.Machine

/-- The command code and the parameters of a request; none for what does not come as a request (R176). -/
def requestOf : Instr → Option (Byte × List Byte)
  | .hardReset => none
  | .endOfHardReset _ _ => none
  | .internalPulse _ => none
  | .referencePulse _ _ => none
  | .lossExpiry _ => none
  | .regainExpiry => none
  | .compositionCompletion => none
  | .compositionBudgetSpent => none
  | .takeExpiry _ => none
  | .relaxation _ => none
  | .stale _ => none
  | .partnerLoss _ => none
  | .partnerReport _ => none
  | .partnerReportTimeout _ => none
  | .ingestCharacter _ => none
  | .symbolOutputDone => none
  | .loaderMove => none
  | .requestFrameError _ _ => none
  | .portReceiveTimeout _ => none
  | .unknown _ code => some (code, [])
  | .busy _ _ => none
  | .replySent _ => none
  | .requestHold _ params => some (0x10#8, params)
  | .reclaim ignored => some (0x10#8, [ignored ++ 1#1])
  | .releaseHold _ params => some (0x11#8, params)
  | .setView _ params => some (0x12#8, params)
  | .setCursor _ params => some (0x13#8, params)
  | .setLayers _ params => some (0x14#8, params)
  | .setGauge _ params => some (0x15#8, params)
  | .clearGauge _ params => some (0x16#8, params)
  | .setAreas _ params => some (0x17#8, params)
  | .copyAirToDraft _ params => some (0x18#8, params)
  | .readPlan _ params => some (0x19#8, params)
  | .setAirLock _ params => some (0x1A#8, params)
  | .clearAirLock _ params => some (0x1B#8, params)
  | .readRunStatus _ params => some (0x20#8, params)
  | .readFrameTable _ params => some (0x21#8, params)
  | .loadSegment _ params => some (0x28#8, params)
  | .deleteSegment _ params => some (0x29#8, params)
  | .readSegments _ params => some (0x2A#8, params)
  | .loadStation _ params => some (0x2C#8, params)
  | .deleteStation _ params => some (0x2D#8, params)
  | .readStation _ params => some (0x2E#8, params)
  | .submitTake _ params => some (0x30#8, params)
  | .flushTakes _ params => some (0x31#8, params)
  | .readCompletions _ params => some (0x32#8, params)
  | .readTakeLog _ params => some (0x33#8, params)
  | .readFrameRecord _ params => some (0x38#8, params)
  | .readTiming _ params => some (0x3C#8, params)
  | .readIngestStatus _ params => some (0x40#8, params)
  | .setIngestLevels _ params => some (0x41#8, params)
  | .ingestReset _ params => some (0x42#8, params)
  | .readOutputStatus _ params _ => some (0x48#8, params)
  | .setAutoTakeover _ params => some (0x49#8, params)
  | .readNotice _ params => some (0x50#8, params)
  | .setNoticeMask _ params => some (0x51#8, params)
  | .readFaultStatus _ params => some (0x52#8, params)
  | .readHealth _ params => some (0x53#8, params)
  | .setThreshold _ params => some (0x54#8, params)
  | .clearHealth _ params => some (0x55#8, params)
  | .setAlarmEnable _ params => some (0x56#8, params)
  | .restart _ params => some (0x5F#8, params)
  | .portCharacter _ _ _ => none
  | .partnerLinkCharacter _ => none
  | .powerLoss => none

/-- The check byte makes the sum of a frame's characters 0 (R176). -/
theorem sumBytes_checkByte (body : List Byte) : sumBytes (body ++ [checkByte body]) = 0 := by
  simp only [sumBytes, checkByte, List.foldl_append, List.foldl_cons, List.foldl_nil]
  generalize body.foldl (· + ·) (0 : Byte) = x
  bv_omega

/-- The characters of a request after its lead: its parameters and three more. -/
theorem requestBody_length (code : Byte) (params : List Byte) :
    (requestBody code params).length = params.length + 3 := by simp [requestBody]

/-- The characters of a request sum to 0. -/
theorem sumBytes_requestBody (code : Byte) (params : List Byte) : sumBytes (requestBody code params) = 0 :=
  sumBytes_checkByte _

namespace Framing

/-- A well-formed request fits a frame, whose characters sum to 0; its code is one of the table unless it is UNKNOWN, whose
code is not (R176, R178). -/
def Statement (i : Instr) : Prop :=
  i.wellFormed = true → ∀ code params, requestOf i = some (code, params) →
    (requestBody code params).length ≤ 252 ∧ sumBytes (requestBody code params) = 0 ∧
      (Config.commandCodes.contains code = false ↔ ∃ p c, i = .unknown p c)

/-- A command that does not come as a request. -/
theorem of_none (i : Instr) (h : requestOf i = none) : Statement i := by
  intro _ code params hr; rw [h] at hr; cases hr

/-- A request with a code of the table. -/
theorem of_request (i : Instr) (code : Byte) (params : List Byte) (h : requestOf i = some (code, params))
    (hw : i.wellFormed = framable params) (hc : Config.commandCodes.contains code = true)
    (hu : ∀ p c, i ≠ .unknown p c) : Statement i := by
  intro hwf c' p' hr
  rw [h] at hr
  cases hr
  rw [hw] at hwf
  simp only [framable, decide_eq_true_eq] at hwf
  refine ⟨by rw [requestBody_length]; omega, sumBytes_requestBody _ _, ?_⟩
  constructor
  · intro hf; rw [hc] at hf; cases hf
  · rintro ⟨p, c, rfl⟩; exact absurd rfl (hu p c)

theorem hardReset : Statement (.hardReset) := of_none _ rfl

theorem endOfHardReset (moment : Time) (straps : Straps) : Statement (.endOfHardReset moment straps) := of_none _ rfl

theorem internalPulse (palarm : Bool) : Statement (.internalPulse palarm) := of_none _ rfl

theorem referencePulse (moment : Time) (palarm : Bool) : Statement (.referencePulse moment palarm) := of_none _ rfl

theorem lossExpiry (palarm : Bool) : Statement (.lossExpiry palarm) := of_none _ rfl

theorem regainExpiry : Statement (.regainExpiry) := of_none _ rfl

theorem compositionCompletion : Statement (.compositionCompletion) := of_none _ rfl

theorem compositionBudgetSpent : Statement (.compositionBudgetSpent) := of_none _ rfl

theorem takeExpiry (e : PulseEvent) : Statement (.takeExpiry e) := of_none _ rfl

theorem relaxation (e : PulseEvent) : Statement (.relaxation e) := of_none _ rfl

theorem stale (e : PulseEvent) : Statement (.stale e) := of_none _ rfl

theorem partnerLoss (e : PulseEvent) : Statement (.partnerLoss e) := of_none _ rfl

theorem partnerReport (r : Report) : Statement (.partnerReport r) := of_none _ rfl

theorem partnerReportTimeout (e : PulseEvent) : Statement (.partnerReportTimeout e) := of_none _ rfl

theorem ingestCharacter (c : Character) : Statement (.ingestCharacter c) := of_none _ rfl

theorem symbolOutputDone : Statement (.symbolOutputDone) := of_none _ rfl

theorem loaderMove : Statement (.loaderMove) := of_none _ rfl

theorem requestFrameError (p : Port) (c : Character) : Statement (.requestFrameError p c) := of_none _ rfl

theorem portReceiveTimeout (p : Port) : Statement (.portReceiveTimeout p) := of_none _ rfl

theorem unknown (p : Port) (code : Byte) : Statement (.unknown p code) := by
  intro hw c' p' h
  cases h
  exact ⟨by rw [requestBody_length]; simp, sumBytes_requestBody _ _,
    ⟨fun _ => ⟨p, code, rfl⟩, fun _ => by simpa [Instr.wellFormed] using hw⟩⟩

theorem busy (p : Port) (code : Byte) : Statement (.busy p code) := of_none _ rfl

theorem replySent (p : Port) : Statement (.replySent p) := of_none _ rfl

theorem requestHold (p : Port) (params : List Byte) : Statement (.requestHold p params) :=
  of_request _ 0x10#8 params rfl rfl (by decide) (fun _ _ => nofun)

theorem reclaim (ignored : BitVec 7) : Statement (.reclaim ignored) :=
  of_request _ 0x10#8 [ignored ++ 1#1] rfl rfl (by decide) (fun _ _ => nofun)

theorem releaseHold (p : Port) (params : List Byte) : Statement (.releaseHold p params) :=
  of_request _ 0x11#8 params rfl rfl (by decide) (fun _ _ => nofun)

theorem setView (p : Port) (params : List Byte) : Statement (.setView p params) :=
  of_request _ 0x12#8 params rfl rfl (by decide) (fun _ _ => nofun)

theorem setCursor (p : Port) (params : List Byte) : Statement (.setCursor p params) :=
  of_request _ 0x13#8 params rfl rfl (by decide) (fun _ _ => nofun)

theorem setLayers (p : Port) (params : List Byte) : Statement (.setLayers p params) :=
  of_request _ 0x14#8 params rfl rfl (by decide) (fun _ _ => nofun)

theorem setGauge (p : Port) (params : List Byte) : Statement (.setGauge p params) :=
  of_request _ 0x15#8 params rfl rfl (by decide) (fun _ _ => nofun)

theorem clearGauge (p : Port) (params : List Byte) : Statement (.clearGauge p params) :=
  of_request _ 0x16#8 params rfl rfl (by decide) (fun _ _ => nofun)

theorem setAreas (p : Port) (params : List Byte) : Statement (.setAreas p params) :=
  of_request _ 0x17#8 params rfl rfl (by decide) (fun _ _ => nofun)

theorem copyAirToDraft (p : Port) (params : List Byte) : Statement (.copyAirToDraft p params) :=
  of_request _ 0x18#8 params rfl rfl (by decide) (fun _ _ => nofun)

theorem readPlan (p : Port) (params : List Byte) : Statement (.readPlan p params) :=
  of_request _ 0x19#8 params rfl rfl (by decide) (fun _ _ => nofun)

theorem setAirLock (p : Port) (params : List Byte) : Statement (.setAirLock p params) :=
  of_request _ 0x1A#8 params rfl rfl (by decide) (fun _ _ => nofun)

theorem clearAirLock (p : Port) (params : List Byte) : Statement (.clearAirLock p params) :=
  of_request _ 0x1B#8 params rfl rfl (by decide) (fun _ _ => nofun)

theorem readRunStatus (p : Port) (params : List Byte) : Statement (.readRunStatus p params) :=
  of_request _ 0x20#8 params rfl rfl (by decide) (fun _ _ => nofun)

theorem readFrameTable (p : Port) (params : List Byte) : Statement (.readFrameTable p params) :=
  of_request _ 0x21#8 params rfl rfl (by decide) (fun _ _ => nofun)

theorem loadSegment (p : Port) (params : List Byte) : Statement (.loadSegment p params) :=
  of_request _ 0x28#8 params rfl rfl (by decide) (fun _ _ => nofun)

theorem deleteSegment (p : Port) (params : List Byte) : Statement (.deleteSegment p params) :=
  of_request _ 0x29#8 params rfl rfl (by decide) (fun _ _ => nofun)

theorem readSegments (p : Port) (params : List Byte) : Statement (.readSegments p params) :=
  of_request _ 0x2A#8 params rfl rfl (by decide) (fun _ _ => nofun)

theorem loadStation (p : Port) (params : List Byte) : Statement (.loadStation p params) :=
  of_request _ 0x2C#8 params rfl rfl (by decide) (fun _ _ => nofun)

theorem deleteStation (p : Port) (params : List Byte) : Statement (.deleteStation p params) :=
  of_request _ 0x2D#8 params rfl rfl (by decide) (fun _ _ => nofun)

theorem readStation (p : Port) (params : List Byte) : Statement (.readStation p params) :=
  of_request _ 0x2E#8 params rfl rfl (by decide) (fun _ _ => nofun)

theorem submitTake (p : Port) (params : List Byte) : Statement (.submitTake p params) :=
  of_request _ 0x30#8 params rfl rfl (by decide) (fun _ _ => nofun)

theorem flushTakes (p : Port) (params : List Byte) : Statement (.flushTakes p params) :=
  of_request _ 0x31#8 params rfl rfl (by decide) (fun _ _ => nofun)

theorem readCompletions (p : Port) (params : List Byte) : Statement (.readCompletions p params) :=
  of_request _ 0x32#8 params rfl rfl (by decide) (fun _ _ => nofun)

theorem readTakeLog (p : Port) (params : List Byte) : Statement (.readTakeLog p params) :=
  of_request _ 0x33#8 params rfl rfl (by decide) (fun _ _ => nofun)

theorem readFrameRecord (p : Port) (params : List Byte) : Statement (.readFrameRecord p params) :=
  of_request _ 0x38#8 params rfl rfl (by decide) (fun _ _ => nofun)

theorem readTiming (p : Port) (params : List Byte) : Statement (.readTiming p params) :=
  of_request _ 0x3C#8 params rfl rfl (by decide) (fun _ _ => nofun)

theorem readIngestStatus (p : Port) (params : List Byte) : Statement (.readIngestStatus p params) :=
  of_request _ 0x40#8 params rfl rfl (by decide) (fun _ _ => nofun)

theorem setIngestLevels (p : Port) (params : List Byte) : Statement (.setIngestLevels p params) :=
  of_request _ 0x41#8 params rfl rfl (by decide) (fun _ _ => nofun)

theorem ingestReset (p : Port) (params : List Byte) : Statement (.ingestReset p params) :=
  of_request _ 0x42#8 params rfl rfl (by decide) (fun _ _ => nofun)

theorem readOutputStatus (p : Port) (params : List Byte) (palarm : Bool) : Statement (.readOutputStatus p params palarm) :=
  of_request _ 0x48#8 params rfl rfl (by decide) (fun _ _ => nofun)

theorem setAutoTakeover (p : Port) (params : List Byte) : Statement (.setAutoTakeover p params) :=
  of_request _ 0x49#8 params rfl rfl (by decide) (fun _ _ => nofun)

theorem readNotice (p : Port) (params : List Byte) : Statement (.readNotice p params) :=
  of_request _ 0x50#8 params rfl rfl (by decide) (fun _ _ => nofun)

theorem setNoticeMask (p : Port) (params : List Byte) : Statement (.setNoticeMask p params) :=
  of_request _ 0x51#8 params rfl rfl (by decide) (fun _ _ => nofun)

theorem readFaultStatus (p : Port) (params : List Byte) : Statement (.readFaultStatus p params) :=
  of_request _ 0x52#8 params rfl rfl (by decide) (fun _ _ => nofun)

theorem readHealth (p : Port) (params : List Byte) : Statement (.readHealth p params) :=
  of_request _ 0x53#8 params rfl rfl (by decide) (fun _ _ => nofun)

theorem setThreshold (p : Port) (params : List Byte) : Statement (.setThreshold p params) :=
  of_request _ 0x54#8 params rfl rfl (by decide) (fun _ _ => nofun)

theorem clearHealth (p : Port) (params : List Byte) : Statement (.clearHealth p params) :=
  of_request _ 0x55#8 params rfl rfl (by decide) (fun _ _ => nofun)

theorem setAlarmEnable (p : Port) (params : List Byte) : Statement (.setAlarmEnable p params) :=
  of_request _ 0x56#8 params rfl rfl (by decide) (fun _ _ => nofun)

theorem restart (p : Port) (params : List Byte) : Statement (.restart p params) :=
  of_request _ 0x5F#8 params rfl rfl (by decide) (fun _ _ => nofun)

theorem portCharacter (p : Port) (b : Byte) (palarm : Bool) : Statement (.portCharacter p b palarm) := of_none _ rfl

theorem partnerLinkCharacter (c : Character) : Statement (.partnerLinkCharacter c) := of_none _ rfl

theorem powerLoss : Statement (.powerLoss) := of_none _ rfl

end Framing

end Sys2Proof.Laws
end

