-- ==== Sys2Proof/Laws/Requests.lean ====
section
/-! SUPPORT. Laws/Requests.lean: for each request the blocks its rule leaves. A request touches no block but its own, and
RESTART leaves the frame cycle and the tide and coast store (R16, R50). -/

namespace Sys2Proof.Machine

set_option Elab.async false

@[simp] theorem refuse_state (status : Status) (s : State) : (refuse status s).state = s := rfl

@[simp] theorem done_state (data : List Byte) (s : State) : (done data s).state = s := rfl

@[simp] theorem onDraft_keeps (f : Plan → Plan) (s : State) :
    (onDraft f s).power = s.power ∧ (onDraft f s).palarm = s.palarm ∧ (onDraft f s).fcy = s.fcy ∧
    (onDraft f s).fsw = s.fsw ∧ (onDraft f s).fst = s.fst ∧ (onDraft f s).tke = s.tke ∧ (onDraft f s).cmp = s.cmp ∧
    (onDraft f s).ing = s.ing ∧ (onDraft f s).opr = s.opr ∧ (onDraft f s).cnu = s.cnu ∧
    (onDraft f s).pending = s.pending := by
  simp [onDraft]

@[simp] theorem tellHold_keeps (p : Port) (e : HoldEvent) (s : State) :
    (tellHold p e s).power = s.power ∧ (tellHold p e s).palarm = s.palarm ∧ (tellHold p e s).fcy = s.fcy ∧
    (tellHold p e s).fsw = s.fsw ∧ (tellHold p e s).fst = s.fst ∧ (tellHold p e s).tke = s.tke ∧
    (tellHold p e s).cmp = s.cmp ∧ (tellHold p e s).ing = s.ing ∧ (tellHold p e s).opr = s.opr ∧
    (tellHold p e s).pending = s.pending := by
  simp [tellHold]

@[simp] theorem foldl_flushEntry_keeps (l : List TakeEntry) (s : State) :
    (l.foldl flushEntry s).power = s.power ∧ (l.foldl flushEntry s).palarm = s.palarm ∧
    (l.foldl flushEntry s).fcy = s.fcy ∧ (l.foldl flushEntry s).fsw = s.fsw ∧ (l.foldl flushEntry s).fst = s.fst ∧
    (l.foldl flushEntry s).pln = s.pln ∧ (l.foldl flushEntry s).cmp = s.cmp ∧ (l.foldl flushEntry s).ing = s.ing ∧
    (l.foldl flushEntry s).opr = s.opr ∧ (l.foldl flushEntry s).cnu = s.cnu ∧
    (l.foldl flushEntry s).pending = s.pending := by
  induction l generalizing s with
  | nil => simp
  | cons e rest ih => simp [List.foldl_cons, ih, flushEntry]

@[simp] theorem reqRequestHold_keeps (p : Port) (params : List Byte) (s : State) :
    (reqRequestHold p params s).state.power = s.power ∧ (reqRequestHold p params s).state.palarm = s.palarm ∧
    (reqRequestHold p params s).state.fcy = s.fcy ∧ (reqRequestHold p params s).state.fsw = s.fsw ∧
    (reqRequestHold p params s).state.fst = s.fst ∧ (reqRequestHold p params s).state.tke = s.tke ∧
    (reqRequestHold p params s).state.cmp = s.cmp ∧ (reqRequestHold p params s).state.ing = s.ing ∧
    (reqRequestHold p params s).state.opr = s.opr ∧ (reqRequestHold p params s).state.pending = s.pending := by
  unfold reqRequestHold
  try simp only []
  repeat' split
  all_goals simp [reclaimHold]

@[simp] theorem reqReleaseHold_keeps (p : Port) (params : List Byte) (s : State) :
    (reqReleaseHold p params s).state.power = s.power ∧ (reqReleaseHold p params s).state.palarm = s.palarm ∧
    (reqReleaseHold p params s).state.fcy = s.fcy ∧ (reqReleaseHold p params s).state.fsw = s.fsw ∧
    (reqReleaseHold p params s).state.fst = s.fst ∧ (reqReleaseHold p params s).state.tke = s.tke ∧
    (reqReleaseHold p params s).state.cmp = s.cmp ∧ (reqReleaseHold p params s).state.ing = s.ing ∧
    (reqReleaseHold p params s).state.opr = s.opr ∧ (reqReleaseHold p params s).state.pending = s.pending := by
  unfold reqReleaseHold
  try simp only []
  repeat' split
  all_goals simp [releaseHold]
  all_goals (repeat' split)
  all_goals simp

@[simp] theorem reqSetView_keeps (p : Port) (params : List Byte) (s : State) :
    (reqSetView p params s).state.power = s.power ∧ (reqSetView p params s).state.palarm = s.palarm ∧
    (reqSetView p params s).state.fcy = s.fcy ∧ (reqSetView p params s).state.fsw = s.fsw ∧
    (reqSetView p params s).state.fst = s.fst ∧ (reqSetView p params s).state.tke = s.tke ∧
    (reqSetView p params s).state.cmp = s.cmp ∧ (reqSetView p params s).state.ing = s.ing ∧
    (reqSetView p params s).state.opr = s.opr ∧ (reqSetView p params s).state.cnu = s.cnu ∧
    (reqSetView p params s).state.pending = s.pending := by
  unfold reqSetView
  try simp only []
  repeat' split
  all_goals simp

@[simp] theorem reqSetCursor_keeps (p : Port) (params : List Byte) (s : State) :
    (reqSetCursor p params s).state.power = s.power ∧ (reqSetCursor p params s).state.palarm = s.palarm ∧
    (reqSetCursor p params s).state.fcy = s.fcy ∧ (reqSetCursor p params s).state.fsw = s.fsw ∧
    (reqSetCursor p params s).state.fst = s.fst ∧ (reqSetCursor p params s).state.tke = s.tke ∧
    (reqSetCursor p params s).state.cmp = s.cmp ∧ (reqSetCursor p params s).state.ing = s.ing ∧
    (reqSetCursor p params s).state.opr = s.opr ∧ (reqSetCursor p params s).state.cnu = s.cnu ∧
    (reqSetCursor p params s).state.pending = s.pending := by
  unfold reqSetCursor
  try simp only []
  repeat' split
  all_goals simp

@[simp] theorem reqSetLayers_keeps (p : Port) (params : List Byte) (s : State) :
    (reqSetLayers p params s).state.power = s.power ∧ (reqSetLayers p params s).state.palarm = s.palarm ∧
    (reqSetLayers p params s).state.fcy = s.fcy ∧ (reqSetLayers p params s).state.fsw = s.fsw ∧
    (reqSetLayers p params s).state.fst = s.fst ∧ (reqSetLayers p params s).state.tke = s.tke ∧
    (reqSetLayers p params s).state.cmp = s.cmp ∧ (reqSetLayers p params s).state.ing = s.ing ∧
    (reqSetLayers p params s).state.opr = s.opr ∧ (reqSetLayers p params s).state.cnu = s.cnu ∧
    (reqSetLayers p params s).state.pending = s.pending := by
  unfold reqSetLayers
  try simp only []
  repeat' split
  all_goals simp

@[simp] theorem reqSetGauge_keeps (p : Port) (params : List Byte) (s : State) :
    (reqSetGauge p params s).state.power = s.power ∧ (reqSetGauge p params s).state.palarm = s.palarm ∧
    (reqSetGauge p params s).state.fcy = s.fcy ∧ (reqSetGauge p params s).state.fsw = s.fsw ∧
    (reqSetGauge p params s).state.fst = s.fst ∧ (reqSetGauge p params s).state.tke = s.tke ∧
    (reqSetGauge p params s).state.cmp = s.cmp ∧ (reqSetGauge p params s).state.ing = s.ing ∧
    (reqSetGauge p params s).state.opr = s.opr ∧ (reqSetGauge p params s).state.cnu = s.cnu ∧
    (reqSetGauge p params s).state.pending = s.pending := by
  unfold reqSetGauge
  try simp only []
  repeat' split
  all_goals simp

@[simp] theorem reqClearGauge_keeps (p : Port) (params : List Byte) (s : State) :
    (reqClearGauge p params s).state.power = s.power ∧ (reqClearGauge p params s).state.palarm = s.palarm ∧
    (reqClearGauge p params s).state.fcy = s.fcy ∧ (reqClearGauge p params s).state.fsw = s.fsw ∧
    (reqClearGauge p params s).state.fst = s.fst ∧ (reqClearGauge p params s).state.tke = s.tke ∧
    (reqClearGauge p params s).state.cmp = s.cmp ∧ (reqClearGauge p params s).state.ing = s.ing ∧
    (reqClearGauge p params s).state.opr = s.opr ∧ (reqClearGauge p params s).state.cnu = s.cnu ∧
    (reqClearGauge p params s).state.pending = s.pending := by
  unfold reqClearGauge
  try simp only []
  repeat' split
  all_goals simp

@[simp] theorem reqSetAreas_keeps (p : Port) (params : List Byte) (s : State) :
    (reqSetAreas p params s).state.power = s.power ∧ (reqSetAreas p params s).state.palarm = s.palarm ∧
    (reqSetAreas p params s).state.fcy = s.fcy ∧ (reqSetAreas p params s).state.fsw = s.fsw ∧
    (reqSetAreas p params s).state.fst = s.fst ∧ (reqSetAreas p params s).state.tke = s.tke ∧
    (reqSetAreas p params s).state.cmp = s.cmp ∧ (reqSetAreas p params s).state.ing = s.ing ∧
    (reqSetAreas p params s).state.opr = s.opr ∧ (reqSetAreas p params s).state.cnu = s.cnu ∧
    (reqSetAreas p params s).state.pending = s.pending := by
  unfold reqSetAreas
  try simp only []
  repeat' split
  all_goals simp

@[simp] theorem reqCopyAirToDraft_keeps (p : Port) (params : List Byte) (s : State) :
    (reqCopyAirToDraft p params s).state.power = s.power ∧
    (reqCopyAirToDraft p params s).state.palarm = s.palarm ∧ (reqCopyAirToDraft p params s).state.fcy = s.fcy ∧
    (reqCopyAirToDraft p params s).state.fsw = s.fsw ∧ (reqCopyAirToDraft p params s).state.fst = s.fst ∧
    (reqCopyAirToDraft p params s).state.tke = s.tke ∧ (reqCopyAirToDraft p params s).state.cmp = s.cmp ∧
    (reqCopyAirToDraft p params s).state.ing = s.ing ∧ (reqCopyAirToDraft p params s).state.opr = s.opr ∧
    (reqCopyAirToDraft p params s).state.cnu = s.cnu ∧
    (reqCopyAirToDraft p params s).state.pending = s.pending := by
  unfold reqCopyAirToDraft
  try simp only []
  repeat' split
  all_goals simp

@[simp] theorem reqReadPlan_keeps (p : Port) (params : List Byte) (s : State) :
    (reqReadPlan p params s).state.power = s.power ∧ (reqReadPlan p params s).state.palarm = s.palarm ∧
    (reqReadPlan p params s).state.fcy = s.fcy ∧ (reqReadPlan p params s).state.fsw = s.fsw ∧
    (reqReadPlan p params s).state.fst = s.fst ∧ (reqReadPlan p params s).state.pln = s.pln ∧
    (reqReadPlan p params s).state.tke = s.tke ∧ (reqReadPlan p params s).state.cmp = s.cmp ∧
    (reqReadPlan p params s).state.ing = s.ing ∧ (reqReadPlan p params s).state.opr = s.opr ∧
    (reqReadPlan p params s).state.cnu = s.cnu ∧ (reqReadPlan p params s).state.pending = s.pending := by
  unfold reqReadPlan
  try simp only []
  repeat' split
  all_goals simp

@[simp] theorem reqSetAirLock_keeps (p : Port) (params : List Byte) (s : State) :
    (reqSetAirLock p params s).state.power = s.power ∧ (reqSetAirLock p params s).state.palarm = s.palarm ∧
    (reqSetAirLock p params s).state.fcy = s.fcy ∧ (reqSetAirLock p params s).state.fsw = s.fsw ∧
    (reqSetAirLock p params s).state.fst = s.fst ∧ (reqSetAirLock p params s).state.tke = s.tke ∧
    (reqSetAirLock p params s).state.cmp = s.cmp ∧ (reqSetAirLock p params s).state.ing = s.ing ∧
    (reqSetAirLock p params s).state.opr = s.opr ∧ (reqSetAirLock p params s).state.cnu = s.cnu ∧
    (reqSetAirLock p params s).state.pending = s.pending := by
  unfold reqSetAirLock
  try simp only []
  repeat' split
  all_goals simp

@[simp] theorem reqClearAirLock_keeps (p : Port) (params : List Byte) (s : State) :
    (reqClearAirLock p params s).state.power = s.power ∧ (reqClearAirLock p params s).state.palarm = s.palarm ∧
    (reqClearAirLock p params s).state.fcy = s.fcy ∧ (reqClearAirLock p params s).state.fsw = s.fsw ∧
    (reqClearAirLock p params s).state.fst = s.fst ∧ (reqClearAirLock p params s).state.tke = s.tke ∧
    (reqClearAirLock p params s).state.cmp = s.cmp ∧ (reqClearAirLock p params s).state.ing = s.ing ∧
    (reqClearAirLock p params s).state.opr = s.opr ∧ (reqClearAirLock p params s).state.cnu = s.cnu ∧
    (reqClearAirLock p params s).state.pending = s.pending := by
  unfold reqClearAirLock
  try simp only []
  repeat' split
  all_goals simp

@[simp] theorem reqReadRunStatus_keeps (p : Port) (params : List Byte) (s : State) :
    (reqReadRunStatus p params s).state.power = s.power ∧
    (reqReadRunStatus p params s).state.palarm = s.palarm ∧ (reqReadRunStatus p params s).state.fcy = s.fcy ∧
    (reqReadRunStatus p params s).state.fsw = s.fsw ∧ (reqReadRunStatus p params s).state.fst = s.fst ∧
    (reqReadRunStatus p params s).state.pln = s.pln ∧ (reqReadRunStatus p params s).state.tke = s.tke ∧
    (reqReadRunStatus p params s).state.cmp = s.cmp ∧ (reqReadRunStatus p params s).state.ing = s.ing ∧
    (reqReadRunStatus p params s).state.opr = s.opr ∧
    (reqReadRunStatus p params s).state.pending = s.pending := by
  unfold reqReadRunStatus
  try simp only []
  repeat' split
  all_goals simp

@[simp] theorem reqReadFrameTable_keeps (p : Port) (params : List Byte) (s : State) :
    (reqReadFrameTable p params s).state.power = s.power ∧
    (reqReadFrameTable p params s).state.palarm = s.palarm ∧ (reqReadFrameTable p params s).state.fcy = s.fcy ∧
    (reqReadFrameTable p params s).state.fsw = s.fsw ∧ (reqReadFrameTable p params s).state.fst = s.fst ∧
    (reqReadFrameTable p params s).state.pln = s.pln ∧ (reqReadFrameTable p params s).state.tke = s.tke ∧
    (reqReadFrameTable p params s).state.cmp = s.cmp ∧ (reqReadFrameTable p params s).state.ing = s.ing ∧
    (reqReadFrameTable p params s).state.opr = s.opr ∧ (reqReadFrameTable p params s).state.cnu = s.cnu ∧
    (reqReadFrameTable p params s).state.pending = s.pending := by
  unfold reqReadFrameTable
  try simp only []
  repeat' split
  all_goals simp

@[simp] theorem reqLoadSegment_keeps (p : Port) (params : List Byte) (s : State) :
    (reqLoadSegment p params s).state.power = s.power ∧ (reqLoadSegment p params s).state.palarm = s.palarm ∧
    (reqLoadSegment p params s).state.fcy = s.fcy ∧ (reqLoadSegment p params s).state.fsw = s.fsw ∧
    (reqLoadSegment p params s).state.pln = s.pln ∧ (reqLoadSegment p params s).state.tke = s.tke ∧
    (reqLoadSegment p params s).state.cmp = s.cmp ∧ (reqLoadSegment p params s).state.ing = s.ing ∧
    (reqLoadSegment p params s).state.opr = s.opr ∧ (reqLoadSegment p params s).state.cnu = s.cnu ∧
    (reqLoadSegment p params s).state.pending = s.pending := by
  unfold reqLoadSegment
  try simp only []
  repeat' split
  all_goals simp

@[simp] theorem reqDeleteSegment_keeps (p : Port) (params : List Byte) (s : State) :
    (reqDeleteSegment p params s).state.power = s.power ∧
    (reqDeleteSegment p params s).state.palarm = s.palarm ∧ (reqDeleteSegment p params s).state.fcy = s.fcy ∧
    (reqDeleteSegment p params s).state.fsw = s.fsw ∧ (reqDeleteSegment p params s).state.pln = s.pln ∧
    (reqDeleteSegment p params s).state.tke = s.tke ∧ (reqDeleteSegment p params s).state.cmp = s.cmp ∧
    (reqDeleteSegment p params s).state.ing = s.ing ∧ (reqDeleteSegment p params s).state.opr = s.opr ∧
    (reqDeleteSegment p params s).state.cnu = s.cnu ∧
    (reqDeleteSegment p params s).state.pending = s.pending := by
  unfold reqDeleteSegment
  try simp only []
  repeat' split
  all_goals simp

@[simp] theorem reqReadSegments_keeps (p : Port) (params : List Byte) (s : State) :
    (reqReadSegments p params s).state.power = s.power ∧ (reqReadSegments p params s).state.palarm = s.palarm ∧
    (reqReadSegments p params s).state.fcy = s.fcy ∧ (reqReadSegments p params s).state.fsw = s.fsw ∧
    (reqReadSegments p params s).state.fst = s.fst ∧ (reqReadSegments p params s).state.pln = s.pln ∧
    (reqReadSegments p params s).state.tke = s.tke ∧ (reqReadSegments p params s).state.cmp = s.cmp ∧
    (reqReadSegments p params s).state.ing = s.ing ∧ (reqReadSegments p params s).state.opr = s.opr ∧
    (reqReadSegments p params s).state.cnu = s.cnu ∧
    (reqReadSegments p params s).state.pending = s.pending := by
  unfold reqReadSegments
  try simp only []
  repeat' split
  all_goals simp

@[simp] theorem reqLoadStation_keeps (p : Port) (params : List Byte) (s : State) :
    (reqLoadStation p params s).state.power = s.power ∧ (reqLoadStation p params s).state.palarm = s.palarm ∧
    (reqLoadStation p params s).state.fcy = s.fcy ∧ (reqLoadStation p params s).state.fsw = s.fsw ∧
    (reqLoadStation p params s).state.pln = s.pln ∧ (reqLoadStation p params s).state.tke = s.tke ∧
    (reqLoadStation p params s).state.cmp = s.cmp ∧ (reqLoadStation p params s).state.ing = s.ing ∧
    (reqLoadStation p params s).state.opr = s.opr ∧ (reqLoadStation p params s).state.cnu = s.cnu ∧
    (reqLoadStation p params s).state.pending = s.pending := by
  unfold reqLoadStation
  try simp only []
  repeat' split
  all_goals simp

@[simp] theorem reqDeleteStation_keeps (p : Port) (params : List Byte) (s : State) :
    (reqDeleteStation p params s).state.power = s.power ∧
    (reqDeleteStation p params s).state.palarm = s.palarm ∧ (reqDeleteStation p params s).state.fcy = s.fcy ∧
    (reqDeleteStation p params s).state.fsw = s.fsw ∧ (reqDeleteStation p params s).state.pln = s.pln ∧
    (reqDeleteStation p params s).state.tke = s.tke ∧ (reqDeleteStation p params s).state.cmp = s.cmp ∧
    (reqDeleteStation p params s).state.ing = s.ing ∧ (reqDeleteStation p params s).state.opr = s.opr ∧
    (reqDeleteStation p params s).state.cnu = s.cnu ∧
    (reqDeleteStation p params s).state.pending = s.pending := by
  unfold reqDeleteStation
  try simp only []
  repeat' split
  all_goals simp

@[simp] theorem reqReadStation_keeps (p : Port) (params : List Byte) (s : State) :
    (reqReadStation p params s).state.power = s.power ∧ (reqReadStation p params s).state.palarm = s.palarm ∧
    (reqReadStation p params s).state.fcy = s.fcy ∧ (reqReadStation p params s).state.fsw = s.fsw ∧
    (reqReadStation p params s).state.fst = s.fst ∧ (reqReadStation p params s).state.pln = s.pln ∧
    (reqReadStation p params s).state.tke = s.tke ∧ (reqReadStation p params s).state.cmp = s.cmp ∧
    (reqReadStation p params s).state.ing = s.ing ∧ (reqReadStation p params s).state.opr = s.opr ∧
    (reqReadStation p params s).state.cnu = s.cnu ∧ (reqReadStation p params s).state.pending = s.pending := by
  unfold reqReadStation
  try simp only []
  repeat' split
  all_goals simp

@[simp] theorem reqSubmitTake_keeps (p : Port) (params : List Byte) (s : State) :
    (reqSubmitTake p params s).state.power = s.power ∧ (reqSubmitTake p params s).state.palarm = s.palarm ∧
    (reqSubmitTake p params s).state.fcy = s.fcy ∧ (reqSubmitTake p params s).state.fsw = s.fsw ∧
    (reqSubmitTake p params s).state.fst = s.fst ∧ (reqSubmitTake p params s).state.pln = s.pln ∧
    (reqSubmitTake p params s).state.cmp = s.cmp ∧ (reqSubmitTake p params s).state.ing = s.ing ∧
    (reqSubmitTake p params s).state.cnu = s.cnu ∧ (reqSubmitTake p params s).state.pending = s.pending := by
  unfold reqSubmitTake
  try simp only []
  repeat' split
  all_goals simp [acceptTake, completeAtAcceptance, enqueueTake]
  all_goals (repeat' split)
  all_goals simp

@[simp] theorem reqFlushTakes_keeps (p : Port) (params : List Byte) (s : State) :
    (reqFlushTakes p params s).state.power = s.power ∧ (reqFlushTakes p params s).state.palarm = s.palarm ∧
    (reqFlushTakes p params s).state.fcy = s.fcy ∧ (reqFlushTakes p params s).state.fsw = s.fsw ∧
    (reqFlushTakes p params s).state.fst = s.fst ∧ (reqFlushTakes p params s).state.pln = s.pln ∧
    (reqFlushTakes p params s).state.cmp = s.cmp ∧ (reqFlushTakes p params s).state.ing = s.ing ∧
    (reqFlushTakes p params s).state.opr = s.opr ∧ (reqFlushTakes p params s).state.cnu = s.cnu ∧
    (reqFlushTakes p params s).state.pending = s.pending := by
  unfold reqFlushTakes
  try simp only []
  repeat' split
  all_goals simp

@[simp] theorem reqReadCompletions_keeps (p : Port) (params : List Byte) (s : State) :
    (reqReadCompletions p params s).state.power = s.power ∧
    (reqReadCompletions p params s).state.palarm = s.palarm ∧
    (reqReadCompletions p params s).state.fcy = s.fcy ∧ (reqReadCompletions p params s).state.fsw = s.fsw ∧
    (reqReadCompletions p params s).state.fst = s.fst ∧ (reqReadCompletions p params s).state.pln = s.pln ∧
    (reqReadCompletions p params s).state.cmp = s.cmp ∧ (reqReadCompletions p params s).state.ing = s.ing ∧
    (reqReadCompletions p params s).state.opr = s.opr ∧ (reqReadCompletions p params s).state.cnu = s.cnu ∧
    (reqReadCompletions p params s).state.pending = s.pending := by
  unfold reqReadCompletions
  try simp only []
  repeat' split
  all_goals simp

@[simp] theorem reqReadTakeLog_keeps (p : Port) (params : List Byte) (s : State) :
    (reqReadTakeLog p params s).state.power = s.power ∧ (reqReadTakeLog p params s).state.palarm = s.palarm ∧
    (reqReadTakeLog p params s).state.fcy = s.fcy ∧ (reqReadTakeLog p params s).state.fsw = s.fsw ∧
    (reqReadTakeLog p params s).state.fst = s.fst ∧ (reqReadTakeLog p params s).state.pln = s.pln ∧
    (reqReadTakeLog p params s).state.tke = s.tke ∧ (reqReadTakeLog p params s).state.cmp = s.cmp ∧
    (reqReadTakeLog p params s).state.ing = s.ing ∧ (reqReadTakeLog p params s).state.opr = s.opr ∧
    (reqReadTakeLog p params s).state.cnu = s.cnu ∧ (reqReadTakeLog p params s).state.pending = s.pending := by
  unfold reqReadTakeLog
  try simp only []
  repeat' split
  all_goals simp

@[simp] theorem reqReadFrameRecord_keeps (p : Port) (params : List Byte) (s : State) :
    (reqReadFrameRecord p params s).state.power = s.power ∧
    (reqReadFrameRecord p params s).state.palarm = s.palarm ∧
    (reqReadFrameRecord p params s).state.fcy = s.fcy ∧ (reqReadFrameRecord p params s).state.fsw = s.fsw ∧
    (reqReadFrameRecord p params s).state.fst = s.fst ∧ (reqReadFrameRecord p params s).state.pln = s.pln ∧
    (reqReadFrameRecord p params s).state.tke = s.tke ∧ (reqReadFrameRecord p params s).state.cmp = s.cmp ∧
    (reqReadFrameRecord p params s).state.ing = s.ing ∧ (reqReadFrameRecord p params s).state.opr = s.opr ∧
    (reqReadFrameRecord p params s).state.cnu = s.cnu ∧
    (reqReadFrameRecord p params s).state.pending = s.pending := by
  unfold reqReadFrameRecord
  try simp only []
  repeat' split
  all_goals simp

@[simp] theorem reqReadTiming_keeps (p : Port) (params : List Byte) (s : State) :
    (reqReadTiming p params s).state.power = s.power ∧ (reqReadTiming p params s).state.palarm = s.palarm ∧
    (reqReadTiming p params s).state.fcy = s.fcy ∧ (reqReadTiming p params s).state.fsw = s.fsw ∧
    (reqReadTiming p params s).state.fst = s.fst ∧ (reqReadTiming p params s).state.pln = s.pln ∧
    (reqReadTiming p params s).state.tke = s.tke ∧ (reqReadTiming p params s).state.cmp = s.cmp ∧
    (reqReadTiming p params s).state.ing = s.ing ∧ (reqReadTiming p params s).state.opr = s.opr ∧
    (reqReadTiming p params s).state.cnu = s.cnu ∧ (reqReadTiming p params s).state.pending = s.pending := by
  unfold reqReadTiming
  try simp only []
  repeat' split
  all_goals simp

@[simp] theorem reqReadIngestStatus_keeps (p : Port) (params : List Byte) (s : State) :
    (reqReadIngestStatus p params s).state.power = s.power ∧
    (reqReadIngestStatus p params s).state.palarm = s.palarm ∧
    (reqReadIngestStatus p params s).state.fcy = s.fcy ∧ (reqReadIngestStatus p params s).state.fsw = s.fsw ∧
    (reqReadIngestStatus p params s).state.fst = s.fst ∧ (reqReadIngestStatus p params s).state.pln = s.pln ∧
    (reqReadIngestStatus p params s).state.tke = s.tke ∧ (reqReadIngestStatus p params s).state.cmp = s.cmp ∧
    (reqReadIngestStatus p params s).state.opr = s.opr ∧ (reqReadIngestStatus p params s).state.cnu = s.cnu ∧
    (reqReadIngestStatus p params s).state.pending = s.pending := by
  unfold reqReadIngestStatus
  try simp only []
  repeat' split
  all_goals simp

@[simp] theorem reqSetIngestLevels_keeps (p : Port) (params : List Byte) (s : State) :
    (reqSetIngestLevels p params s).state.power = s.power ∧
    (reqSetIngestLevels p params s).state.palarm = s.palarm ∧
    (reqSetIngestLevels p params s).state.fcy = s.fcy ∧ (reqSetIngestLevels p params s).state.fsw = s.fsw ∧
    (reqSetIngestLevels p params s).state.fst = s.fst ∧ (reqSetIngestLevels p params s).state.pln = s.pln ∧
    (reqSetIngestLevels p params s).state.tke = s.tke ∧ (reqSetIngestLevels p params s).state.cmp = s.cmp ∧
    (reqSetIngestLevels p params s).state.opr = s.opr ∧ (reqSetIngestLevels p params s).state.cnu = s.cnu ∧
    (reqSetIngestLevels p params s).state.pending = s.pending := by
  unfold reqSetIngestLevels
  try simp only []
  repeat' split
  all_goals simp

@[simp] theorem reqIngestReset_keeps (p : Port) (params : List Byte) (s : State) :
    (reqIngestReset p params s).state.power = s.power ∧ (reqIngestReset p params s).state.palarm = s.palarm ∧
    (reqIngestReset p params s).state.fcy = s.fcy ∧ (reqIngestReset p params s).state.fsw = s.fsw ∧
    (reqIngestReset p params s).state.fst = s.fst ∧ (reqIngestReset p params s).state.pln = s.pln ∧
    (reqIngestReset p params s).state.tke = s.tke ∧ (reqIngestReset p params s).state.cmp = s.cmp ∧
    (reqIngestReset p params s).state.opr = s.opr ∧ (reqIngestReset p params s).state.cnu = s.cnu ∧
    (reqIngestReset p params s).state.pending = s.pending := by
  unfold reqIngestReset
  try simp only []
  repeat' split
  all_goals simp

@[simp] theorem reqReadOutputStatus_keeps (p : Port) (params : List Byte) (s : State) :
    (reqReadOutputStatus p params s).state.power = s.power ∧
    (reqReadOutputStatus p params s).state.palarm = s.palarm ∧
    (reqReadOutputStatus p params s).state.fcy = s.fcy ∧ (reqReadOutputStatus p params s).state.fsw = s.fsw ∧
    (reqReadOutputStatus p params s).state.fst = s.fst ∧ (reqReadOutputStatus p params s).state.pln = s.pln ∧
    (reqReadOutputStatus p params s).state.tke = s.tke ∧ (reqReadOutputStatus p params s).state.cmp = s.cmp ∧
    (reqReadOutputStatus p params s).state.ing = s.ing ∧ (reqReadOutputStatus p params s).state.opr = s.opr ∧
    (reqReadOutputStatus p params s).state.cnu = s.cnu ∧
    (reqReadOutputStatus p params s).state.pending = s.pending := by
  unfold reqReadOutputStatus
  try simp only []
  repeat' split
  all_goals simp

@[simp] theorem reqSetAutoTakeover_keeps (p : Port) (params : List Byte) (s : State) :
    (reqSetAutoTakeover p params s).state.power = s.power ∧
    (reqSetAutoTakeover p params s).state.palarm = s.palarm ∧
    (reqSetAutoTakeover p params s).state.fcy = s.fcy ∧ (reqSetAutoTakeover p params s).state.fsw = s.fsw ∧
    (reqSetAutoTakeover p params s).state.fst = s.fst ∧ (reqSetAutoTakeover p params s).state.pln = s.pln ∧
    (reqSetAutoTakeover p params s).state.tke = s.tke ∧ (reqSetAutoTakeover p params s).state.cmp = s.cmp ∧
    (reqSetAutoTakeover p params s).state.ing = s.ing ∧ (reqSetAutoTakeover p params s).state.cnu = s.cnu ∧
    (reqSetAutoTakeover p params s).state.pending = s.pending := by
  unfold reqSetAutoTakeover
  try simp only []
  repeat' split
  all_goals simp

@[simp] theorem reqReadNotice_keeps (p : Port) (params : List Byte) (s : State) :
    (reqReadNotice p params s).state.power = s.power ∧ (reqReadNotice p params s).state.palarm = s.palarm ∧
    (reqReadNotice p params s).state.fcy = s.fcy ∧ (reqReadNotice p params s).state.fsw = s.fsw ∧
    (reqReadNotice p params s).state.fst = s.fst ∧ (reqReadNotice p params s).state.pln = s.pln ∧
    (reqReadNotice p params s).state.tke = s.tke ∧ (reqReadNotice p params s).state.cmp = s.cmp ∧
    (reqReadNotice p params s).state.ing = s.ing ∧ (reqReadNotice p params s).state.opr = s.opr ∧
    (reqReadNotice p params s).state.pending = s.pending := by
  unfold reqReadNotice
  try simp only []
  repeat' split
  all_goals simp

@[simp] theorem reqSetNoticeMask_keeps (p : Port) (params : List Byte) (s : State) :
    (reqSetNoticeMask p params s).state.power = s.power ∧
    (reqSetNoticeMask p params s).state.palarm = s.palarm ∧ (reqSetNoticeMask p params s).state.fcy = s.fcy ∧
    (reqSetNoticeMask p params s).state.fsw = s.fsw ∧ (reqSetNoticeMask p params s).state.fst = s.fst ∧
    (reqSetNoticeMask p params s).state.pln = s.pln ∧ (reqSetNoticeMask p params s).state.tke = s.tke ∧
    (reqSetNoticeMask p params s).state.cmp = s.cmp ∧ (reqSetNoticeMask p params s).state.ing = s.ing ∧
    (reqSetNoticeMask p params s).state.opr = s.opr ∧
    (reqSetNoticeMask p params s).state.pending = s.pending := by
  unfold reqSetNoticeMask
  try simp only []
  repeat' split
  all_goals simp

@[simp] theorem reqReadFaultStatus_keeps (p : Port) (params : List Byte) (s : State) :
    (reqReadFaultStatus p params s).state.power = s.power ∧
    (reqReadFaultStatus p params s).state.palarm = s.palarm ∧
    (reqReadFaultStatus p params s).state.fcy = s.fcy ∧ (reqReadFaultStatus p params s).state.fsw = s.fsw ∧
    (reqReadFaultStatus p params s).state.fst = s.fst ∧ (reqReadFaultStatus p params s).state.pln = s.pln ∧
    (reqReadFaultStatus p params s).state.tke = s.tke ∧ (reqReadFaultStatus p params s).state.cmp = s.cmp ∧
    (reqReadFaultStatus p params s).state.ing = s.ing ∧ (reqReadFaultStatus p params s).state.opr = s.opr ∧
    (reqReadFaultStatus p params s).state.pending = s.pending := by
  unfold reqReadFaultStatus
  try simp only []
  repeat' split
  all_goals simp [clearFault]

@[simp] theorem reqReadHealth_keeps (p : Port) (params : List Byte) (s : State) :
    (reqReadHealth p params s).state.power = s.power ∧ (reqReadHealth p params s).state.palarm = s.palarm ∧
    (reqReadHealth p params s).state.fcy = s.fcy ∧ (reqReadHealth p params s).state.fsw = s.fsw ∧
    (reqReadHealth p params s).state.fst = s.fst ∧ (reqReadHealth p params s).state.pln = s.pln ∧
    (reqReadHealth p params s).state.tke = s.tke ∧ (reqReadHealth p params s).state.cmp = s.cmp ∧
    (reqReadHealth p params s).state.ing = s.ing ∧ (reqReadHealth p params s).state.opr = s.opr ∧
    (reqReadHealth p params s).state.cnu = s.cnu ∧ (reqReadHealth p params s).state.pending = s.pending := by
  unfold reqReadHealth
  try simp only []
  repeat' split
  all_goals simp

@[simp] theorem reqSetThreshold_keeps (p : Port) (params : List Byte) (s : State) :
    (reqSetThreshold p params s).state.power = s.power ∧ (reqSetThreshold p params s).state.palarm = s.palarm ∧
    (reqSetThreshold p params s).state.fcy = s.fcy ∧ (reqSetThreshold p params s).state.fsw = s.fsw ∧
    (reqSetThreshold p params s).state.fst = s.fst ∧ (reqSetThreshold p params s).state.pln = s.pln ∧
    (reqSetThreshold p params s).state.tke = s.tke ∧ (reqSetThreshold p params s).state.cmp = s.cmp ∧
    (reqSetThreshold p params s).state.ing = s.ing ∧ (reqSetThreshold p params s).state.opr = s.opr ∧
    (reqSetThreshold p params s).state.pending = s.pending := by
  unfold reqSetThreshold
  try simp only []
  repeat' split
  all_goals simp [storeThreshold]

@[simp] theorem reqClearHealth_keeps (p : Port) (params : List Byte) (s : State) :
    (reqClearHealth p params s).state.power = s.power ∧ (reqClearHealth p params s).state.palarm = s.palarm ∧
    (reqClearHealth p params s).state.fcy = s.fcy ∧ (reqClearHealth p params s).state.fsw = s.fsw ∧
    (reqClearHealth p params s).state.fst = s.fst ∧ (reqClearHealth p params s).state.pln = s.pln ∧
    (reqClearHealth p params s).state.tke = s.tke ∧ (reqClearHealth p params s).state.cmp = s.cmp ∧
    (reqClearHealth p params s).state.ing = s.ing ∧ (reqClearHealth p params s).state.opr = s.opr ∧
    (reqClearHealth p params s).state.pending = s.pending := by
  unfold reqClearHealth
  try simp only []
  repeat' split
  all_goals simp

@[simp] theorem reqSetAlarmEnable_keeps (p : Port) (params : List Byte) (s : State) :
    (reqSetAlarmEnable p params s).state.power = s.power ∧
    (reqSetAlarmEnable p params s).state.palarm = s.palarm ∧ (reqSetAlarmEnable p params s).state.fcy = s.fcy ∧
    (reqSetAlarmEnable p params s).state.fsw = s.fsw ∧ (reqSetAlarmEnable p params s).state.fst = s.fst ∧
    (reqSetAlarmEnable p params s).state.pln = s.pln ∧ (reqSetAlarmEnable p params s).state.tke = s.tke ∧
    (reqSetAlarmEnable p params s).state.cmp = s.cmp ∧ (reqSetAlarmEnable p params s).state.ing = s.ing ∧
    (reqSetAlarmEnable p params s).state.opr = s.opr ∧
    (reqSetAlarmEnable p params s).state.pending = s.pending := by
  unfold reqSetAlarmEnable
  try simp only []
  repeat' split
  all_goals simp

@[simp] theorem reqRestart_keeps (p : Port) (params : List Byte) (s : State) :
    (reqRestart p params s).state.power = s.power ∧ (reqRestart p params s).state.palarm = s.palarm ∧
    (reqRestart p params s).state.fcy = s.fcy ∧ (reqRestart p params s).state.fst = s.fst ∧
    (reqRestart p params s).state.pending = s.pending := by
  unfold reqRestart
  try simp only []
  repeat' split
  all_goals simp [restartAll, restartCnu, restartOpr, restartIng, restartCmp, restartTke, restartPln, restartFsw]

end Sys2Proof.Machine
end

