-- ==== Sys2Proof/Tests/Slice0.lean ====
section
/-! SUPPORT. Tests/Slice0.lean: the model's own tests. First the WellFormed checks and the manual's worked values; then, for
each statement of Certificates/Slice0/Obligations.lean that has hypotheses, `witness_<name>`: a concrete state and operands
that meet them, clause by clause at the ends of the ranges; then one small step for each command. -/

namespace Sys2Proof.Tests

set_option Elab.async false

open Sys2Proof Sys2Proof.Machine

/-! ### Helpers -/

/-- The state after a command. -/
def after (c : Instr) (s : State) : State :=
  match exec c s with
  | .next t => t
  | .fault _ => s
  | .refused _ => s

/-- The reply in progress on port A. -/
def replyA (s : State) : Option Reply := s.cnu.reply.a

/-- The part after hard reset. -/
def fresh : State := State.reset

/-- A part held by RESET. -/
def held : State := halt .inReset State.reset

/-- A part whose edit hold stands so. -/
def withHold (h : Option Port) (s : State) : State := s.onPln fun l => { l with hold := h }

/-- A part whose air lock stands so. -/
def withLock (h : Option Port) (s : State) : State := s.onPln fun l => { l with lock := h }

/-- A part at a count, in a reference state with a last reference time and a timer. -/
def cycleAt (count : Word32) (ref : RefState) (last : Option Time) (regain : Nat) (timer : Option Time) (s : State) :
    State :=
  s.onFcy fun f => { f with count := count, ref := ref, lastReference := last, regain := regain, timer := timer }

/-- A part LOCKED at moment 0. -/
def lockedPart : State := cycleAt 9#32 .locked (some 0) 0 none fresh

/-- A paired part in a role, at count 100. -/
def pairedPart (role : Role) : State :=
  (cycleAt 100#32 .acquiring none 0 (some 4800000) fresh).onOpr fun o =>
    { o with strap := if role = .main then .pairFirst else .pairSecond, role := role }

/-- A report of the partner. -/
def reportOf (frame : Word32) (role : ReportRole) (swap : SwapWord) (line : Word32) : Report where
  frame := frame
  role := role
  airSeq := 0#16
  runId := 0#16
  cursor := 0#32
  level := 0#8
  alarm := false
  swap := swap
  lineFrame := line

/-- A station with one constituent. -/
def stationOne (n : Nat) : Station where
  number := n
  z0 := 3000
  hmin := 0
  hmax := 6000
  constituents := [{ omega := 96012864#32, amp := 2000, phase := 0x4000#16 }]
  source := .portA
  clamped := false

/-- A segment of two points. -/
def segmentOne (id : Nat) : Segment where
  id := id
  cls := .coast
  points := [⟨10, 20⟩, ⟨30, 5⟩]
  box := { xmin := 10, ymin := 5, xmax := 30, ymax := 20 }

/-- A take entry of port A. -/
def entryOf (tag : Nat) (kind : TakeKind) (due : Word32) (st : EntryState) : TakeEntry where
  port := .a
  tag := tag
  kind := kind
  due := due
  urgent := false
  force := false
  past := false
  state := st
  abandonment := 0#32

/-- A part whose take queue stands so. -/
def withQueue (q : List TakeEntry) (s : State) : State := s.onTke fun t => { t with queue := q }

/-- A part with a negotiation record. -/
def withNegotiation (n : Negotiation) (s : State) : State := s.onOpr fun o => { o with negotiation := some n }

/-- A negotiation record for line frame 110. -/
def recordOf (side : Side) (stage : Stage) : Negotiation where
  lineFrame := 110#32
  side := side
  origin := .take
  automatic := false
  force := false
  stage := stage
  offerSeen := false
  entries := []
  passed := 0

/-- The fourteen parameter bytes of SUBMIT TAKE for a due frame below 256. -/
def submission (tag kind flags due n0 n1 mode : Byte) : List Byte :=
  [tag, kind, flags, due, 0, 0, 0, n0, n1, 0, 0, 0, 0, mode]

/-- A part at count 100 with the hold with port A. -/
def atHundred : State := withHold (some .a) (cycleAt 100#32 .acquiring none 0 (some 4800000) fresh)

/-- The laws of the take engine for a queue of port A without unread records. -/
theorem queueLaw (q : List TakeEntry) (tags : (q.map TakeEntry.tag).Nodup) (mine : ∀ e ∈ q, e.port = .a ∧ e.tag ≤ 7)
    (sweeps : (q.filter isSweeping).length ≤ 1) : TakeLaw { Tke.reset with queue := q } := by
  refine ⟨fun p => ⟨?_, ?_, by cases p <;> nofun⟩, sweeps, Nat.zero_le _, nofun⟩
  all_goals
    have ha : (q.filter fun e => e.port = .a) = q := List.filter_eq_self.mpr fun e he => by simp [(mine e he).1]
    have hb : (q.filter fun e => e.port = .b) = [] := List.filter_eq_nil_iff.mpr fun e he => by simp [(mine e he).1]
    cases p <;> simp only [usedTags, ha, hb, Tke.reset, PerPort.both, PerPort.get, List.map_nil, List.append_nil]
  · exact tags
  · exact List.nodup_nil
  · intro n hn
    obtain ⟨e, he, rfl⟩ := List.mem_map.mp hn
    exact (mine e he).2
  · nofun

theorem ready (p : Port) : Ready p fresh := by cases p <;> exact ⟨rfl, rfl⟩

/-! ### WellFormed: what no frame can carry is rejected -/

theorem test_wellFormed_long_params :
    Instr.wellFormed (.setAreas .a (List.replicate 250 0#8)) = false ∧
    Instr.wellFormed (.setAreas .a (List.replicate 249 0#8)) = true := by decide +kernel

theorem test_wellFormed_long_reading :
    Instr.wellFormed (.readOutputStatus .b (List.replicate 250 0#8) true) = false := by decide +kernel

theorem test_wellFormed_known_code :
    Instr.wellFormed (.unknown .a 0x5F#8) = false ∧ Instr.wellFormed (.unknown .a 0x5E#8) = true := by decide +kernel

theorem test_no_word_spells_a_command : decodeTableWord 32 0 = none ∧ State.reset.withFetchWord 32 0 = State.reset :=
  ⟨rfl, rfl⟩

/-! ### Worked values of the manual -/

/-- R3: the table of the reached test. -/
theorem test_reached :
    reached 100#32 100#32 = true ∧ reached 100#32 101#32 = true ∧ reached 101#32 100#32 = false ∧
    reached 0xFFFFFFFF#32 1#32 = true ∧ reached 0#32 0x7FFFFFFF#32 = true ∧ reached 0#32 0x80000000#32 = false := by
  decide +kernel

/-- The CRC of "123456789" is 0x29B1. -/
theorem test_crc16 : crc16 [0x31, 0x32, 0x33, 0x34, 0x35, 0x36, 0x37, 0x38, 0x39] = 0x29B1#16 := by
  decide +kernel

/-- R97: the quarter table's ends, and the symmetries. -/
theorem test_cosine :
    cosEntry 0 = 32767 ∧ cosEntry 128 = 23170 ∧ cosEntry 256 = 0 ∧ cosEntry 512 = -32767 ∧ cosEntry 768 = 0 ∧
    cosEntry 1023 = 32766 := by decide +kernel

/-- R120: the ends of the force ranges. -/
theorem test_force : [9, 10, 34, 35, 634, 635, 1414].map forceOf = [0, 1, 1, 2, 11, 12, 12] := by decide +kernel

/-- R119: the root of the greatest sum and of a square and its neighbour. -/
theorem test_root : floorRoot 2000000 = 1414 ∧ floorRoot 144 = 12 ∧ floorRoot 143 = 11 := by decide +kernel

/-- R52: the view clamps. -/
theorem test_view_clamps :
    ((writeView 65535 65535 65535 Plan.default).x0, (writeView 65535 65535 65535 Plan.default).y0,
      (writeView 0 0 0 Plan.default).w, heightOf 1024, heightOf 65535) = (1, 28673, 1024, 576, 36863) := by decide +kernel

/-- The station of chapter 06's worked case. -/
def station14 : Station where
  number := 14
  z0 := 3100
  hmin := 0
  hmax := 6000
  constituents := [{ omega := 5763231#32, amp := 1850, phase := 23455#16 },
                   { omega := 2990782#32, amp := 420, phase := 54322#16 }]
  source := .loader
  clamped := false

/-- Chapter 06, worked case: two constituents at 90,000. -/
theorem test_tide_worked_case :
    gaugeValues station14 90000#32 = { height := 3988, level := 66, offScale := false, rate := -661, trend := .falling } := by
  decide +kernel

/-- Chapter 06, worked case: curve times across the wrap of the chart clock. -/
theorem test_curve_wrap :
    [0, 11, 12, 16, 17, 24].map (curveTime 4294966996#32) =
      [4294966276#32, 4294966936#32, 4294966996#32, 4294967236#32, 0#32, 420#32] := by decide +kernel

/-- Two frames of one row's width, for the brackets of chapter 07. -/
def frameOf (offset : Nat) (u v : Int) : SnapFrame := { offset := offset, grid := [[{ u := u, v := v }]] }

/-- Chapter 07, worked case: one arrow. -/
theorem test_wind_worked_case :
    (brackets [frameOf 360 (-120) (-300), frameOf 420 (-200) (-260)] 384).map
      (fun b => (b.status, fraction 384 b, windAt b (fraction 384 b) 0 0, markOf (windAt b (fraction 384 b) 0 0))) =
        some (.drawn, 102, { u := -152, v := -284 }, .arrow 322 7 1) ∧ pointsToward 1 = 9 := by decide +kernel

/-- Chapter 07, worked sequence: the status, first frame, last frame and fraction as the cursor moves. -/
theorem test_bracket_sequence :
    ([-60, 0, 60, 119, 120, 179, 180, 181, 240] : List Int).map
      (fun r => (brackets [frameOf 0 0 0, frameOf 120 0 0, frameOf 180 0 0] r).map fun b =>
        (b.status, b.first.offset, (b.second.map SnapFrame.offset).getD b.first.offset, fraction r b)) =
      [some (.heldFirst, 0, 0, 0), some (.drawn, 0, 120, 0), some (.drawn, 0, 120, 128), some (.drawn, 0, 120, 253),
       some (.drawn, 120, 180, 0), some (.drawn, 120, 180, 251), some (.drawn, 180, 180, 0),
       some (.heldLast, 180, 180, 0), some (.heldLast, 180, 180, 0)] := by decide +kernel

/-- Chapter 07, worked case: the arrow positions of two views. -/
theorem test_arrow_positions :
    [1, 2, 3, 4].map (arrowCount { Plan.default with x0 := 20000, y0 := 30000, w := 16384 }) = [48, 12, 8, 3] ∧
    [1, 2].map (arrowCount Plan.default) = [864, 216] := by decide +kernel

/-- R82: the sweep of chapter 05's worked sequence and the short way round the clock. -/
theorem test_sweep_values :
    [1, 2, 3, 31, 75].map (fun k => sweepValue 50400 51480 k 75) = [50414, 50428, 50443, 50846, 51480] ∧
    sweepCursor { n := 2, k := 1, cursorStart := 4294967200#32, cursorTarget := 100#32, view := none } = 2#32 := by
  decide +kernel

/-- R16, R138: the end of a hard reset at moment 0 with every strap low makes the state after reset. -/
theorem test_end_of_hard_reset :
    after (.endOfHardReset 0 { frate := false, role1 := false, role0 := false }) held = State.reset := by decide +kernel

/-- R10, R138: the composition of frame 1 is the one a composition start makes from the reset state. -/
theorem test_first_composition :
    (beginComposition (State.reset.onFcy fun f => { f with inFlight := none })).fcy.inFlight =
      State.reset.fcy.inFlight := by decide +kernel

/-! ### Witnesses: the machine, reset, the frame cycle -/

theorem witness_StepTakesTheFrontCommand : State.reset.pending = [] := rfl

theorem witness_AHeldPartIgnoresOtherCommands :
    held.power ≠ .running ∧ Instr.regainExpiry ≠ .hardReset ∧ Instr.regainExpiry ≠ .powerLoss ∧
    ∀ t x, Instr.regainExpiry ≠ .endOfHardReset t x := by
  refine ⟨by decide +kernel, by decide +kernel, by decide +kernel, fun _ _ => nofun⟩

theorem witness_EndOfHardResetStartsTheFrameCycle : held.power = .inReset := rfl

theorem witness_EndOfHardResetSetsEveryOtherBlock : held.power = .inReset := rfl

/-- A STANDBY whose own report was for frame 100 (or that has sent none), with a report in hand. -/
def standbyWith (own : Option Report) (frame : Word32) : State :=
  (pairedPart .standby).onOpr fun o =>
    { o with sent := own, inHand := some (reportOf frame .main .none 0#32), partnerPresent := true }

theorem witness_InternalPulseServesAndRestartsTheTimer :
    fresh.power = .running ∧ fresh.fcy.timer = some 4800000 ∧ fresh.opr.role = .sole ∧
    (pairedPart .standby).opr.role = .standby ∧ (pairedPart .standby).opr.inHand = none ∧
    ∀ own frame, (standbyWith own frame).power = .running ∧ (standbyWith own frame).fcy.timer = some 4800000 ∧
      (standbyWith own frame).opr.role = .standby ∧
      (standbyWith own frame).opr.inHand = some (reportOf frame .main .none 0#32) :=
  ⟨rfl, rfl, rfl, rfl, rfl, fun _ _ => ⟨rfl, rfl, rfl, rfl⟩⟩

/-- R165: the report in hand agrees with the own frame number, or the count follows it; frame 0 stands for no report. -/
theorem test_count_sync :
    ([(some (reportOf 100#32 .standby .none 0#32), 100#32), (some (reportOf 100#32 .standby .none 0#32), 105#32),
      (none, 0#32), (none, 100#32)] : List (Option Report × Word32)).map
        (fun x => (after (.internalPulse false) (standbyWith x.1 x.2)).fcy.count) = [101#32, 106#32, 101#32, 101#32] := by
  decide +kernel

/-- R162, R168, R169: the swap words of the reports sent at a pulse, stage by stage. -/
theorem test_swap_words :
    ([(.main, .mainSide, .requesting), (.main, .mainSide, .released), (.handingOver, .mainSide, .released),
      (.standby, .standbySide, .offering), (.standby, .standbySide, .waiting), (.standby, .standbySide, .withdrawn)] :
        List (Role × Side × Stage)).map (fun x => ((after (.internalPulse false) (withNegotiation
          { recordOf x.2.1 x.2.2 with force := x.2.2 = .offering } (pairedPart x.1))).opr.sent.map fun r =>
            (r.role, r.swap, r.lineFrame))) =
      [some (.main, .request, 110#32), some (.main, .release, 110#32), some (.handingOver, .none, 0#32),
       some (.standby, .offer, 110#32), some (.standby, .none, 0#32), some (.standby, .none, 0#32)] := by decide +kernel

/-- A SOLE part at count 100 whose take queue stands so; its next pulse begins frame 102. -/
def taking (q : List TakeEntry) : State := withQueue q atHundred

theorem taking_pulse (q : List TakeEntry) (tags : (q.map TakeEntry.tag).Nodup) (mine : ∀ e ∈ q, e.port = .a ∧ e.tag ≤ 7)
    (sweeps : (q.filter isSweeping).length ≤ 1) : SolePulse (taking q) 4800000 :=
  ⟨rfl, rfl, rfl, queueLaw q tags mine sweeps⟩

/-- An entry of port A due on frame 102. -/
def dueEntry (tag : Nat) (kind : TakeKind) : TakeEntry := entryOf tag kind 102#32 .queued

/-- A sweep of `n` steps that has made `k`. -/
def sweepAt (n k : Nat) : SweepRecord := { n := n, k := k, cursorStart := 10#32, cursorTarget := 70#32, view := none }

/-- The entry of that sweep. -/
def sweepingEntry (n k : Nat) : TakeEntry := entryOf 5 (.sweep n 70#32) 90#32 (.sweeping (sweepAt n k) .done 90#32)

/-- A part whose ADOPT is due, with a NEXT in a state and an abandonment count. -/
def adopting (next : NextState) (abandonment : Word32) : State :=
  { taking [dueEntry 1 .adopt] with fsw := { Fsw.reset with
      next := some { state := next, run := { id := 42#16, base := 0#32, expected := 1 }, sent := 1, short := false }
      abandonment := abandonment } }

/-- No entry due, one of each kind, two LINE entries, and a sweep before its last step and its last but one. -/
theorem witness_PulseDisplaysOrAbandons :
    (fresh.power = .running ∧ fresh.fcy.timer = some 4800000) ∧
    (∀ q ∈ [[], [dueEntry 1 (.line .live)], [dueEntry 1 (.sweep 1 70#32)], [dueEntry 1 (.sweep 9 70#32), sweepingEntry 3 1],
        [dueEntry 1 .adopt], [dueEntry 1 (.line .live), dueEntry 2 (.line .check)], [sweepingEntry 3 1],
        [sweepingEntry 3 2]], SolePulse (taking q) 4800000) ∧
    [dueNext (taking []), dueNext (taking [sweepingEntry 3 1]), dueNext (taking [entryOf 1 .adopt 103#32 .queued])] =
      [[], [], []] ∧
    (dueNext (taking [dueEntry 1 (.line .live)]) = [dueEntry 1 (.line .live)] ∧
      dueNext (taking [dueEntry 1 (.sweep 9 70#32), sweepingEntry 3 1]) = [dueEntry 1 (.sweep 9 70#32)] ∧
      dueNext (adopting .ready 0#32) = [dueEntry 1 .adopt] ∧
      dueNext (taking [dueEntry 1 (.line .live), dueEntry 2 (.line .check)]) =
        [dueEntry 1 (.line .live), dueEntry 2 (.line .check)]) ∧
    (sweepAt 3 1).k + 1 < (sweepAt 3 1).n ∧ (sweepAt 3 2).k + 1 = (sweepAt 3 2).n := by
  refine ⟨by decide +kernel, fun q hq => taking_pulse q ?_ ?_ ?_, by decide +kernel⟩ <;> revert q <;> decide +kernel

/-- What those pulses do: the lines, the sweep's values, and a fit, an unfit and an abandoned NEXT. -/
theorem test_pulse_takes :
    ((after (.internalPulse false) (taking [dueEntry 1 (.line .live), dueEntry 2 (.line .check)])).opr.lineMode,
      (after (.internalPulse false) (taking [dueEntry 1 (.line .live), dueEntry 2 (.line .check)])).tke.ts) =
        (.check, .several) ∧
    [1, 2].map (fun k => (after (.internalPulse false) (taking [sweepingEntry 3 k])).pln.air.cursor) = [50#32, 70#32] ∧
    (after (.internalPulse false) (taking [dueEntry 1 (.sweep 9 70#32), sweepingEntry 3 1])).tke.completions.a.map
      Completion.status = [.superseded] ∧
    ([(.ready, 0#32), (.opened, 0#32), (.ready, 1#32)] : List (NextState × Word32)).map
      (fun x => let u := after (.internalPulse false) (adopting x.1 x.2)
        (u.fsw.current.map RunRecord.id, u.tke.completions.a.map Completion.status)) =
        [(some 42#16, [.done]), (none, [.notReady]), (none, [.notReady])] := by decide +kernel

/-- The four moments at which the clauses meet. -/
theorem witness_LockedReferencePulse :
    lockedPart.power = .running ∧ lockedPart.fcy.ref = .locked ∧ lockedPart.fcy.lastReference = some 0 ∧
    3599999 < 0 + Config.guardInterval lockedPart.fcy.rate ∧ 0 + Config.guardInterval lockedPart.fcy.rate ≤ 3600000 ∧
    6000000 ≤ 0 + Config.expiry lockedPart.fcy.rate ∧ 0 + Config.expiry lockedPart.fcy.rate < 6000001 := by decide +kernel

/-- What the pulse does at each of those moments. -/
theorem test_locked_pulses :
    after (.referencePulse 3599999 false) lockedPart = lockedPart ∧
    (after (.referencePulse 3600000 false) lockedPart).fcy.count = 10#32 ∧
    (after (.referencePulse 6000000 false) lockedPart).fcy.count = 10#32 ∧
    (after (.referencePulse 6000001 false) lockedPart).fcy.ref = .regaining := by decide +kernel

theorem witness_ReferencePulsesLockOrCountOutsideLocked :
    (fresh.power = .running ∧ fresh.fcy.ref = .acquiring ∧
      3599999 < fresh.fcy.lastServing + Config.guardInterval fresh.fcy.rate ∧
      fresh.fcy.lastServing + Config.guardInterval fresh.fcy.rate ≤ 3600000) ∧
    (cycleAt 9#32 .lost (some 0) 0 (some 1) fresh).fcy.ref = .lost ∧
    ∀ regain ∈ [1, 2, 3], (cycleAt 9#32 .regaining (some 0) regain (some 1) fresh).fcy.ref = .regaining ∧
      (cycleAt 9#32 .regaining (some 0) regain (some 1) fresh).fcy.lastReference = some 0 ∧
      3599999 < 0 + Config.guardInterval fresh.fcy.rate ∧ 0 + Config.guardInterval fresh.fcy.rate ≤ 3600000 ∧
      6000000 ≤ 0 + Config.expiry fresh.fcy.rate ∧ 0 + Config.expiry fresh.fcy.rate < 6000001 := by decide +kernel

/-- The regain clauses at those moments: early, counted, the fourth, and after the expiry. -/
theorem test_regain_pulses :
    (after (.referencePulse 3599999 false) (cycleAt 9#32 .regaining (some 0) 3 (some 1) fresh)).fcy.ref = .lost ∧
    (after (.referencePulse 6000000 false) (cycleAt 9#32 .regaining (some 0) 2 (some 1) fresh)).fcy.regain = 3 ∧
    (after (.referencePulse 3600000 false) (cycleAt 9#32 .regaining (some 0) 3 (some 1) fresh)).fcy.ref = .locked ∧
    (after (.referencePulse 6000001 false) (cycleAt 9#32 .regaining (some 0) 3 (some 1) fresh)).fcy.regain = 1 := by
  decide +kernel

theorem witness_LossExpiryLosesTheReference :
    lockedPart.power = .running ∧ lockedPart.fcy.ref = .locked ∧ lockedPart.fcy.lastReference = some 0 ∧
    lockedPart.opr.role ≠ .standby := by decide +kernel

/-! ### Witnesses: the composer -/

/-- A composition of a cost, with the budget 24,000. -/
def costing (cost : Nat) : State :=
  fresh.onFcy fun f => { f with inFlight := some { Composition.first 24000 with cost := cost } }

/-- A line from the view of `busyPlan` across its east edge, 8,192 units wide and 4,608 high; and an area outside it. -/
def crossing (id : Nat) (cls : SegClass) : Segment where
  id := id
  cls := cls
  points := [⟨8000, 100⟩, ⟨9000, 600⟩]
  box := { xmin := 8000, ymin := 100, xmax := 9000, ymax := 600 }

/-- An area that lies outside that view. -/
def outside (id : Nat) : Segment where
  id := id
  cls := .area
  points := [⟨20000, 100⟩, ⟨21000, 600⟩]
  box := { xmin := 20000, ymin := 100, xmax := 21000, ymax := 600 }

/-- A plan with every layer, or none, and two areas. -/
def busyPlan (cursor : Word32) (on : Bool) : Plan :=
  { Plan.default with
    w := 8192, cursor := cursor, stride := 4, areas := [3, 4]
    layers := { coast := on, wind := on, tide := on, areas := on } }

/-- A wind frame of one pair throughout. -/
def flatFrame (offset : Nat) (u : Int) : SnapFrame where
  offset := offset
  grid := List.replicate 32 (List.replicate 48 { u := u, v := 0 })

/-- A composition of that plan with a run, a line, two areas and two gauges, one without a station. -/
def busy (cursor : Word32) (on : Bool) (level : Nat) (frames : List SnapFrame) : Composition :=
  { Composition.first 24000 with
    level := level
    snap := { (Composition.first 24000).snap with
      plan := busyPlan cursor on
      current := some { id := 42#16, base := 0#32, expected := 2 }
      frames := frames
      segments := [crossing 1 .coast, crossing 2 .minor, crossing 3 .area, outside 4]
      gauges := [{ slot := 0, gauge := { station := 14, curve := true }, record := some station14 },
                 { slot := 3, gauge := { station := 15, curve := false }, record := none }] } }

/-- A part with a composition in flight. -/
def composing (c : Composition) : State := fresh.onFcy fun f => { f with inFlight := some c }

theorem witness_CompositionCompletesWithinItsBudget :
    (fresh.power = .running ∧ (costing 24000).fcy.inFlight = some { Composition.first 24000 with cost := 24000 } ∧
      (costing 24001).fcy.inFlight = some { Composition.first 24000 with cost := 24001 } ∧
      (after .compositionCompletion (costing 24000)).fcy.inFlight = none ∧
      (after .compositionBudgetSpent (costing 24001)).fcy.inFlight =
        some { Composition.first 24000 with cost := 24001, stopped := true }) ∧
    (busyPlan 0#32 true).layers.wind = true ∧ (busyPlan 0#32 true).layers.tide = true ∧
    (busyPlan 0#32 false).layers.wind = false ∧ (busyPlan 0#32 false).layers.tide = false ∧
    (busy 0#32 true 0 []).snap.frames = [] ∧ (Composition.first 24000).snap.current = none ∧
    [flatFrame 0 0, flatFrame 120 256].map SnapFrame.offset = [0, 120] ∧
    ([0xFFFFFFFF#32, 0#32, 119#32, 120#32, 121#32] : List Word32).map (fun cursor => (cursor - 0#32).toInt) =
      [-1, 0, 119, 120, 121] ∧
    (busy 0#32 true 3 []).snap.gauges[0]? =
      some { slot := 0, gauge := { station := 14, curve := true }, record := some station14 } :=
  ⟨by decide +kernel, rfl, rfl, rfl, rfl, rfl, rfl, rfl, by decide +kernel, rfl⟩

/-- What those charts hold: the wind results as the cursor moves, with the marks of the interpolated pair at 60. -/
theorem test_busy_wind :
    ([0xFFFFFFFF#32, 0#32, 60#32, 120#32, 121#32] : List Word32).map (fun cursor =>
      ((after .compositionCompletion (composing (busy cursor true 0 [flatFrame 0 0, flatFrame 120 256]))).fcy.completed.map
        fun c => (c.record.wind.status, c.record.wind.t0, c.record.wind.t1, c.record.wind.f, c.record.wind.arrows))) =
      [some (.heldFirst, 0#32, 0#32, 0, 2), some (.drawn, 0#32, 120#32, 0, 2), some (.drawn, 0#32, 120#32, 128, 2),
       some (.drawn, 120#32, 120#32, 0, 2), some (.heldLast, 120#32, 120#32, 0, 2)] ∧
    ((after .compositionCompletion (composing (busy 60#32 true 0 [flatFrame 0 0, flatFrame 120 256]))).fcy.completed.map
      fun c => c.wind.map DrawnMark.mark) = some (List.replicate 2 (markOf { u := 128, v := 0 })) := by decide +kernel

/-- R127, R128, R131: a line is cut at the east edge of the picture, x = 8,192, a MINOR segment goes at level 2, and a
highlight outside the view draws nothing but counts; R98 to R104: the gauge results at levels 0 and 3. -/
theorem test_busy_chart :
    cutStroke (busyPlan 0#32 true) ⟨8000, 100⟩ ⟨9000, 600⟩ =
      some { start := { x := 8000, y := 100, den := 1 }, stop := { x := 8192000, y := 196000, den := 1000 } } ∧
    cutStroke (busyPlan 0#32 true) ⟨8192, 0⟩ ⟨8192, 600⟩ = none ∧
    [0, 2].map (fun level => let c := chartOf (busy 0#32 true level [])
      (c.coast.map DrawnLine.id, c.highlights.map DrawnLine.id, c.record.areaCount, c.record.coastPoints)) =
        [([1, 2, 3], [3], 2, 6), ([1, 3], [3], 2, 4)] ∧
    [0, 3].map (fun level => (chartOf (busy 90000#32 true level [])).record.gauges.map fun g =>
      (g.slot, g.status, g.values.map GaugeValues.height)) =
        [[(0, .live, some 3988), (3, .noStation, none)], [(0, .held, none), (3, .noStation, none)]] := by decide +kernel

/-- A part whose composer stands so. -/
def withCmp (c : Cmp) (s : State) : State := s.onCmp fun _ => c

/-- The default plan costs 400 at every level, so every level fits; and the three cases of the relaxation step. -/
theorem witness_CompositionStartRelaxesAndChoosesTheLevel :
    (relaxationStep (snapshotOf fresh) 24000 fresh.cmp).sticky ≤ 3 ∧ fresh.ing.queue.length < fresh.ing.halt ∧
    (withCmp { sticky := 3, relax := 99, previousLate := false } fresh).cmp.sticky ≠ 0 ∧
    costAt (snapshotOf fresh) (3 - 1) ≤ 400 ∧ ¬ costAt (snapshotOf fresh) (3 - 1) ≤ 399 ∧
    relaxationStep (snapshotOf fresh) 400 { sticky := 3, relax := 99, previousLate := false } =
      { sticky := 2, relax := 0, previousLate := false } ∧
    relaxationStep (snapshotOf fresh) 400 { sticky := 3, relax := 98, previousLate := false } =
      { sticky := 3, relax := 99, previousLate := false } ∧
    relaxationStep (snapshotOf fresh) 399 { sticky := 3, relax := 98, previousLate := false } =
      { sticky := 3, relax := 0, previousLate := false } := by decide +kernel

/-- A snapshot with one segment. -/
def snapOne : Snapshot := { (Composition.first 24000).snap with segments := [segmentOne 7] }

theorem segmentOne_law (id : Nat) (h1 : 1 ≤ id) (h2 : id ≤ 4095) : OneSegmentLaw (segmentOne id) := by
  refine ⟨h1, h2, by simp [segmentOne], by simp [segmentOne], ?_⟩
  intro q hq
  simp [segmentOne] at hq
  rcases hq with rfl | rfl <;> simp [segmentOne]

theorem witness_CostDoesNotRiseWithTheLevel :
    (∀ g ∈ snapOne.segments, OneSegmentLaw g) ∧ 0 < 3 ∧ 2 < 3 ∧ 0 ≤ 3 ∧ 3 ≤ 3 ∧
    [0, 1, 2, 3].map (costAt snapOne) = [402, 402, 402, 402] := by
  refine ⟨?_, by decide +kernel⟩
  intro g hg
  simp [snapOne] at hg
  subst hg
  exact segmentOne_law 7 (by decide) (by decide)

/-- R127 to R131: three segments of two points, two arrow positions at stride 4 and one at stride 8, a gauge of two
constituents with its curve and one without a station, two areas; and nothing but the overhead with every layer off. -/
theorem test_cost :
    [0, 1, 2, 3].map (costAt (busy 0#32 true 0 []).snap) =
      [400 + 6 + 12 + 211 + 80, 400 + 6 + 6 + 211 + 80, 400 + 4 + 6 + 211 + 80, 400 + 4 + 6 + 8 + 80] ∧
    [0, 1, 2, 3].map (costAt (busy 0#32 false 0 []).snap) = [400, 400, 400, 400] := by decide +kernel

/-! ### Witnesses: what comes about inside a serving pulse -/

/-- A PUBLISH due on frame 60 that has waited under port B's hold until pulse 109, the start of frame 110. -/
def waitingPublish (st : EntryState) : State :=
  withQueue [entryOf 2 (.publish 0) 60#32 st] (withHold (some .b) (cycleAt 108#32 .acquiring none 0 (some 4800000) fresh))

theorem waitingPublish_law (st : EntryState) (h : st = .queued ∨ st = .deferred) : TakeLaw (waitingPublish st).tke := by
  rcases h with rfl | rfl <;> exact queueLaw _ (by decide) (by decide) (by decide)

/-- A PUBLISH due on frame 102, under a hold, beside a running sweep or not, over a draft that differs from the air plan. -/
def publishing (n : Nat) (urgent : Bool) (hold : Option Port) (others : List TakeEntry) : State :=
  (withHold hold (taking ({ dueEntry 1 (.publish n) with urgent := urgent } :: others))).onPln fun l =>
    { l with draft := { l.draft with w := 32768, cursor := 9#32, stride := 2 } }

theorem publishing_pulse (n : Nat) (urgent : Bool) (hold : Option Port) (others : List TakeEntry)
    (h : others = [] ∨ others = [sweepingEntry 3 1]) : SolePulse (publishing n urgent hold others) 4800000 := by
  refine ⟨rfl, rfl, rfl, queueLaw ({ dueEntry 1 (.publish n) with urgent := urgent } :: others) ?_ ?_ ?_⟩ <;>
    rcases h with rfl | rfl <;> first | exact Nat.zero_le 1 | exact Nat.le_refl 1 | simp [dueEntry, sweepingEntry, entryOf]

theorem witness_DeferredPublishExpires :
    (∀ st ∈ [EntryState.queued, EntryState.deferred],
      (waitingPublish st).power = .running ∧ (waitingPublish st).fcy.timer = some 4800000 ∧
      TakeLaw (waitingPublish st).tke ∧ entryOf 2 (.publish 0) 60#32 st ∈ (waitingPublish st).tke.queue ∧
      (entryOf 2 (.publish 0) 60#32 st).urgent = false ∧ (waitingPublish st).pln.hold = some Port.a.other ∧
      (waitingPublish st).opr.role = .sole ∧ 60#32 + 50 = (waitingPublish st).fcy.count + 2 ∧
      (waitingPublish st).opr.negotiation = none) ∧
    (∀ n urgent hold, ∀ others ∈ [[], [sweepingEntry 3 1]], SolePulse (publishing n urgent hold others) 4800000) ∧
    (∀ n ∈ [0, 1, 250], ∀ urgent ∈ [true, false], ∀ others ∈ [[], [sweepingEntry 3 1]],
      dueNext (publishing n urgent (some .b) others) = [{ dueEntry 1 (.publish n) with urgent := urgent }]) ∧
    ((publishing 0 true (some .b) []).pln.hold = some Port.a.other ∧ (publishing 0 false none []).pln.hold = none ∧
      reached (102#32 + 50) ((publishing 0 false (some .b) []).fcy.count + 2) = false) := by
  refine ⟨fun st h => ⟨rfl, rfl, waitingPublish_law st (by simpa using h), by simp [waitingPublish, withQueue, State.onTke],
    rfl, rfl, rfl, rfl, rfl⟩, fun n urgent hold others h => publishing_pulse n urgent hold others (by simpa using h),
    by decide +kernel, rfl, rfl, by decide +kernel⟩

/-- The law of R53 and what each of those pulses does: a cut, a swept PUBLISH, an URGENT one under the hold and a
deferral. -/
theorem test_publish_at_a_pulse :
    ([(0, false, none, []), (0, false, none, [sweepingEntry 3 1]), (2, false, none, []), (0, true, some .b, []),
      (0, false, some .b, [])] : List (Nat × Bool × Option Port × List TakeEntry)).map (fun x =>
        let u := after (.internalPulse false) (publishing x.1 x.2.1 x.2.2.1 x.2.2.2)
        ((u.pln.air.seq, u.pln.air.w, u.pln.air.cursor, u.pln.air.stride), u.tke.completions.a.map Completion.status)) =
      [((1#16, 32768, 9#32, 2), [.done]), ((1#16, 32768, 9#32, 2), [.superseded, .done]),
       ((1#16, 49152, 4#32, 2), []), ((1#16, 32768, 9#32, 2), [.doneHeld]), ((0#16, 65535, 0#32, 1), [])] := by
  decide +kernel

theorem test_take_expiry :
    dueNext (waitingPublish .deferred) = [entryOf 2 (.publish 0) 60#32 .deferred] ∧
    (after (.takeExpiry (.internal false)) (waitingPublish .deferred)).tke.log =
      (after (.takeExpiry (.internal false)) (waitingPublish .deferred)).tke.completions.a ∧
    (after (.takeExpiry (.internal false)) (waitingPublish .deferred)).tke.completions.a =
      [{ port := .a, tag := 2, sort := .publish, status := .expired, applied := 110#32, due := 60#32 }] := by
  decide +kernel

/-- A part whose 100th qualifying start comes at the next pulse. -/
def readyToRelax (sticky : Nat) : State := withCmp { sticky := sticky, relax := 99, previousLate := false } fresh

theorem witness_HundredthQualifyingStartRelaxes :
    ∀ sticky ∈ [1, 3], (readyToRelax sticky).power = .running ∧ (readyToRelax sticky).fcy.timer = some 4800000 ∧
      (readyToRelax sticky).opr.role = .sole ∧ (readyToRelax sticky).tke.queue = [] ∧
      1 ≤ (readyToRelax sticky).cmp.sticky ∧ (readyToRelax sticky).cmp.sticky ≤ 3 ∧
      (readyToRelax sticky).cmp.relax = 99 ∧ (readyToRelax sticky).cmp.previousLate = false ∧
      costAt (snapshotOf (readyToRelax sticky)) ((readyToRelax sticky).cmp.sticky - 1) +
        (if (readyToRelax sticky).ing.halt ≤ (readyToRelax sticky).ing.queue.length then 3000 else 0) ≤
        Config.budget (readyToRelax sticky).fcy.rate := by decide +kernel

theorem test_relaxation : (after (.relaxation (.internal false)) (readyToRelax 3)).cmp =
    { sticky := 2, relax := 0, previousLate := false } := by decide +kernel

/-- A part whose unit in reception has stood through four pulses. -/
def staleUnit : State := fresh.onIng fun i => { i with reception := some [0x02#8, 0xC7#8, 0x2A#8], gap := 4 }

/-- A paired part with a report in reception across a pulse. -/
def staleReport : State := (pairedPart .standby).onOpr fun o => { o with link := some { bytes := [0x00#8], pulses := 1 } }

theorem witness_StaleUnitsAndReportsAreDiscarded :
    (staleUnit.power = .running ∧ staleUnit.fcy.timer = some 4800000 ∧
      staleUnit.ing.reception = some [0x02#8, 0xC7#8, 0x2A#8] ∧ staleUnit.ing.gap = 4 ∧
      staleUnit.ing.queue.length < 64) ∧
    staleReport.power = .running ∧ staleReport.fcy.timer = some 4800000 ∧ staleReport.opr.role ≠ .sole ∧
      staleReport.opr.link = some { bytes := [0x00#8], pulses := 1 } := by decide +kernel

theorem test_stale : (after (.stale (.internal false)) staleUnit).ing.queue =
    [{ mark := .stale, type_ := some 0x02#8, length_ := some 199, payload := [], overrun := none }] := by
  decide +kernel

theorem test_partner_report_timeout :
    (after (.partnerReportTimeout (.internal false)) staleReport).opr.link = none := by decide +kernel

/-- A paired part that has missed its partner twice. -/
def missedTwice (inStep : Bool) : State :=
  (pairedPart .standby).onOpr fun o => { o with partnerPresent := true, missed := 2, inStep := inStep }

/-- A report for frame 100, as the partner sends it. -/
def partnerReport (role : ReportRole) (alarm : Bool) : Report := { reportOf 100#32 role .none 0#32 with alarm := alarm }

/-- A paired part with a PRESENT partner, its own report for frame 100 and one in hand. -/
def tracking (role : Role) (inStep : Bool) (r : Option Report) : State :=
  (pairedPart role).onOpr fun o => { o with
    partnerPresent := true, inStep := inStep, inHand := r, sent := some (reportOf 100#32 .standby .none 0#32) }

/-- A SWAP entry of port A that a record has joined. -/
def swapEntry : TakeEntry := entryOf 3 .swap 102#32 .negotiating

/-- Such a part with a record for a line frame, whose entry is in the queue. -/
def swapping (role : Role) (inStep : Bool) (r : Option Report) (n : Negotiation) (line : Word32) : State :=
  withNegotiation { n with lineFrame := line } (withQueue [swapEntry] (tracking role inStep r))

/-- A record with a joined entry, whose next stage frame is F - 2 + `passed`. -/
def joined (side : Side) (stage : Stage) (passed : Nat) : Negotiation :=
  { recordOf side stage with entries := [{ port := .a, tag := 3 }], passed := passed }

theorem swapping_pulse (role : Role) (inStep : Bool) (r : Option Report) (n : Negotiation) (line : Word32)
    (h : ∀ x, r = some x → x.frame = 100#32) :
    SwapPulse (swapping role inStep r n line) 4800000 { n with lineFrame := line } :=
  ⟨rfl, rfl, queueLaw [swapEntry] (by decide) (by decide) (by decide), rfl, rfl, .inr (by show 0 < 2; decide), fun _ => h⟩

/-- The records of the stages with their line frames at count 100: what is due at the pulse that makes 101. -/
def stageCases : List (Role × Bool × Option Report × Negotiation × Word32) :=
  [-- the main side: F - 1 with OFFER seen and not, F, and F + 1 with the line taken and not
   (.main, true, none, { joined .mainSide .requesting 1 with offerSeen := true }, 102#32),
   (.main, true, none, joined .mainSide .requesting 1, 102#32),
   (.main, true, none, { joined .mainSide .released 2 with automatic := true }, 101#32),
   (.handingOver, true, some (partnerReport .main false), joined .mainSide .released 3, 100#32),
   (.handingOver, true, some (partnerReport .standby false), { joined .mainSide .released 3 with automatic := true }, 100#32),
   -- the standby side: before F - 2, F - 2 fit and not, F - 1 fit and received, F released and withdrawn
   (.standby, false, none, joined .standbySide .offering 0, 110#32),
   (.standby, true, none, joined .standbySide .waiting 0, 103#32),
   (.standby, false, none, joined .standbySide .waiting 0, 103#32),
   (.standby, true, none, joined .standbySide .offering 1, 102#32),
   (.standby, true, none, joined .standbySide .releaseReceived 1, 102#32),
   (.standby, true, none, { joined .standbySide .releaseReceived 2 with automatic := true }, 101#32),
   (.standby, true, none, joined .standbySide .withdrawn 2, 101#32)]

/-- A part whose partner has long been lost. -/
def alone (role : Role) (ref : RefState) : State :=
  ((pairedPart role).onOpr fun o => { o with lossCount := 24 }).onFcy fun f => { f with ref := ref }

/-- Every clause has its states: the comparison with a report in hand and without, the stages of `stageCases`, a STANDBY that
sees its partner's alarm, a part alone, and a MAIN with another MAIN's report. -/
theorem witness_ThirdMissedPeriodLosesThePartner :
    (∀ b ∈ [true, false], (missedTwice b).power = .running ∧ (missedTwice b).fcy.timer = some 4800000 ∧
      (missedTwice b).opr.role ≠ .sole ∧ (missedTwice b).opr.partnerPresent = true ∧
      (missedTwice b).opr.inHand = none ∧ (missedTwice b).opr.missed = 2) ∧
    (∀ role inStep r, (tracking role inStep r).power = .running ∧ (tracking role inStep r).fcy.timer = some 4800000 ∧
      (tracking role inStep r).opr.role = role ∧ (tracking role inStep r).opr.inHand = r ∧
      (tracking role inStep r).opr.sent = some (reportOf 100#32 .standby .none 0#32) ∧
      (tracking role inStep r).opr.negotiation = none ∧ (tracking role inStep r).opr.autoTakeover = true) ∧
    (∀ x ∈ stageCases, SwapPulse (swapping x.1 x.2.1 x.2.2.1 x.2.2.2.1 x.2.2.2.2) 4800000
      { x.2.2.2.1 with lineFrame := x.2.2.2.2 } ∧ NoContender (swapping x.1 x.2.1 x.2.2.1 x.2.2.2.1 x.2.2.2.2)) ∧
    ((partnerReport .main true).role = .main ∧ (partnerReport .main true).alarm = true) ∧
    (∀ role ref, (alone role ref).opr.inHand = none ∧ (alone role ref).opr.partnerPresent = false ∧
      24 ≤ (alone role ref).opr.lossCount ∧ (alone role ref).opr.role = role ∧ NoContender (alone role ref) ∧
      (alone role ref).opr.negotiation = none ∧ TakeLaw (alone role ref).tke) ∧
    alarm (alone .main .lost) = true ∧
    (Outranks (reportOf 101#32 .main .none 0#32) (reportOf 100#32 .main .none 0#32) .pairFirst ∧
      Outranks (reportOf 100#32 .main .none 0#32) (reportOf 100#32 .main .none 0#32) .pairSecond ∧
      ¬ Outranks (reportOf 100#32 .main .none 0#32) (reportOf 100#32 .main .none 0#32) .pairFirst) := by
  refine ⟨by decide +kernel, fun _ _ _ => ⟨rfl, rfl, rfl, rfl, rfl, rfl, rfl⟩,
    fun x hx => ⟨swapping_pulse _ _ _ _ _ ?_, nofun⟩, ⟨rfl, rfl⟩,
    fun _ _ => ⟨rfl, rfl, Nat.le_refl 24, rfl, nofun, rfl, queueLaw [] (by decide) (by decide) (by decide)⟩,
    by decide +kernel, .inl (by decide +kernel), .inr (by decide +kernel), by unfold Outranks; decide +kernel⟩
  revert x
  simp [stageCases, partnerReport, reportOf]

/-- What the stages do: the role, the record's stage and the entry's outcome after the pulse, with FAULT at the role changes
of a record that began AUTOMATIC. -/
theorem test_stages :
    stageCases.map (fun x => let u := after (.internalPulse false) (swapping x.1 x.2.1 x.2.2.1 x.2.2.2.1 x.2.2.2.2)
      (u.opr.role, u.opr.negotiation.map Negotiation.stage, u.tke.completions.a.map Completion.status,
        u.cnu.raised.a.fault)) =
      [(.main, some .released, [], false), (.main, none, [.swapFailed], false), (.handingOver, some .released, [], true),
       (.standby, none, [.done], false), (.main, none, [.swapFailed], true),
       (.standby, some .waiting, [], false), (.standby, some .offering, [], false), (.standby, none, [.notInStep], false),
       (.standby, some .offering, [], false), (.standby, some .withdrawn, [], false),
       (.main, none, [.done], true), (.standby, none, [.swapFailed], false)] := by decide +kernel

/-- The eighth match, the second mismatch, automatic negotiation, forced takeover, self-release and contention. -/
theorem test_pair_pulses :
    (after (.internalPulse false) ((tracking .main false (some (partnerReport .standby false))).onOpr fun o =>
      { o with matchRun := 7 })).opr.inStep = true ∧
    (after (.internalPulse false) ((tracking .main true (some { partnerReport .standby false with level := 1#8 })).onOpr
      fun o => { o with mismatchRun := 1 })).cnu.counters.stepLosses = 1 ∧
    ((after (.internalPulse false) (tracking .standby true (some (partnerReport .main true)))).opr.negotiation.map
      fun n => (n.lineFrame, n.origin, n.automatic, n.stage)) = some (105#32, .automatic, true, .offering) ∧
    (after (.internalPulse true) (alone .standby .acquiring)).opr.role = .main ∧
    (after (.internalPulse false) (alone .main .lost)).opr.role = .standby ∧
    [100#32, 101#32].map (fun frame => (after (.internalPulse false) ((tracking .main false none).onOpr fun o =>
      { o with mains := [reportOf frame .main .none 0#32] })).opr.role) = [.main, .standby] := by decide +kernel

theorem test_partner_loss :
    (after (.partnerLoss (.internal false)) (missedTwice true)).opr.partnerPresent = false ∧
    (after (.partnerLoss (.internal false)) (missedTwice true)).cnu.counters.stepLosses = 1 := by decide +kernel

/-! ### Witnesses: the partner link -/

/-- A record of the standby side that began AUTOMATIC. -/
def automaticRecord : Negotiation := { recordOf .standbySide .offering with origin := .automatic, automatic := true }

theorem witness_PartnerReportIsTakenInHandAndActedOn :
    ((pairedPart .main).power = .running ∧ (pairedPart .main).opr.role ≠ .sole ∧
      reached ((reportOf 99#32 .standby .none 0).frame + 1) (pairedPart .main).fcy.count = true ∧
      reached ((reportOf 100#32 .standby .none 0).frame + 1) (pairedPart .main).fcy.count = false) ∧
    ((withNegotiation (recordOf .mainSide .requesting) (pairedPart .main)).opr.role = .main ∧
      reached ((110#32 : Word32) - 1) (reportOf 100#32 .standby .offer 110#32).frame = false) ∧
    (((pairedPart .standby).onOpr fun o => { o with inStep := true }).opr.inStep = true ∧
      (pairedPart .standby).opr.negotiation = none ∧
      reached ((110#32 : Word32) - 1) (pairedPart .standby).fcy.count = false) ∧
    (withNegotiation (recordOf .standbySide .offering) (pairedPart .standby)).opr.role = .standby ∧
    (alarm (alone .main .lost) = true ∧ (alone .main .lost).opr.negotiation = none ∧
      alarm (alone .main .locked) = false ∧ (recordOf .mainSide .requesting).origin ≠ .automatic ∧
      automaticRecord.origin = .automatic) ∧
    -- where OFFER(F) and REQUEST(F) begin to be ignored
    (reached ((102#32 : Word32) - 1) (reportOf 100#32 .standby .offer 102#32).frame = false ∧
      reached ((101#32 : Word32) - 1) (reportOf 100#32 .standby .offer 101#32).frame = true ∧
      reached ((101#32 : Word32) - 1) (pairedPart .standby).fcy.count = true) := by decide +kernel

/-- What swap words do to no record, an AUTOMATIC one and one of a take: the record made by OFFER under ALARM, the new line
frame of a REQUEST, and what is ignored. -/
theorem test_swap_words_received :
    [102#32, 101#32].map (fun line =>
      (after (.partnerReport (reportOf 100#32 .standby .offer line)) (alone .main .lost)).opr.negotiation) =
      [some { recordOf .mainSide .requesting with
        lineFrame := 102#32, origin := .automatic, automatic := true, offerSeen := true, passed := 1 }, none] ∧
    (after (.partnerReport (reportOf 100#32 .standby .offer 110#32)) (alone .main .locked)).opr.negotiation = none ∧
    [automaticRecord, recordOf .standbySide .offering].map (fun n =>
      (after (.partnerReport (reportOf 100#32 .main .request 120#32)) (withNegotiation n (pairedPart .standby))).opr.negotiation)
      = [some { automaticRecord with lineFrame := 120#32, origin := .request }, some (recordOf .standbySide .offering)] := by
  decide +kernel

theorem test_partner_report :
    (after (.partnerReport (reportOf 100#32 .main .release 110#32))
      (withNegotiation (recordOf .standbySide .offering) (pairedPart .standby))).opr.negotiation =
        some { recordOf .standbySide .offering with stage := .releaseReceived } ∧
    (after (.partnerReport (reportOf 99#32 .main .release 110#32))
      (withNegotiation (recordOf .standbySide .offering) (pairedPart .standby))).opr.negotiation =
        some (recordOf .standbySide .offering) := by decide +kernel

/-- A report as its bytes after the lead, and what stands of it before the last. -/
def reportOne : Report := reportOf 100#32 .main .release 110#32

/-- A paired part that has taken `n` bytes of that report. -/
def takingReport (n : Nat) : State :=
  (pairedPart .standby).onOpr fun o =>
    { o with link := some { bytes := ((reportBytes reportOne).drop 1).take n, pulses := 0 } }

theorem witness_FramedReportIsReceivedWhole :
    (pairedPart .standby).opr.link = none ∧ (pairedPart .standby).opr.role ≠ .sole ∧
    (takingReport 20).opr.link.map (fun l => l.bytes.length) = some 20 ∧
    (takingReport 21).opr.link.map (fun l => l.bytes.length) = some 21 ∧
    0x96#8 :: (((reportBytes reportOne).drop 1).take 21 ++ [(reportBytes reportOne).getD 22 0]) = reportBytes reportOne ∧
    (let bytes := ((reportBytes reportOne).drop 1).take 21
     crc16 (bytes.take 20) = (reportBytes reportOne).getD 22 0#8 ++ bytes.getD 20 0#8 ∧
      crc16 (bytes.take 20) ≠ ((reportBytes reportOne).getD 22 0#8 + 1) ++ bytes.getD 20 0#8 ∧
      bytes.getD 4 0#8 = 1#8) := by decide +kernel

theorem test_partner_link_character :
    after (.partnerLinkCharacter (.good ((reportBytes reportOne).getD 22 0))) (takingReport 21) =
      after (.partnerReport reportOne) (takingReport 21) ∧
    after (.partnerLinkCharacter (.good ((reportBytes reportOne).getD 22 0 + 1))) (takingReport 21) =
      (takingReport 21).onOpr fun o => { o with link := none } := by decide +kernel

/-! ### Witnesses: the ingest link -/

/-- A part with bytes of a unit in reception and n units queued. -/
def receiving (bytes : List Byte) (n : Nat) : State :=
  fresh.onIng fun i => { i with reception := some bytes, queue := List.replicate n (markedUnit .check [0x02#8]) }

theorem witness_IngestReceiverTakesCharacters :
    fresh.ing.reception = none ∧ (receiving [] 0).ing.reception = some [] ∧ (200#8 : Byte).toNat ≤ 200 ∧
    200 < (201#8 : Byte).toNat ∧ (receiving [0x01#8] 63).ing.queue.length < 64 ∧
    (receiving [0x01#8, 0x07#8, 0#8] 64).ing.queue.length = 64 ∧ [(0#8 : Byte)].length < (7#8 : Byte).toNat + 1 := by
  decide +kernel

theorem test_ingest_character :
    (after (.ingestCharacter .bad) (receiving [0x01#8] 0)).ing.queue = [markedUnit .framing [0x01#8]] ∧
    (after (.ingestCharacter .bad) (receiving [0x01#8] 64)).ing.overrun = some 1 := by decide +kernel

/-- The RUN END unit of run 42 with 6 frames, after its lead. -/
def runEndUnit : List Byte := [0x04#8, 3#8, 42#8, 0#8, 6#8]

theorem witness_FramedUnitClosesGood :
    (receiving (runEndUnit ++ [(crc16 runEndUnit).extractLsb' 8 8]) 63).ing.reception =
      some (0x04#8 :: BitVec.ofNat 8 [42#8, 0#8, 6#8].length :: [42#8, 0#8, 6#8] ++
        [(crc16 runEndUnit).extractLsb' 8 8]) ∧
    (receiving [] 63).ing.queue.length < 64 ∧
    crc16 runEndUnit = (crc16 runEndUnit).extractLsb' 8 8 ++ (crc16 runEndUnit).extractLsb' 0 8 ∧
    crc16 runEndUnit ≠ (crc16 runEndUnit).extractLsb' 8 8 ++ ((crc16 runEndUnit).extractLsb' 0 8 + 1) := by
  decide +kernel

/-- A part with a grant, whose ingest queue holds one unit. -/
def oneUnit (u : IngestUnit) (grant : Nat) : State := fresh.onIng fun i => { i with queue := [u], grant := grant }

/-- RUN START of run 42, base 0, 6 frames. -/
def runStartUnit : IngestUnit where
  mark := .none
  type_ := some 0x01#8
  length_ := some 7
  payload := [42#8, 0#8, 0#8, 0#8, 0#8, 0#8, 6#8]
  overrun := none

/-- A good unit of a type with a payload. -/
def unitOf (type_ : Byte) (payload : List Byte) : IngestUnit where
  mark := .none
  type_ := some type_
  length_ := some payload.length
  payload := payload
  overrun := none

/-- A filling frame of NEXT that lacks row 31. -/
def fillingFrame (offset : Nat) : WindFrame where
  owner := .next
  offset := offset
  state := .filling
  mask := 0x7FFFFFFF#32
  clamped := false
  grid := List.replicate 32 (List.replicate 48 { u := 0, v := 0 })

/-- A store whose CURRENT is run 7 and whose NEXT, run 42 of one frame, is being loaded. -/
def openStore (slots : List (Option WindFrame)) : Fsw where
  current := some { id := 7#16, base := 0#32, expected := 1 }
  next := some { state := .opened, run := { id := 42#16, base := 0#32, expected := 1 }, sent := 0, short := false }
  abandonment := 5#32
  slots := slots

/-- A part with one unit to load into that store. -/
def loading (type_ : Byte) (payload : List Byte) (slots : List (Option WindFrame)) : State :=
  { oneUnit (unitOf type_ payload) 200 with fsw := openStore slots }

/-- Row 31 of the frame at offset 60, of run 42, with one component beyond the range. -/
def rowPayload : List Byte :=
  [42#8, 0#8, 60#8, 0#8, 31#8] ++
    (((0x7FFF#16, 0xFFFF#16) :: List.replicate 47 (1#16, 2#16)).map fun q : Word16 × Word16 =>
      bytes16 q.1 ++ bytes16 q.2).flatten

theorem station14_law : RecordLaw station14 := by
  unfold RecordLaw
  decide +kernel

theorem witness_LoaderMovesTheHeadForItsCost :
    (fresh.ing.queue = [] ∧ (oneUnit (markedUnit .check []) 4).ing.grant < 5 ∧
      5 ≤ (oneUnit (markedUnit .check []) 5).ing.grant ∧ (markedUnit .check []).mark ≠ .none ∧
      (oneUnit runStartUnit 19).ing.grant < 20 ∧ 20 ≤ (oneUnit runStartUnit 20).ing.grant ∧ runStartUnit.mark = .none) ∧
    (∀ type_ payload slots, (loading type_ payload slots).ing.queue = [unitOf type_ payload] ∧
      (loading type_ payload slots).ing.grant = 200 ∧ (loading type_ payload slots).fsw = openStore slots) ∧
    (5 < (6#8 : Byte).toNat ∧ rowPayload.length = 197 ∧ station14.bytes.length = 8 + 8 * 2) ∧
    ((0#8 ++ 42#8 : Word16) = 42#16 ∧ (openStore []).next.map (fun n => n.run.id) = some 42#16 ∧
      (openStore []).current.map RunRecord.id = some 7#16) ∧
    ((16#8 ++ 0xE0#8 : Word16).toNat = 4320 ∧ (16#8 ++ 0xE1#8 : Word16).toNat = 4321 ∧ 31 < (32#8 : Byte).toNat) ∧
    (heldFrames (openStore [none, some (fillingFrame 60)])).map WindFrame.offset = [60] ∧
    RecordLaw station14 ∧ StationLaw (loading 5#8 [] []).fst ∧
    (station14.z0 = max (-2000) (min 8000 station14.z0) ∧ station14.hmax = max (-3000) (min 12000 station14.hmax)) :=
  ⟨by decide +kernel, fun _ _ _ => ⟨rfl, rfl, rfl⟩, by decide +kernel, by decide +kernel, by decide +kernel,
    by decide +kernel, station14_law, ⟨Nat.zero_le _, .nil, nofun⟩, by decide +kernel⟩

theorem test_loader_move :
    (after .loaderMove (oneUnit runStartUnit 20)).fsw.next =
      some { state := .opened, run := { id := 42#16, base := 0#32, expected := 6 }, sent := 0, short := false } ∧
    (after .loaderMove (oneUnit runStartUnit 19)).fsw.next = none ∧
    (after .loaderMove (loading 0x05#8 station14.bytes [])).fst.stations = [station14] := by decide +kernel

/-- The error that a move leaves, or none. -/
def loaderErrorAfter (type_ : Byte) (payload : List Byte) (slots : List (Option WindFrame)) : Option LoaderErrorKind :=
  (after .loaderMove (loading type_ payload slots)).ing.lastError.map LoaderError.kind

/-- RUN START, WIND ROW, FRAME END and RUN END, each acted on and refused. -/
theorem test_loader_moves :
    [loaderErrorAfter 6#8 [] [], loaderErrorAfter 3#8 [] [], loaderErrorAfter 1#8 [0, 0, 0, 0, 0, 0, 6] [],
      loaderErrorAfter 1#8 [7, 0, 0, 0, 0, 0, 6] [], loaderErrorAfter 3#8 [9, 0, 60, 0] [],
      loaderErrorAfter 3#8 [42, 0, 60, 0] [], loaderErrorAfter 2#8 rowPayload [some (fillingFrame 0)],
      loaderErrorAfter 2#8 rowPayload [none], loaderErrorAfter 1#8 [42, 0, 0, 0, 0, 0, 6] []] =
      [some .type_, some .size, some .range, some .closed, some .order, some .order, some .full, none, none] ∧
    (let u := after .loaderMove (loading 1#8 [9, 0, 0, 0, 0, 0, 60] [some (fillingFrame 60)])
     (u.fsw.next.map (fun n => (n.run.id, n.run.expected)), u.fsw.abandonment, u.fsw.slots)) =
      (some (9#16, 48), 6#32, [none]) ∧
    ((heldFrames (after .loaderMove (loading 2#8 rowPayload [some (fillingFrame 60)])).fsw).map fun f =>
      (f.mask, f.clamped, (f.grid.getD 31 []).take 2)) =
        [(0xFFFFFFFF#32, true, [{ u := 1000, v := -1 }, { u := 1, v := 2 }])] ∧
    (heldFrames (after .loaderMove (loading 3#8 [42, 0, 60, 0] [some (fillingFrame 60)])).fsw).map WindFrame.state =
      [.incomplete] ∧
    [[], [some { fillingFrame 60 with state := .complete }]].map (fun slots =>
      (after .loaderMove (loading 4#8 [42, 0, 1] slots)).fsw.next.map NextRun.state) = [some .ended, some .ready] := by
  decide +kernel

theorem witness_SymbolOutputSendsTheWaitingSymbol :
    fresh.ing.sending = some .continue_ ∧ (fresh.onIng fun i => { i with sending := none }).ing.sending = none := by
  decide +kernel

theorem test_symbol_output_done : (after .symbolOutputDone fresh).ing.sending = none := by decide +kernel

/-! ### Witnesses: the control ports -/

/-- A part whose port A receiver stands so. -/
def portBytes (bytes : Option (List Byte)) : State := fresh.onCnu fun c => { c with receiver := c.receiver.set .a bytes }

/-- A part whose port A sends a reply, with another waiting. -/
def replying (waiting : Option Reply) : State :=
  fresh.onCnu fun c => { c with
    reply := c.reply.set .a (some { code := 0x3C#8, status := .done, data := [] }), waiting := c.waiting.set .a waiting }

theorem witness_PortReceiverAssemblesFramesOrAnswersFrameError :
    fresh.cnu.receiver.get .a = none ∧ (portBytes (some [])).cnu.receiver.get .a = some [] ∧
    (1 ≤ (1#8 : Byte).toNat ∧ (250#8 : Byte).toNat ≤ 250) ∧ ((0#8 : Byte).toNat = 0 ∧ 250 < (251#8 : Byte).toNat) ∧
    [(0x3C#8 : Byte)].length + 1 < (2#8 : Byte).toNat + 1 ∧ ([] : List Byte).length + 1 = (1#8 : Byte).toNat ∧
    sumBytes ([1#8, 0x3C#8] ++ [0xC3#8]) = 0 ∧ sumBytes ([1#8, 0x3C#8] ++ [0xC4#8]) ≠ 0 ∧
    (portBytes (some [])).cnu.reply.get .a = none := by decide +kernel

theorem test_request_frame_error :
    (after (.requestFrameError .a (.good 0xC4#8)) (portBytes (some [1#8, 0x3C#8]))).cnu.reply.a =
      some { code := 0x3C#8, status := .frameError, data := [] } ∧
    after (.requestFrameError .a (.good 0xC3#8)) (portBytes (some [1#8, 0x3C#8])) = portBytes (some [1#8, 0x3C#8]) := by
  decide +kernel

theorem test_port_receive_timeout :
    (after (.portReceiveTimeout .a) (portBytes (some [5#8]))).cnu.reply.a =
      some { code := 0#8, status := .frameError, data := [] } := by decide +kernel

/-- READ TIMING framed on port A, and a frame with an unknown code. -/
theorem witness_FramedRequestExecutes :
    (portBytes (some (BitVec.ofNat 8 (([] : List Byte).length + 1) :: 0x3C#8 :: []))).power = .running ∧
    sumBytes (BitVec.ofNat 8 (([] : List Byte).length + 1) :: 0x3C#8 :: ([] : List Byte) ++ [0xC3#8]) = 0#8 ∧
    (portBytes (some (BitVec.ofNat 8 (([] : List Byte).length + 1) :: 0x3C#8 :: []))).cnu.receiver.get .a =
      some (BitVec.ofNat 8 (([] : List Byte).length + 1) :: 0x3C#8 :: []) ∧
    Config.commandCodes.contains 0x3D#8 = false ∧ (List.replicate 249 (0#8 : Byte)).length ≤ 249 := by decide +kernel

theorem test_port_character :
    (after (.portCharacter .a 0xC3#8 false) (portBytes (some [1#8, 0x3C#8]))).cnu.reply.a =
      some { code := 0x3C#8, status := .done, data := timingData fresh.fcy } := by decide +kernel

theorem witness_BusyPortsHoldOneReply :
    fresh.power = .running ∧ Config.commandCodes.contains 0x00#8 = false ∧ fresh.cnu.reply.get .a = none ∧
    (replying none).cnu.reply.get .a = some { code := 0x3C#8, status := .done, data := [] } ∧
    (replying none).cnu.waiting.get .a = none ∧
    (replying (some { code := 0x19#8, status := .busy, data := [] })).cnu.waiting.get .a =
      some { code := 0x19#8, status := .busy, data := [] } ∧
    ((replying none).onCnu fun c => { c with receiver := c.receiver.set .a (some [1#8, 0x3C#8]) }).cnu.receiver.get .a =
      some [1#8, 0x3C#8] := by decide +kernel

theorem test_unknown :
    replyA (after (.unknown .a 0#8) fresh) = some { code := 0#8, status := .unknown, data := [] } := by decide +kernel

theorem test_busy :
    (after (.busy .a 0x19#8) (replying none)).cnu.waiting.a = some { code := 0x19#8, status := .busy, data := [] } ∧
    after (.busy .a 0x19#8) (after (.busy .a 0x19#8) (replying none)) = after (.busy .a 0x19#8) (replying none) := by
  decide +kernel

/-- A frame that ends in FRAME ERROR, and a reading, behind a reply in progress. -/
theorem test_frame_error_waits :
    ((after (.portReceiveTimeout .a) ((replying none).onCnu fun c => { c with
      receiver := c.receiver.set .a (some [1#8, 0x3C#8]) })).cnu.waiting.a.map fun r => (r.code, r.status)) =
        some (0x3C#8, .frameError) ∧
    after (.readPlan .a [0#8]) (replying none) = after (.busy .a 0x19#8) (replying none) ∧
    (after (.readOutputStatus .a [] true) (replying none)).palarm = true := by decide +kernel

theorem test_reply_sent :
    replyA (after (.replySent .a) (replying (some { code := 0x19#8, status := .busy, data := [] }))) =
      some { code := 0x19#8, status := .busy, data := [] } := by decide +kernel

/-! ### Witnesses: the edit hold, the lock and the draft -/

/-- A part with a request pending for a port. -/
def withPendingHold (p : Port) (s : State) : State := s.onPln fun l => { l with waiting := l.waiting.set p true }

theorem ready_hold (p : Port) (h : Option Port) : Ready p (withHold h fresh) := by cases p <;> exact ⟨rfl, rfl⟩

theorem witness_RequestHoldGrantsQueuesOrReclaims :
    (∀ p h, Ready p (withHold h fresh)) ∧ ([] : List Byte).length ≠ 1 ∧ (withHold none fresh).pln.hold = none ∧
    (withHold (some .a) fresh).pln.hold = some .a ∧ (withHold (some .b) fresh).pln.hold = some Port.a.other ∧
    (withHold (some .a) fresh).pln.hold = some Port.b.other ∧ ¬ ((0#8 : Byte).getLsbD 0 = true) ∧
    (1#8 : Byte) = (0#7 ++ 1#1 : Byte) ∧ (withHold none fresh).pln.hold ≠ some .b := by
  refine ⟨ready_hold, by decide +kernel, rfl, rfl, rfl, rfl, by decide +kernel⟩

theorem test_request_hold :
    (after (.requestHold .b [0#8]) (withHold (some .a) fresh)).pln.waiting.b = true ∧
    (after (.requestHold .b [1#8]) (withHold (some .a) fresh)).pln.hold = some .a := by decide +kernel

theorem test_reclaim : (after (.reclaim 0#7) (withHold (some .b) fresh)).pln.hold = some .a ∧
    (after (.reclaim 0#7) (withHold (some .b) fresh)).pln.event.b = .lost := by decide +kernel

theorem witness_ReleaseHoldPassesFreesOrWithdraws :
    (∀ p, Ready p (withPendingHold .b (withHold (some .a) fresh))) ∧ [(0#8 : Byte)] ≠ [] ∧
    (withPendingHold .b (withHold (some .a) fresh)).pln.hold = some .a ∧
    (withPendingHold .b (withHold (some .a) fresh)).pln.waiting.get Port.a.other = true ∧
    (withHold (some .a) fresh).pln.waiting.get Port.a.other = false ∧
    (withPendingHold .b (withHold (some .a) fresh)).pln.hold ≠ some .b ∧
    (withPendingHold .b (withHold (some .a) fresh)).pln.waiting.get .b = true ∧
    fresh.pln.hold ≠ some .b ∧ fresh.pln.waiting.get .b = false := by
  refine ⟨fun p => ?_, by decide +kernel⟩
  cases p <;> exact ⟨rfl, rfl⟩

theorem test_release_hold :
    (after (.releaseHold .a []) (withPendingHold .b (withHold (some .a) fresh))).pln.hold = some .b ∧
    replyA (after (.releaseHold .a []) (withHold (some .b) fresh)) =
      some { code := 0x11#8, status := .notHolder, data := [2#8] } := by decide +kernel

theorem witness_AirLockBelongsToItsSetter :
    (∀ p h, Ready p (withLock h fresh)) ∧ [(0#8 : Byte)] ≠ [] ∧ fresh.pln.lock = none ∧
    (withLock (some .a) fresh).pln.lock = some .a ∧ (withLock (some .a) fresh).pln.lock = some Port.b.other := by
  refine ⟨fun p h => ?_, by decide +kernel, rfl, rfl, rfl⟩
  cases p <;> exact ⟨rfl, rfl⟩

theorem test_set_air_lock : (after (.setAirLock .a []) fresh).pln.lock = some .a := by decide +kernel

theorem test_clear_air_lock :
    (after (.clearAirLock .b []) (withLock (some .a) fresh)).pln.lock = some .a ∧
    (after (.clearAirLock .a []) (withLock (some .a) fresh)).pln.lock = none := by decide +kernel

theorem witness_SetViewStoresTheClampedView :
    Ready .a (withHold (some .a) fresh) ∧ fresh.pln.hold ≠ some .a ∧ (withHold (some .a) fresh).pln.hold = some .a ∧
    [(0#8 : Byte)].length ≠ 6 ∧ (1024 : Nat) = max 1024 ((4#8 : Byte) ++ (0#8 : Byte)).toNat ∧
    (65535 : Nat) = max 1024 ((255#8 : Byte) ++ (255#8 : Byte)).toNat := by
  refine ⟨⟨rfl, rfl⟩, by decide +kernel⟩

theorem test_set_view :
    replyA (after (.setView .a [0xFF#8, 0xFF#8, 0#8, 0#8, 0#8, 4#8]) (withHold (some .a) fresh)) =
      some { code := 0x12#8, status := .done, data := nat16 64512 ++ nat16 0 ++ nat16 1024 ++ nat16 576 } := by decide +kernel

theorem witness_CursorLayersAndGaugesAreEdited :
    Ready .a (withHold (some .a) fresh) ∧ fresh.pln.hold ≠ some .a ∧ (withHold (some .a) fresh).pln.hold = some .a ∧
    ([] : List Byte).length ≠ 4 ∧ ([] : List Byte).length ≠ 2 ∧ ([] : List Byte).length ≠ 3 ∧
    ([] : List Byte).length ≠ 1 ∧ ¬ (11 < (11#8 : Byte).toNat) ∧ 11 < (12#8 : Byte).toNat := by
  refine ⟨⟨rfl, rfl⟩, by decide +kernel⟩

theorem test_set_cursor :
    (after (.setCursor .a [1#8, 2#8, 3#8, 4#8]) (withHold (some .a) fresh)).pln.draft.cursor = 0x04030201#32 := by
  decide +kernel

theorem test_set_layers :
    replyA (after (.setLayers .a [0xF6#8, 0#8]) (withHold (some .a) fresh)) =
      some { code := 0x14#8, status := .done, data := [6#8, 1#8] } := by decide +kernel

theorem test_set_gauge :
    (after (.setGauge .a [11#8, 14#8, 1#8]) (withHold (some .a) fresh)).pln.draft.gauges =
      List.replicate 11 none ++ [some { station := 14, curve := true }] ∧
    (replyA (after (.setGauge .a [12#8, 14#8, 1#8]) (withHold (some .a) fresh))).map Reply.status = some .range := by
  decide +kernel

theorem test_clear_gauge :
    (after (.clearGauge .a [0#8]) (withHold (some .a) fresh)).pln.draft.gauges = List.replicate 12 none := by decide +kernel

theorem witness_SetAreasAndCopyReplaceTheDraft :
    Ready .a (withHold (some .a) fresh) ∧ fresh.pln.hold ≠ some .a ∧ (withHold (some .a) fresh).pln.hold = some .a ∧
    [(0#8 : Byte)] ≠ [] ∧ ([] : List Byte).length ≠ 2 * (1#8 : Byte).toNat ∧ 124 < (125#8 : Byte).toNat ∧
    ([4095#16, 1#16] : List Word16).length ≤ 124 ∧ 4095 < (4096#16 : Word16).toNat ∧
    (∀ id ∈ ([4095#16, 1#16] : List Word16).take 8, 1 ≤ id.toNat ∧ id.toNat ≤ 4095) := by
  exact ⟨⟨rfl, rfl⟩, by decide +kernel, rfl, by simp⟩

theorem test_set_areas :
    (after (.setAreas .a [3#8, 7#8, 0#8, 9#8, 0#8, 7#8, 0#8]) (withHold (some .a) fresh)).pln.draft.areas = [7, 9] ∧
    (replyA (after (.setAreas .a [1#8, 0#8, 16#8]) (withHold (some .a) fresh))).map Reply.status = some .range := by
  decide +kernel

theorem test_copy_air_to_draft :
    (after (.copyAirToDraft .a []) (withHold (some .a) (fresh.onPln fun l =>
      { l with air := { l.air with seq := 9#16 } }))).pln.draft.seq = 9#16 := by decide +kernel

theorem defaultPlan_law : PlanLaw Plan.default := by simp [PlanLaw, Plan.default]

theorem witness_ReadPlanShowsAPlanAndTheHold :
    Ready .a fresh ∧ PlansLaw fresh.pln ∧ ([] : List Byte).length ≠ 1 ∧ 1 < (2#8 : Byte).toNat ∧
    (0#8 : Byte).toNat ≤ 1 ∧ (1#8 : Byte).toNat ≤ 1 := by
  refine ⟨⟨rfl, rfl⟩, ⟨defaultPlan_law, defaultPlan_law⟩, by decide +kernel⟩

theorem test_read_plan :
    (replyA (after (.readPlan .a [1#8]) fresh)).map (fun r => (r.data.length, r.data.drop 57)) =
      some (60, [0#8, 0#8, 0#8]) := by decide +kernel

/-! ### Witnesses: the forecast store -/

theorem witness_RunsAndFramesAreRead :
    Ready .a fresh ∧ fresh.fsw.slots.length = 48 ∧ [(0#8 : Byte)] ≠ [] ∧ ([] : List Byte).length ≠ 1 ∧
    47 < (48#8 : Byte).toNat ∧ (47#8 : Byte).toNat ≤ 47 ∧ (0#8 : Byte).toNat ≤ 47 ∧
    [(Owner.current, FrameState.complete), (.next, .filling)][1]? = some (Owner.next, FrameState.filling) := by
  refine ⟨⟨rfl, rfl⟩, rfl, by decide +kernel⟩

theorem test_read_run_status :
    (replyA (after (.readRunStatus .a []) fresh)).map (fun r => (r.data.length, r.data.getD 22 0)) = some (31, 48#8) ∧
    (replyA (after (.readRunStatus .a []) { fresh with fsw := openStore (some (fillingFrame 60) ::
      some { fillingFrame 0 with owner := .current, state := .complete, clamped := true } :: List.replicate 46 none) })).map
        (fun r => r.data.drop 22) = some [46#8, 1, 0, 0, 0, 0, 1, 1, 0] := by
  decide +kernel

theorem test_read_frame_table :
    replyA (after (.readFrameTable .a [47#8]) fresh) =
      some { code := 0x21#8, status := .done, data := [47#8, 1#8, 47#8, 0, 0, 0, 0, 0, 0, 0] } := by decide +kernel

/-- A part whose hold is A's, with segments and stations in the store. -/
def storing (segments : List Segment) (stations : List Station) : State :=
  (withHold (some .a) fresh).onFst fun _ => { stations := stations, segments := segments }

theorem ready_storing (segments : List Segment) (stations : List Station) : Ready .a (storing segments stations) :=
  ⟨rfl, rfl⟩

theorem storing_segment_law : SegmentLaw (storing [segmentOne 7] []).fst := by
  refine ⟨by simp [storing, State.onFst], by simp [storing, State.onFst],
    by simp [storing, segmentOne, State.onFst], fun g hg => ?_⟩
  rcases List.mem_singleton.mp hg with rfl
  exact segmentOne_law 7 (by decide) (by decide)

/-- LOAD SEGMENT's parameters for an id and the two points of `segmentOne`. -/
def segmentParams (i0 i1 : Byte) : List Byte := [i0, i1, 0, 2, 10, 0, 20, 0, 30, 0, 5, 0]

/-- Ids at both ends, an id above, too few points, and a list with the segment and one without it. -/
theorem witness_SegmentCommandsFollowTheirTests :
    Ready .a (storing [segmentOne 7] []) ∧ SegmentLaw (storing [segmentOne 7] []).fst ∧
    fresh.pln.hold ≠ some .a ∧ (storing [segmentOne 7] []).pln.hold = some .a ∧
    ([⟨10#16, 20#16⟩, ⟨30#16, 5#16⟩] : List (Word16 × Word16)).length ≤ 255 ∧
    segmentParams 7 0 = bytes16 7#16 ++ [0#8, BitVec.ofNat 8 2] ++
      (([⟨10#16, 20#16⟩, ⟨30#16, 5#16⟩] : List (Word16 × Word16)).map fun q => bytes16 q.1 ++ bytes16 q.2).flatten ∧
    (0#16 : Word16).toNat = 0 ∧ 4095 < (4096#16 : Word16).toNat ∧ (4095#16 : Word16).toNat ≤ 4095 ∧
    SegClass.code .coast = 0#8 ∧ (storing [segmentOne 7] []).pln.lock = none ∧
    (∃ g ∈ (storing [segmentOne 7] []).fst.segments, g.id = (7#16 : Word16).toNat) ∧
    (∀ g ∈ (storing [segmentOne 7] []).fst.segments, g.id ≠ (8#16 : Word16).toNat) ∧
    ((storing [segmentOne 7] []).fst.segments.filter fun g => g.id ≠ 8) = [segmentOne 7] ∧
    ((storing [segmentOne 7] []).fst.segments.filter fun g => g.id ≠ 7) = [] ∧
    ([0#8, 0#8, 0#8] : List Byte).length < 4 ∧ ([] : List Byte).length ≠ 2 := by
  refine ⟨⟨rfl, rfl⟩, storing_segment_law, ?_⟩
  decide +kernel

theorem test_load_segment :
    (after (.loadSegment .a (segmentParams 7 0)) (storing [segmentOne 9] [])).fst.segments = [segmentOne 7, segmentOne 9] ∧
    replyA (after (.loadSegment .a (segmentParams 9 0)) (storing [segmentOne 9] [])) =
      some { code := 0x28#8, status := .done, data := [1#8, 1#8, 0#8, 2#8, 0#8] } := by decide +kernel

theorem test_delete_segment :
    (after (.deleteSegment .a [9#8, 0#8]) (storing [segmentOne 9] [])).fst.segments = [] ∧
    (replyA (after (.deleteSegment .a [8#8, 0#8]) (storing [segmentOne 9] []))).map Reply.status = some .notFound := by
  decide +kernel

theorem test_read_segments :
    (replyA (after (.readSegments .a [8#8, 0#8]) (storing [segmentOne 7, segmentOne 9] []))).map Reply.data =
      some ([2, 0, 4, 0, 1, 9, 0, 0, 2, 10, 0, 5, 0, 30, 0, 20, 0] : List Byte) := by decide +kernel

theorem stationOne_law (n : Nat) (h1 : 1 ≤ n) (h2 : n ≤ 255) : RecordLaw (stationOne n) := by
  simp [RecordLaw, stationOne, h1, h2]

theorem storing_station_law : StationLaw (storing [] [stationOne 14]).fst := by
  refine ⟨by simp [storing, State.onFst], by simp [storing, State.onFst], fun st hst => ?_⟩
  rcases List.mem_singleton.mp hst with rfl
  exact stationOne_law 14 (by decide) (by decide)

/-- A part with station 14 on air under the lock. -/
def stationOnAir : State :=
  (withLock (some .b) (storing [] [stationOne 14])).onPln fun l =>
    { l with air := { l.air with gauges := l.air.gauges.set 0 (some { station := 14, curve := false }) } }

/-- A record of values at the ends of their fields: carried, and as stored. -/
def carriedOne : Station where
  number := 255
  z0 := -32768
  hmin := -32768
  hmax := 32767
  constituents := [{ omega := 0#32, amp := 65535, phase := 0#16 }]
  source := .loader
  clamped := false

/-- The record of `carriedOne` as port A stores it. -/
def storedOne : Station where
  number := 255
  z0 := -2000
  hmin := -3000
  hmax := 12000
  constituents := [{ omega := 0#32, amp := 8000, phase := 0#16 }]
  source := .portA
  clamped := true

theorem witness_StationCommandsFollowTheirTests :
    (Ready .a (storing [] [stationOne 14]) ∧ StationLaw (storing [] [stationOne 14]).fst ∧
      fresh.pln.hold ≠ some .a ∧ (storing [] [stationOne 14]).pln.hold = some .a ∧ ([] : List Byte).length < 8) ∧
    (storedOne.number = carriedOne.number ∧ storedOne.z0 = max (-2000) (min 8000 carriedOne.z0) ∧
      storedOne.hmin = max (-3000) (min 12000 carriedOne.hmin) ∧
      storedOne.hmax = max (-3000) (min 12000 carriedOne.hmax) ∧
      storedOne.constituents = carriedOne.constituents.map (fun x => { x with amp := min 8000 x.amp }) ∧
      (storedOne.clamped = true ∧ storedOne.z0 ≠ carriedOne.z0)) ∧
    (¬ ((storing [] [stationOne 14]).pln.lock.isSome) ∧
      ((storing [] [stationOne 14]).fst.stations.filter fun x => x.number ≠ 255).length < 32) ∧
    (stationOnAir.pln.lock.isSome ∧ some { station := 14, curve := false } ∈ stationOnAir.pln.air.gauges ∧
      (14#8 : Byte) ≠ 0#8) ∧
    (∀ st ∈ (storing [] [stationOne 14]).fst.stations, st.number ≠ (15#8 : Byte).toNat) := by
  refine ⟨⟨⟨rfl, rfl⟩, storing_station_law, by decide +kernel, by decide +kernel, by decide +kernel⟩, by decide +kernel⟩

theorem storedOne_law : RecordLaw storedOne := by
  unfold RecordLaw
  decide +kernel

theorem test_load_station :
    (after (.loadStation .a carriedOne.bytes) (storing [] [stationOne 14])).fst.stations = [stationOne 14, storedOne] ∧
    (replyA (after (.loadStation .a (stationOne 14).bytes) stationOnAir)).map Reply.status = some .locked := by
  decide +kernel

theorem test_delete_station :
    (after (.deleteStation .a [14#8]) (storing [] [stationOne 14])).fst.stations = [] ∧
    (replyA (after (.deleteStation .a [14#8]) stationOnAir)).map Reply.status = some .locked := by decide +kernel

theorem test_read_station :
    (replyA (after (.readStation .a [0#8]) (storing [] [stationOne 14]))).map Reply.data = some [1#8, 14#8] ∧
    (replyA (after (.readStation .a [14#8]) (storing [] [stationOne 14]))).map Reply.data =
      some (1#8 :: (stationOne 14).bytes) := by decide +kernel

/-! ### Witnesses: takes -/

/-- One wrong value in each test of R73, a right one beside it, and a tag in use. -/
theorem witness_SubmitTakeRefusesByItsTests :
    Ready .a atHundred ∧ ([] : List Byte).length ≠ 14 ∧ 7 < (8#8 : Byte).toNat ∧ 4 < (5#8 : Byte).toNat ∧
    250 < (0#8 ++ 251#8 : Word16).toNat ∧ 1000 < (3#8 ++ 233#8 : Word16).toNat ∧ 2 < (3#8 : Byte).toNat ∧
    (7#8 : Byte).toNat ≤ 7 ∧ (4#8 : Byte).toNat ≤ 4 ∧ (0#8 ++ 250#8 : Word16).toNat ≤ 250 ∧
    (3#8 ++ 232#8 : Word16).toNat ≤ 1000 ∧ (2#8 : Byte).toNat ≤ 2 ∧
    (7#8 : Byte).toNat ∈ usedTags (withQueue [entryOf 7 .adopt 110#32 .queued] atHundred).tke .a := by
  refine ⟨⟨rfl, rfl⟩, by decide +kernel⟩

/-- The due frames at which the clauses of past and not past meet, for each kind at the ends of its length. -/
theorem witness_SubmittedTakesAreQueuedOrTooLate :
    Ready .a atHundred ∧
    (∀ first later, (taking [dueEntry 0 .adopt]).tke.queue = first ++ later → ∀ x ∈ first, ∀ y ∈ later,
      reached y.due 102#32 = true → reached x.due 102#32 = true) ∧
    (7#8 : Byte).toNat ≤ 7 ∧ (7#8 : Byte).toNat ∉ usedTags atHundred.tke .a ∧
    (0#8 ++ 250#8 : Word16).toNat ≤ 250 ∧ 1 ≤ (0#8 ++ 1#8 : Word16).toNat ∧ (3#8 ++ 232#8 : Word16).toNat ≤ 1000 ∧
    reached 101#32 (atHundred.fcy.count + 1) = true ∧ reached 102#32 (atHundred.fcy.count + 1) = false ∧
    (0#8 : Byte).getLsbD 0 = false ∧ (1#8 : Byte).getLsbD 0 = true := by
  refine ⟨⟨rfl, rfl⟩, fun first later h x hx y hy _ => ?_, by decide +kernel⟩
  have hx' : x ∈ [dueEntry 0 .adopt] := by
    rw [show [dueEntry 0 .adopt] = first ++ later from h]
    exact List.mem_append_left _ hx
  rw [List.mem_singleton.mp hx']
  decide +kernel

/-- The take error log keeps its eight most recent records (R90). -/
theorem test_log_of_eight :
    let full := atHundred.onTke fun t => { t with log := (List.range 8).map fun n =>
      { port := .b, tag := n, sort := .adopt, status := .notReady, applied := 1#32, due := 1#32 } }
    (after (.submitTake .a (submission 7 0 0 101 0 0 0)) full).tke.log.map Completion.tag = [1, 2, 3, 4, 5, 6, 7, 7] := by
  decide +kernel

theorem test_submit_take_late :
    (after (.submitTake .a (submission 2 0 0 101 0 0 0)) atHundred).tke.completions.a =
      [{ port := .a, tag := 2, sort := .publish, status := .tooLate, applied := 101#32, due := 101#32 }] ∧
    (after (.submitTake .a (submission 2 0 1 101 0 0 0)) atHundred).tke.queue.map TakeEntry.past = [true] := by
  decide +kernel

theorem test_submit_take_order :
    ((after (.submitTake .a (submission 3 2 4 0 0 0 0)) (withQueue [entryOf 0 .adopt 102#32 .queued,
      entryOf 1 .adopt 103#32 .queued] atHundred)).tke.queue.map TakeEntry.tag) = [0, 3, 1] := by decide +kernel

/-- A SWAP on a SOLE part, a MAIN and a STANDBY; due frames 104 and 105 are where the clauses meet at count 100. -/
theorem witness_SubmittedSwapsStartANegotiation :
    (∀ role, Ready .a (pairedPart role)) ∧ (pairedPart .main).opr.negotiation = none ∧
    (pairedPart .main).opr.role = .main ∧ (pairedPart .standby).opr.role = .standby ∧ atHundred.opr.role = .sole ∧
    (2#8 : Byte).toNat ∉ usedTags (pairedPart .main).tke .a ∧
    (∀ n, (withNegotiation (recordOf .mainSide .requesting) (pairedPart .main)).opr.negotiation = some n →
      n.lineFrame = 110#32 ∧ n.stage = .requesting) ∧
    reached 104#32 ((pairedPart .main).fcy.count + 4) = true ∧
    reached 105#32 ((pairedPart .main).fcy.count + 4) = false := by
  refine ⟨fun role => ⟨rfl, rfl⟩, rfl, rfl, rfl, rfl, by decide +kernel, fun n h => ?_, by decide +kernel, by decide +kernel⟩
  cases h
  exact ⟨rfl, rfl⟩

/-- R167: a SWAP joins a record of its line frame not past OFFERING; with another line frame, a RELEASED record or a part
HANDING OVER it fails at once. -/
theorem test_submit_swap_with_a_record :
    ([(.main, recordOf .mainSide .requesting, 110#8), (.standby, automaticRecord, 110#8),
      (.main, recordOf .mainSide .requesting, 111#8), (.main, recordOf .mainSide .released, 110#8),
      (.handingOver, recordOf .mainSide .released, 110#8)] : List (Role × Negotiation × Byte)).map (fun x =>
        let u := after (.submitTake .a (submission 2 4 2 x.2.2 0 0 0)) (withNegotiation x.2.1 (pairedPart x.1))
        (u.opr.negotiation.map fun n => (n.origin, n.force, n.entries.length), u.tke.completions.a.map Completion.status)) =
      [(some (.take, true, 1), []), (some (.take, true, 1), []), (some (.take, false, 0), [.swapFailed]),
       (some (.take, false, 0), [.swapFailed]), (some (.take, false, 0), [.swapFailed])] := by decide +kernel

theorem test_submit_swap :
    (after (.submitTake .a (submission 2 4 0 104 0 0 0)) (pairedPart .main)).opr.negotiation.map Negotiation.stage =
      some .requesting ∧
    (after (.submitTake .a (submission 2 4 0 104 0 0 0)) atHundred).tke.completions.a.map Completion.status =
      [.swapFailed] := by decide +kernel

/-- A queue with a waiting, a deferred and a sweeping entry of port A. -/
def threeEntries : State :=
  withQueue [entryOf 0 .adopt 110#32 .queued, entryOf 1 (.publish 0) 99#32 .deferred,
    entryOf 2 (.sweep 9 0#32) 90#32 (.sweeping { n := 9, k := 1, cursorStart := 0#32, cursorTarget := 0#32, view := none }
      .done 90#32)] atHundred

theorem threeEntries_law : TakeLaw threeEntries.tke := by
  refine ⟨fun p => ?_, by decide +kernel, by decide +kernel, ?_⟩
  · cases p
    · exact ⟨by decide +kernel, by decide +kernel, fun c hc => (by cases hc)⟩
    · exact ⟨by decide +kernel, by decide +kernel, fun c hc => (by cases hc)⟩
  · intro c hc
    cases hc

theorem witness_FlushRemovesThePortsWaitingTakes :
    Ready .a threeEntries ∧ TakeLaw threeEntries.tke ∧ [(0#8 : Byte)] ≠ [] ∧
    (threeEntries.tke.queue.filter fun e => e.port = .a && (e.state = .queued || e.state = .deferred)).length = 2 := by
  refine ⟨⟨rfl, rfl⟩, threeEntries_law, by decide +kernel⟩

theorem test_flush_takes :
    (after (.flushTakes .a []) threeEntries).tke.queue.map TakeEntry.tag = [2] ∧
    (after (.flushTakes .a []) threeEntries).tke.completions.a.map Completion.tag = [0, 1] := by decide +kernel

/-- A part with one unread record. -/
def oneRecord : State :=
  after (.flushTakes .a []) (withQueue [entryOf 5 .adopt 110#32 .queued] atHundred)

theorem witness_CompletionsAndTheLogAreRead : Ready .a atHundred ∧ [(0#8 : Byte)] ≠ [] := by
  refine ⟨⟨rfl, rfl⟩, by decide⟩

/-- The record with the reply of the flush sent. -/
def oneRecordRead : State := oneRecord.onCnu fun c => { c with reply := .both none }

theorem test_read_completions :
    replyA (after (.readCompletions .a []) oneRecordRead) =
      some (Reply.mk 0x32#8 .done ([1#8, 5#8, 2#8, 7#8] ++ bytes32 101#32 ++ bytes32 110#32)) ∧
    (after (.readCompletions .a []) oneRecordRead).tke.completions.a = [] := by decide +kernel

theorem test_read_take_log :
    replyA (after (.readTakeLog .a []) oneRecordRead) =
      some (Reply.mk 0x33#8 .done ([1#8, 0#8, 5#8, 2#8, 7#8] ++ bytes32 101#32 ++ bytes32 110#32)) := by decide +kernel

/-! ### Witnesses: readings -/

/-- A part that displays the chart of frame 1. -/
def displaying : State := fresh.onFcy fun f => { f with displayed := some (chartOf (Composition.first 24000)) }

theorem witness_TimingAndTheFrameRecordAreRead :
    Ready .a fresh ∧ Ready .a displaying ∧ [(0#8 : Byte)] ≠ [] ∧ fresh.fcy.displayed = none ∧
    displaying.fcy.displayed = some (chartOf (Composition.first 24000)) := by
  refine ⟨⟨rfl, rfl⟩, ⟨rfl, rfl⟩, by decide, rfl, rfl⟩

theorem test_read_timing :
    replyA (after (.readTiming .a []) fresh) =
      some { code := 0x3C#8, status := .done, data := [0, 0, 0, 0, 0, 0, 1] } := by decide +kernel

theorem test_read_frame_record :
    (replyA (after (.readFrameRecord .a []) displaying)).map (fun r => (r.data.length, r.data.take 5)) =
      some (36, [1#8, 1#8, 0#8, 0#8, 0#8]) := by decide +kernel

/-! ### Witnesses: ingest status and levels -/

/-- A part with n units queued under HOLD-OFF or not. -/
def queued (n : Nat) (holdOff : Bool) : State :=
  fresh.onIng fun i => { i with queue := List.replicate n (markedUnit .check [0x02#8]), holdOff := holdOff }

theorem witness_IngestIsReadSetAndReset :
    Ready .a (queued 17 true) ∧ [(0#8 : Byte)] ≠ [] ∧ ([] : List Byte).length ≠ 3 ∧
    (queued 17 true).ing.holdOff = true ∧ (queued 17 true).ing.inBand = true ∧ (queued 17 false).ing.holdOff = false ∧
    (8 : Nat) = min 63 (max 8 (0#8 : Byte).toNat) ∧ (63 : Nat) = min 63 (max 8 (255#8 : Byte).toNat) ∧
    (0 : Nat) = min (8 - 8) (255#8 : Byte).toNat ∧ (0#8 : Byte).getLsbD 0 = false ∧ (1#8 : Byte).getLsbD 0 = true := by
  refine ⟨⟨rfl, rfl⟩, by decide, by decide, rfl, rfl, rfl, by decide +kernel⟩

theorem test_read_ingest_status :
    (replyA (after (.readIngestStatus .a []) (queued 17 true))).map Reply.data =
      some ([17, 48, 16, 7, 2, 0, 2] ++ nat16 23600 ++ [0, 0, 0, 0, 0, 0, 0]) := by decide +kernel

/-- R148, R150: the enable turned on with HOLD-OFF asserted by the new levels makes PAUSE twice, the second waiting. -/
theorem test_enable_symbols :
    let quiet := (queued 17 false).onIng fun i => { i with inBand := false, sending := none }
    ((after (.setIngestLevels .a [17#8, 9#8, 1#8]) quiet).ing.sending,
      (after (.setIngestLevels .a [17#8, 9#8, 1#8]) quiet).ing.waitingSymbol,
      (after (.setIngestLevels .a [17#8, 9#8, 0#8]) quiet).ing.sending) = (some .pause, some .pause, none) := by decide +kernel

theorem test_set_ingest_levels :
    (replyA (after (.setIngestLevels .a [17#8, 9#8, 0#8]) (queued 17 false))).map Reply.data =
      some ([17, 9, 2] : List Byte) ∧
    (replyA (after (.setIngestLevels .a [18#8, 11#8, 0#8]) (queued 17 false))).map Reply.data =
      some ([18, 10, 0] : List Byte) := by decide +kernel

theorem test_ingest_reset :
    replyA (after (.ingestReset .a []) (queued 17 true)) = some { code := 0x42#8, status := .done, data := [17] } ∧
    (after (.ingestReset .a []) (queued 17 true)).ing.holdOff = false := by decide +kernel

/-! ### Witnesses: output, notices and health -/

theorem witness_OutputStatusAndAutoTakeover :
    Ready .a fresh ∧ [(0#8 : Byte)] ≠ [] ∧ ([] : List Byte).length ≠ 1 ∧ fresh.opr.negotiation = none ∧
    (withNegotiation (recordOf .mainSide .requesting) (pairedPart .main)).opr.negotiation =
      some (recordOf .mainSide .requesting) := by
  refine ⟨⟨rfl, rfl⟩, by decide, by decide, rfl, rfl⟩

theorem test_read_output_status :
    (replyA (after (.readOutputStatus .a [] true)
      (withNegotiation (recordOf .mainSide .requesting) (pairedPart .main)))).map Reply.data =
      some ([1, 1, 1, 1, 0, 0, 21, 1, 0, 110, 0, 0, 0, 0, 0, 0, 0, 0] : List Byte) := by decide +kernel

theorem test_set_auto_takeover : (after (.setAutoTakeover .a [0#8]) fresh).opr.autoTakeover = false := by decide +kernel

theorem witness_ReadNoticeReturnsTheTopClass : Ready .a fresh ∧ [(0#8 : Byte)] ≠ [] ∧ ([] : List Byte).length ≠ 1 := by
  refine ⟨⟨rfl, rfl⟩, by decide +kernel⟩

theorem test_read_notice :
    replyA (after (.readNotice .a []) (raiseHold .a (raiseRun fresh))) =
      some { code := 0x50#8, status := .done, data := [3, 0, 20] } ∧
    (after (.readNotice .a []) (raiseHold .a (raiseRun fresh))).cnu.raised.a.hold = false := by decide +kernel

theorem test_set_notice_mask :
    replyA (after (.setNoticeMask .a [0xC1#8]) fresh) = some { code := 0x51#8, status := .done, data := [1, 0] } := by
  decide +kernel

theorem witness_ReadFaultStatusClearsThePortsFault : Ready .a fresh ∧ [(0#8 : Byte)] ≠ [] := by
  refine ⟨⟨rfl, rfl⟩, by decide⟩

theorem test_read_fault_status :
    replyA (after (.readFaultStatus .a []) (increase .overruns fresh)) =
      some { code := 0x52#8, status := .done, data := [4, 8, 8, 0, 0, 0, 3] } ∧
    (after (.readFaultStatus .a []) (increase .overruns fresh)).cnu.raised.b.fault = true := by decide +kernel

theorem test_read_health :
    (replyA (after (.readHealth .a []) (increase .overruns fresh))).map (fun r => (r.data.getD 6 0, r.data.drop 24)) =
      some (1#8, [8#8, 1#8]) := by decide +kernel

/-- A part with a counter at 25. -/
def lateBy (n : Nat) : State := fresh.onCnu fun c => { c with counters := c.counters.set .lateFrames n }

theorem witness_ThresholdsClearingAndAlarmEnable :
    Ready .a (lateBy 24) ∧ ([] : List Byte).length ≠ 3 ∧ 5 < (6#8 : Byte).toNat ∧
    [Counter.lateFrames, .degradedEntries, .ingestErrors, .overruns, .referenceLosses, .stepLosses][(5#8 : Byte).toNat]? =
      some .stepLosses ∧
    (lateBy 24).cnu.counters.get .lateFrames < (0#8 ++ 25#8 : Word16).toNat ∧
    (0#8 ++ 24#8 : Word16).toNat ≤ (lateBy 24).cnu.counters.get .lateFrames ∧
    (0#8 ++ 24#8 : Word16).toNat ≠ 0 ∧ (lateBy 24).cnu.tripped.get .lateFrames = false ∧ [(0#8 : Byte)] ≠ [] ∧
    ([] : List Byte).length ≠ 1 := by
  refine ⟨⟨rfl, rfl⟩, by decide +kernel⟩

theorem test_set_threshold :
    (replyA (after (.setThreshold .a [0#8, 24#8, 0#8]) (lateBy 24))).map Reply.data = some [24#8, 0#8, 1#8] ∧
    (replyA (after (.setThreshold .a [0#8, 25#8, 0#8]) (lateBy 24))).map Reply.data = some [25#8, 0#8, 0#8] ∧
    (after (.setThreshold .a [0#8, 24#8, 0#8]) (lateBy 24)).cnu.causes.b.healthTripped = true := by decide +kernel

theorem test_clear_health : (after (.clearHealth .a []) (lateBy 24)).cnu.counters.toList = [0, 0, 0, 0, 0, 0] := by
  decide +kernel

theorem test_set_alarm_enable : (after (.setAlarmEnable .a [2#8]) fresh).cnu.alarmEnable = false := by decide +kernel

/-- A part with a NEXT being loaded and NEGOTIATING entries in its queue. -/
def restarting : State := { withQueue [swapEntry, { swapEntry with tag := 4 }] fresh with
  fsw := openStore [some (fillingFrame 60), some { fillingFrame 0 with owner := .current }] }

theorem witness_RestartResetsEveryBlockSoftly :
    (Ready .a fresh ∧ Ready .a (withLock (some .b) fresh) ∧ Ready .a restarting) ∧ [(0#8 : Byte)] ≠ [] ∧
    (withLock (some .b) fresh).pln.lock.isSome ∧ fresh.pln.lock = none ∧ restarting.pln.lock = none ∧
    fresh.fsw.next = none ∧ restarting.fsw.next.isSome ∧ restarting.tke.log.length ≤ 8 ∧
    (withNegotiation (recordOf .standbySide .releaseReceived) (pairedPart .standby)).opr.negotiation =
      some (recordOf .standbySide .releaseReceived) :=
  ⟨⟨⟨rfl, rfl⟩, ⟨rfl, rfl⟩, ⟨rfl, rfl⟩⟩, nofun, rfl, rfl, rfl, rfl, rfl, Nat.zero_le _, rfl⟩

/-- NEXT and its frames go, CURRENT's frame stays, and the log names the two entries. -/
theorem test_restart_stores :
    let u := after (.restart .a []) restarting
    (u.fsw.next.isNone, u.fsw.abandonment, (heldFrames u.fsw).map WindFrame.owner) = (true, 6#32, [.current]) ∧
    u.tke.log.map (fun c => (c.tag, c.status)) = [(3, .flushed), (4, .flushed)] := by decide +kernel

theorem test_restart :
    ([[], [0#8]] : List (List Byte)).map (fun params =>
      (replyA (after (.restart .a params) (withLock (some .b) fresh))).map Reply.status) = [some .locked, some .range] ∧
    (after (.restart .a []) (withHold (some .b) fresh)).pln.hold = none ∧
    (after (.restart .a []) threeEntries).tke.queue = [] := by decide +kernel

theorem witness_LineOutputAndAlarmFollowTheState :
    (pairedPart .standby).opr.role = .standby ∧ (pairedPart .handingOver).opr.role = .handingOver ∧
    held.power ≠ .running ∧ fresh.power = .running ∧ fresh.opr.role = .sole ∧ fresh.opr.frameLineMode = .pass ∧ (fresh.onOpr fun o => { o with frameLineMode := .live }).opr.frameLineMode = .live ∧
    fresh.fcy.displayed = none ∧ displaying.fcy.displayed.isSome := by decide +kernel

/-- A part with a loader error, unread or not. -/
def loaderErred (unread : Bool) : State := fresh.onIng fun i => { i with
  lastError := some { kind := .type_, type_ := 9#8, runId := 0#16, station := 0, since := 1, unread := unread } }

/-- A part with HOLD pending for port A. -/
def holdPending : State := raiseHold .a fresh

/-- R180, R88, R155: each condition makes its class pending, and ATTN follows it while the class is enabled and the part
runs. -/
theorem test_attention :
    [fresh, holdPending, holdPending.onCnu fun c => { c with mask := c.mask.set .a (Notices.ofByte 0x3B#8) }, oneRecord,
      fresh.onIng fun i => { i with queue := [markedUnit .check [2#8]] }, loaderErred true, loaderErred false,
      halt .inReset holdPending].map (fun s => ((pendingSet s .a).byte, attn s .a)) =
      [(0#8, false), (4#8, true), (4#8, false), (8#8, true), (2#8, true), (2#8, true), (0#8, false), (4#8, false)] := by
  decide +kernel

/-- R14: before the first display the lines carry the background in LIVE too. -/
theorem test_background_before_display :
    lineOutput (fresh.onOpr fun o => { o with frameLineMode := .live }) = .background ∧
    monitorOutput (fresh.onOpr fun o => { o with frameLineMode := .check }) = .background ∧
    lineOutput (displaying.onOpr fun o => { o with frameLineMode := .live }) =
      .chartOver (chartOf (Composition.first 24000)) := by
  decide +kernel

/-! ### Witnesses: computations and laws -/

theorem witness_ComputedValuesStayInRange :
    (stationOne 1).hmin < (stationOne 1).hmax ∧
    (brackets [frameOf 0 0 0, frameOf 4320 0 0] 4319).map (fun b => fraction 4319 b) = some 255 ∧
    interpolate (-1000) 1000 255 = 992 ∧ interpolate 1000 (-1000) 0 = 1000 ∧ (1 : Nat) ≤ 1 ∧
    sweepValue 3 (-4) 1 1 = -4 ∧ (-1000 : Int) ≤ -1000 ∧ (1000 : Int) ≤ 1000 ∧
    ([0, 10, 35, 65, 105, 165, 215, 275, 335, 405, 475, 555, 635] : List Nat)[12]? = some 635 ∧
    speedOf { u := 9, v := 4 } < 10 ∧ 10 ≤ speedOf { u := -6, v := -8 } := by decide +kernel

/-- R119 to R123: a calm mark at speed 9; the four quadrants at their first ends; and the last boundary of the last. -/
theorem test_marks :
    ([(9, 4), (0, -10), (-10, 0), (0, 10), (10, 0), (100, -1000), (10, -1000), (-1000, -1000)] : List (Int × Int)).map
      (fun w => markOf { u := w.1, v := w.2 }) =
      [.calm 9, .arrow 10 1 0, .arrow 10 1 4, .arrow 10 1 8, .arrow 10 1 12, .arrow 1004 12 0, .arrow 1000 12 0,
       .arrow 1414 12 2] := by decide +kernel

theorem reset_takeLaw : TakeLaw State.reset.tke := by
  refine ⟨fun p => ?_, by decide, by decide, fun c hc => (by cases hc)⟩
  cases p <;> exact ⟨by decide, fun n hn => (by cases hn), fun c hc => (by cases hc)⟩

/-- The part after reset with an internal pulse waiting: the premises of every step law hold in it, and it steps. -/
def aboutToPulse : State := State.reset.withPending [.internalPulse false]

theorem aboutToPulse_steps : step aboutToPulse = .next (after (.internalPulse false) State.reset) := rfl

theorem witness_StepKeepsTheSlotLaw : SlotLaw aboutToPulse.fsw := by
  refine ⟨rfl, by decide, ?_⟩
  intro f hf
  simp [heldFrames, aboutToPulse, State.withPending, State.reset, Fsw.reset] at hf

theorem witness_StepKeepsTheStoreLaws : StationLaw aboutToPulse.fst ∧ SegmentLaw aboutToPulse.fst :=
  ⟨⟨by decide, by decide, fun x hx => (by cases hx)⟩, ⟨by decide, by decide, by decide, fun x hx => (by cases hx)⟩⟩

theorem witness_StepKeepsPlansAndHold : PlansLaw aboutToPulse.pln ∧ HoldLaw aboutToPulse.pln := by
  refine ⟨⟨defaultPlan_law, defaultPlan_law⟩, ?_⟩
  intro p hp
  cases p <;> cases hp

theorem witness_StepKeepsTheTakeLaw : TakeLaw aboutToPulse.tke := reset_takeLaw

theorem witness_StepKeepsTheIngestLaw : IngestLaw aboutToPulse.ing := by
  simp [IngestLaw, aboutToPulse, State.withPending, State.reset, Ing.reset, Config.budget]

theorem witness_StepKeepsLevelCycleAndPair :
    LevelLaw aboutToPulse.cmp ∧ CycleLaw aboutToPulse ∧ PairLaw aboutToPulse.opr := by
  refine ⟨?_, ?_, ?_⟩ <;> first | unfold LevelLaw | unfold CycleLaw | unfold PairLaw
  all_goals decide +kernel

theorem witness_StepKeepsTheGaugeLaw : GaugeLaw aboutToPulse := by
  refine ⟨fun x hx => (by cases hx), ?_, fun c hc => (by cases hc), fun c hc => (by cases hc)⟩
  intro c hc
  cases hc
  exact ⟨fun g hg => (by cases hg), fun g hg => (by cases hg)⟩

theorem reset_healthLaw : HealthLaw State.reset.cnu := by
  intro c
  cases c <;> decide

/-- A command other than CLEAR HEALTH and the end of a hard reset, for the second part of the health statement. -/
theorem witness_StepKeepsTheHealthLaw :
    exec .regainExpiry State.reset = .next State.reset ∧ HealthLaw State.reset.cnu ∧
    (∀ p params, Instr.regainExpiry ≠ .clearHealth p params) ∧
    (∀ m straps, Instr.regainExpiry ≠ .endOfHardReset m straps) ∧
    ∀ p b palarm len, Instr.regainExpiry = .portCharacter p b palarm →
      State.reset.cnu.receiver.get p ≠ some [len, 0x55#8] :=
  ⟨rfl, reset_healthLaw, fun _ _ => nofun, fun _ _ => nofun, fun _ _ _ _ => nofun⟩

/-! ### Steps not shown above -/

theorem test_hard_reset_and_power_loss :
    (after .hardReset fresh).fcy.timer = none ∧ (after .powerLoss fresh).power = .unpowered ∧
    lineOutput (after .powerLoss fresh) = .released := by decide +kernel

theorem test_internal_pulse :
    (after (.internalPulse false) fresh).fcy.count = 1#32 ∧
    (after (.internalPulse false) fresh).fcy.timer = some 9600000 ∧
    (after (.internalPulse false) fresh).cnu.counters.lateFrames = 1 := by decide +kernel

theorem test_loss_expiry :
    (after (.lossExpiry false) lockedPart).fcy.ref = .lost ∧
    (after (.lossExpiry false) lockedPart).fcy.timer = some 10800000 ∧
    alarm (after (.lossExpiry false) lockedPart) = true := by decide +kernel

theorem test_regain_expiry :
    (after .regainExpiry (cycleAt 9#32 .regaining (some 0) 2 (some 1) fresh)).fcy.ref = .lost := by decide +kernel

end Sys2Proof.Tests
end

section
/-! PROOFS. What a command can do: every command is one of a few operations, said once as `Effect`, and every request is
one of the 39 rules, so that a law of the state is checked operation by operation and never command by command. -/

namespace Sys2Proof.Machine

/-! ### What a command can do -/

/-- The rules of R176's table, in the order of their codes. -/
def handlers : List Handler :=
  [reqRequestHold, reqReleaseHold, reqSetView, reqSetCursor, reqSetLayers, reqSetGauge, reqClearGauge, reqSetAreas,
   reqCopyAirToDraft, reqReadPlan, reqSetAirLock, reqClearAirLock, reqReadRunStatus, reqReadFrameTable, reqLoadSegment,
   reqDeleteSegment, reqReadSegments, reqLoadStation, reqDeleteStation, reqReadStation, reqSubmitTake, reqFlushTakes,
   reqReadCompletions, reqReadTakeLog, reqReadFrameRecord, reqReadTiming, reqReadIngestStatus, reqSetIngestLevels,
   reqIngestReset, reqReadOutputStatus, reqSetAutoTakeover, reqReadNotice, reqSetNoticeMask, reqReadFaultStatus,
   reqReadHealth, reqSetThreshold, reqClearHealth, reqSetAlarmEnable, reqRestart]

/-- The rule of a known code is one of the list. -/
theorem handlerOf_mem {code : Byte} {h : Handler} (known : handlerOf code = some h) : h ∈ handlers := by
  unfold handlerOf at known
  split at known
  all_goals cases known
  all_goals simp [handlers]

/-- What a part that runs does at a command: the operations of the blocks, each once. -/
inductive Acted (s : State) : State → Prop
  | stands : Acted s s
  | pulse (e : PulseEvent) : Acted s (pulseEvent e s)
  | regainExpiry : Acted s (regainExpiry s)
  | complete : Acted s (complete s)
  | spend : Acted s (spend s)
  | report (r : Report) (isPaired : paired s = true) : Acted s (receiveReport r (setLink none s))
  | link (l : Option LinkReception) (isPaired : paired s = true) : Acted s (setLink l s)
  | ingest (c : Character) : Acted s (ingestCharacter c s)
  | symbol : Acted s (s.onIng finishSymbol)
  | loader : Acted s (moveHead s)
  | request (p : Port) (r : Reply) (params : List Byte) (palarm : Bool) {h : Handler} (known : h ∈ handlers) :
      Acted s (sendReply p r (h p params (endFrame p (sampleAlarm palarm s))).state)
  | ports (palarm : Bool) (receiver : PerPort (Option (List Byte))) (reply waiting : PerPort (Option Reply)) :
      Acted s { s with palarm := palarm,
                       cnu := { s.cnu with receiver := receiver, reply := reply, waiting := waiting } }

/-- What a command does to a part: RESET and loss of supply stop it, the end of RESET releases it, and nothing else
happens to a part that does not run (R16, R188; log 11). -/
inductive Effect (s : State) : State → Prop
  | stands : Effect s s
  | halted (power : Power) (stopped : power ≠ .running) : Effect s (halt power s)
  | released (t : Time) (straps : Straps) : Effect s (released t straps s)
  | acted {t : State} (running : s.power = .running) (act : Acted s t) : Effect s t

/-- A reply that is held touches the port alone. -/
theorem Acted.holdReply (p : Port) (r : Reply) (palarm : Bool) (s : State) :
    Acted s (holdReply p r (endFrame p (sampleAlarm palarm s))) := by
  unfold Machine.holdReply
  split
  · exact .ports palarm _ s.cnu.reply _
  · exact .ports palarm _ s.cnu.reply s.cnu.waiting

/-- A reply without a request touches the port alone. -/
theorem Acted.postReply (p : Port) (r : Reply) (s : State) : Acted s (postReply p r (endFrame p s)) := by
  unfold Machine.postReply
  split
  · exact .ports s.palarm _ _ s.cnu.waiting
  · exact .holdReply p r s.palarm s

/-- A request is carried out, or answered BUSY. -/
theorem Acted.completeRequest (p : Port) (code : Byte) (params : List Byte) (palarm : Bool) (s : State) {h : Handler}
    (known : handlerOf code = some h) : Acted s (completeRequest p code params h (sampleAlarm palarm s)) := by
  unfold Machine.completeRequest
  split
  · exact .request p _ params palarm (handlerOf_mem known)
  · exact .holdReply p _ palarm s

/-- A frame of an unknown code touches the port alone. -/
theorem Acted.completeUnknown (p : Port) (code : Byte) (s : State) : Acted s (completeUnknown p code s) := by
  unfold Machine.completeUnknown
  split
  · exact .ports s.palarm _ _ s.cnu.waiting
  · exact .holdReply p _ s.palarm s

/-- A character on a control port grows a frame, ends it, or completes a request (R177). -/
theorem Acted.portCharacter (p : Port) (b : Byte) (palarm : Bool) (s : State) : Acted s (portCharacter p b palarm s) := by
  unfold Machine.portCharacter
  split
  · split
    · exact .ports s.palarm _ s.cnu.reply s.cnu.waiting
    · exact .stands
  · unfold receiveByte
    split
    · exact .ports s.palarm _ s.cnu.reply s.cnu.waiting
    · exact .postReply p _ s
    · unfold executeFrame
      split
      · exact .completeUnknown p _ s
      · next known =>
        split
        · exact .completeRequest p _ _ palarm s known
        · exact .completeRequest p _ _ s.palarm s known

/-- The character that ends a frame in FRAME ERROR touches the port alone. -/
theorem Acted.frameErrorBy (p : Port) (c : Character) (s : State) : Acted s (frameErrorBy p c s) := by
  unfold Machine.frameErrorBy
  split
  · exact .stands
  · exact .postReply p _ s
  · split
    · exact .postReply p _ s
    · exact .stands

/-- A character on the partner link changes the reception, or completes a report (R163). -/
theorem Acted.linkCharacter {s : State} (isPaired : paired s = true) (c : Character) :
    Acted s (linkCharacter c s) := by
  unfold Machine.linkCharacter
  split
  · split
    · exact .link _ isPaired
    · exact .stands
  · exact .stands
  · exact .link _ isPaired
  · unfold linkByte
    simp only []
    split
    · exact .link _ isPaired
    · split
      · exact .link _ isPaired
      · exact .report _ isPaired

/-- What comes about inside a pulse is that pulse, or nothing (log 1). -/
theorem Acted.comingAbout (named : State → State → Bool) (e : PulseEvent) (s : State) :
    Acted s (comingAbout named e s) := by
  unfold Machine.comingAbout
  split
  · exact .pulse e
  · exact .stands

/-- What happens on a paired part alone. -/
theorem Acted.whenPaired {f : State → State} {s : State} (h : paired s = true → Acted s (f s)) :
    Acted s (whenPaired f s) := by
  unfold Machine.whenPaired
  split
  · next isPaired => exact h isPaired
  · exact .stands

/-- What happens on a part that runs alone. -/
theorem Effect.whileRunning {f : State → State} {s : State} (h : Acted s (f s)) : Effect s (whileRunning f s) := by
  unfold Machine.whileRunning
  split
  · next running => exact .acted running h
  · exact .stands

/-- A request of the table. -/
theorem Effect.request (p : Port) (params : List Byte) (s : State) {code : Byte} {h : Handler}
    (known : handlerOf code = some h) : Effect s (request p code params h s) :=
  .whileRunning (.completeRequest p code params s.palarm s known)

/-- Every command has one of these effects. -/
theorem exec_effect {i : Instr} {s t : State} (h : exec i s = .next t) : Effect s t := by
  have of_eq : ∀ {u}, Effect s u → exec i s = .next u → Effect s t := by
    intro u hu hx
    rw [hx] at h
    cases h
    exact hu
  cases i with
  | hardReset => exact of_eq (.halted .inReset (by decide)) rfl
  | powerLoss => exact of_eq (.halted .unpowered (by decide)) rfl
  | endOfHardReset moment straps =>
    refine of_eq ?_ rfl
    split
    · exact .released moment straps
    · exact .stands
  | internalPulse palarm => exact of_eq (.whileRunning (.pulse (.internal palarm))) rfl
  | referencePulse moment palarm => exact of_eq (.whileRunning (.pulse (.reference moment palarm))) rfl
  | lossExpiry palarm => exact of_eq (.whileRunning (.pulse (.loss palarm))) rfl
  | regainExpiry => exact of_eq (.whileRunning .regainExpiry) rfl
  | compositionCompletion => exact of_eq (.whileRunning .complete) rfl
  | compositionBudgetSpent => exact of_eq (.whileRunning .spend) rfl
  | takeExpiry e => exact of_eq (.whileRunning (.comingAbout _ e s)) rfl
  | relaxation e => exact of_eq (.whileRunning (.comingAbout _ e s)) rfl
  | stale e => exact of_eq (.whileRunning (.comingAbout _ e s)) rfl
  | partnerLoss e => exact of_eq (.whileRunning (.comingAbout _ e s)) rfl
  | partnerReportTimeout e => exact of_eq (.whileRunning (.comingAbout _ e s)) rfl
  | partnerReport r => exact of_eq (.whileRunning (.whenPaired fun isPaired => .report r isPaired)) rfl
  | partnerLinkCharacter c => exact of_eq (.whileRunning (.whenPaired fun isPaired => .linkCharacter isPaired c)) rfl
  | ingestCharacter c => exact of_eq (.whileRunning (.ingest c)) rfl
  | symbolOutputDone => exact of_eq (.whileRunning .symbol) rfl
  | loaderMove => exact of_eq (.whileRunning .loader) rfl
  | portCharacter p b palarm => exact of_eq (.whileRunning (.portCharacter p b palarm s)) rfl
  | requestFrameError p c => exact of_eq (.whileRunning (.frameErrorBy p c s)) rfl
  | portReceiveTimeout p =>
    refine of_eq (.whileRunning ?_) rfl
    unfold receiveTimeout
    split
    · exact .stands
    · exact .postReply p _ s
  | unknown p code =>
    refine of_eq (.whileRunning ?_) rfl
    split
    · exact .stands
    · exact .completeUnknown p code s
  | busy p code =>
    refine of_eq (.whileRunning ?_) rfl
    unfold busyFrame
    split
    · exact .stands
    · exact .holdReply p _ s.palarm s
  | replySent p =>
    refine of_eq (.whileRunning ?_) rfl
    unfold replySent
    split
    · exact .ports s.palarm s.cnu.receiver _ _
    · exact .stands
  | readOutputStatus p params palarm =>
    exact of_eq (.whileRunning (.completeRequest p 0x48 params palarm s (h := reqReadOutputStatus) rfl)) rfl
  | reclaim ignored => exact of_eq (.request .a _ s (h := reqRequestHold) (code := 0x10) rfl) rfl
  | _ => exact of_eq (.request _ _ s (by rfl)) rfl

/-- A step is the effect of the command it takes, on the state with the rest of the queue. -/
theorem step_effect {s t : State} (h : step s = .next t) : ∃ q, Effect (s.withPending q) t := by
  unfold step at h
  split at h
  · cases h
    exact ⟨s.pending, .stands⟩
  · next c rest _ => exact ⟨rest, exec_effect h⟩

end Sys2Proof.Machine
end

section
/-! PROOFS. The laws of the sticky level, of the reference states and of the pair unit, kept by every step (R5 to R9, R133,
R134, R160, R164, R166). -/

namespace Sys2Proof.Machine

/-! ### What the requests leave of the cycle, the composer and the pair unit -/

/-- No request touches the cycle or the power. -/
theorem handler_keeps_cycle : ∀ h ∈ handlers, ∀ (p : Port) (params : List Byte) (s : State),
    (h p params s).state.fcy = s.fcy ∧ (h p params s).state.power = s.power := by
  simp [handlers]

/-- A restart clears the sticky level and the relaxation count (R139); no other request touches the composer. -/
theorem handler_cmp : ∀ h ∈ handlers, ∀ (p : Port) (params : List Byte) (s : State),
    (h p params s).state.cmp = s.cmp ∨ (h p params s).state.cmp = { s.cmp with sticky := 0, relax := 0 } := by
  have restart : ∀ (p : Port) (params : List Byte) (s : State), (reqRestart p params s).state.cmp = s.cmp ∨
      (reqRestart p params s).state.cmp = { s.cmp with sticky := 0, relax := 0 } := by
    intro p params s
    unfold reqRestart
    split
    · split
      · exact .inl rfl
      · exact .inr rfl
    · exact .inl rfl
  simp [handlers, restart]

/-- SUBMIT TAKE writes a negotiation record at most. -/
theorem reqSubmitTake_opr (p : Port) (params : List Byte) (s : State) :
    ∃ n, (reqSubmitTake p params s).state.opr = { s.opr with negotiation := n } := by
  have accept : ∀ e, ∃ n, (acceptTake e s).state.opr = { s.opr with negotiation := n } := by
    intro e
    unfold acceptTake
    split
    · split
      · exact ⟨s.opr.negotiation, by simp [completeAtAcceptance]⟩
      · next n _ => exact ⟨some n, by simp [enqueueTake, setNegotiation]⟩
    · split
      · exact ⟨s.opr.negotiation, by simp [completeAtAcceptance]⟩
      · exact ⟨s.opr.negotiation, by simp [enqueueTake]⟩
  unfold reqSubmitTake
  repeat' split
  all_goals first
    | exact accept _
    | exact ⟨s.opr.negotiation, rfl⟩

/-- A request writes the line mode, the negotiation record and the takeover setting of the pair unit at most. -/
theorem handler_opr : ∀ h ∈ handlers, ∀ (p : Port) (params : List Byte) (s : State), ∃ mode record auto,
    (h p params s).state.opr = { s.opr with lineMode := mode, negotiation := record, autoTakeover := auto } := by
  have of_same : ∀ {o : Opr} {s : State}, o = s.opr → ∃ mode record auto,
      o = { s.opr with lineMode := mode, negotiation := record, autoTakeover := auto } :=
    fun h => ⟨_, _, _, h⟩
  have submit : ∀ (p : Port) (params : List Byte) (s : State), ∃ mode record auto, (reqSubmitTake p params s).state.opr =
      { s.opr with lineMode := mode, negotiation := record, autoTakeover := auto } := by
    intro p params s
    obtain ⟨n, hn⟩ := reqSubmitTake_opr p params s
    exact ⟨_, n, _, hn⟩
  have takeover : ∀ (p : Port) (params : List Byte) (s : State), ∃ mode record auto,
      (reqSetAutoTakeover p params s).state.opr =
      { s.opr with lineMode := mode, negotiation := record, autoTakeover := auto } := by
    intro p params s
    unfold reqSetAutoTakeover
    split
    · exact ⟨_, _, _, rfl⟩
    · exact of_same rfl
  have restart : ∀ (p : Port) (params : List Byte) (s : State), ∃ mode record auto, (reqRestart p params s).state.opr =
      { s.opr with lineMode := mode, negotiation := record, autoTakeover := auto } := by
    intro p params s
    unfold reqRestart
    split
    · split
      · exact of_same rfl
      · exact ⟨_, _, _, rfl⟩
    · exact of_same rfl
  simp only [handlers, List.forall_mem_cons]
  refine ⟨?_, ?_, ?_, ?_, ?_, ?_, ?_, ?_, ?_, ?_, ?_, ?_, ?_, ?_, ?_, ?_, ?_, ?_, ?_, ?_, submit, ?_, ?_, ?_, ?_, ?_, ?_,
    ?_, ?_, ?_, takeover, ?_, ?_, ?_, ?_, ?_, ?_, ?_, restart, nofun⟩
  all_goals exact fun p params s => of_same (by simp)

/-! ### The ingest link and the loader -/

/-- What the ingest link and the loader leave of a part: all but the forecast store, the ingest unit and the notices. -/
structure IngestLeaves (s t : State) : Prop where
  power : t.power = s.power
  fcy : t.fcy = s.fcy
  pln : t.pln = s.pln
  tke : t.tke = s.tke
  cmp : t.cmp = s.cmp
  opr : t.opr = s.opr

theorem IngestLeaves.refl (s : State) : IngestLeaves s s := ⟨rfl, rfl, rfl, rfl, rfl, rfl⟩

theorem IngestLeaves.onIng {s t : State} (h : IngestLeaves s t) (f : Ing → Ing) : IngestLeaves s (t.onIng f) :=
  ⟨h.power, h.fcy, h.pln, h.tke, h.cmp, h.opr⟩

theorem IngestLeaves.increase {s t : State} (h : IngestLeaves s t) (c : Counter) : IngestLeaves s (increase c t) := by
  constructor <;> simp [h.power, h.fcy, h.pln, h.tke, h.cmp, h.opr]

theorem IngestLeaves.offerUnit {s t : State} (h : IngestLeaves s t) (u : IngestUnit) : IngestLeaves s (offerUnit u t) := by
  unfold Machine.offerUnit
  split
  · exact h.onIng _
  · exact (h.onIng _).increase _

theorem IngestLeaves.loaderError {s t : State} (h : IngestLeaves s t) (k : LoaderErrorKind) (type_ : Byte)
    (runId : Word16) (station : Nat) : IngestLeaves s (loaderError k type_ runId station t) :=
  (h.onIng _).increase _

theorem IngestLeaves.afterWind {s : State} {r : LoaderOutcome × State} (h : IngestLeaves s r.2) (type_ : Byte)
    (runId : Word16) : IngestLeaves s (afterWind type_ runId r) := by
  unfold Machine.afterWind
  split
  · exact h
  · exact h.loaderError _ _ _ _

/-- A unit on the wind part rewrites the wind part. -/
theorem IngestLeaves.onWind (f : Fsw → LoaderOutcome × Fsw) (s : State) : IngestLeaves s (onWind f s).2 :=
  ⟨rfl, rfl, rfl, rfl, rfl, rfl⟩

theorem IngestLeaves.loadRunEnd (id : Word16) (sent : Nat) (s : State) : IngestLeaves s (loadRunEnd id sent s).2 := by
  unfold Machine.loadRunEnd
  split
  · exact ⟨rfl, rfl, rfl, rfl, rfl, rfl⟩
  · exact ⟨rfl, rfl, rfl, rfl, rfl, rfl⟩

theorem IngestLeaves.loadTideStation (c : CarriedStation) (s : State) : IngestLeaves s (loadTideStation c s).2 := by
  unfold Machine.loadTideStation
  split
  · exact .refl s
  · split
    · exact .refl s
    · exact ⟨rfl, rfl, rfl, rfl, rfl, rfl⟩

theorem IngestLeaves.loadStationUnit (payload : List Byte) (s : State) :
    IngestLeaves s (loadStationUnit payload s) := by
  unfold Machine.loadStationUnit
  split
  · exact (IngestLeaves.refl s).loaderError _ _ _ _
  · next c _ =>
    unfold afterTide
    split
    · exact .loadTideStation c s
    · exact (IngestLeaves.loadTideStation c s).loaderError _ _ _ _

/-- A good unit acts on the stores, the notices and the loader's record (R153). -/
theorem IngestLeaves.loadGood (type_ : Byte) (payload : List Byte) (s : State) :
    IngestLeaves s (loadGood type_ payload s) := by
  have failed : ∀ k b id n, IngestLeaves s (Machine.loaderError k b id n s) := (IngestLeaves.refl s).loaderError
  unfold Machine.loadGood
  split
  · unfold loadRunStart
    split
    · exact (IngestLeaves.onWind _ s).afterWind _ _
    · exact failed _ _ _ _
  split
  · unfold loadWindRow
    split
    · split
      · exact (IngestLeaves.onWind _ s).afterWind _ _
      · exact failed _ _ _ _
    · exact failed _ _ _ _
  split
  · unfold loadFrameEnd
    split
    · exact (IngestLeaves.onWind _ s).afterWind _ _
    · exact failed _ _ _ _
  split
  · unfold loadRunEndUnit
    split
    · exact (IngestLeaves.loadRunEnd _ _ s).afterWind _ _
    · exact failed _ _ _ _
  split
  · exact .loadStationUnit payload s
  · exact failed _ _ _ _

theorem IngestLeaves.trans {s t u : State} (h : IngestLeaves s t) (k : IngestLeaves t u) : IngestLeaves s u :=
  ⟨k.power.trans h.power, k.fcy.trans h.fcy, k.pln.trans h.pln, k.tke.trans h.tke, k.cmp.trans h.cmp,
    k.opr.trans h.opr⟩

/-- A loader move (R151, R152). -/
theorem IngestLeaves.moveHead (s : State) : IngestLeaves s (moveHead s) := by
  unfold Machine.moveHead
  split
  · exact .refl s
  · next u rest _ =>
    have dealt : ∀ t, IngestLeaves t (dealWith u t) := by
      intro t
      unfold dealWith
      split
      · exact (IngestLeaves.refl t).increase _
      · exact .loadGood _ _ t
    split
    · exact ((IngestLeaves.refl s).onIng _).trans (dealt _)
    · exact .refl s

/-- A character on the ingest link (R140 to R147). -/
theorem IngestLeaves.ingestCharacter (c : Character) (s : State) : IngestLeaves s (ingestCharacter c s) := by
  have hunted : ∀ {u}, IngestLeaves s u → IngestLeaves s (hunt u) := fun h => h.onIng _
  unfold Machine.ingestCharacter
  split
  · split
    · exact (IngestLeaves.refl s).onIng _
    · exact .refl s
  · exact .refl s
  · exact (hunted (.refl s)).offerUnit _
  · have taken : ∀ f, IngestLeaves s (s.onIng f) := (IngestLeaves.refl s).onIng
    unfold takeBytes
    split
    · exact taken _
    · exact taken _
    · split
      · exact (hunted (taken _)).offerUnit _
      · split
        · exact (hunted (taken _)).offerUnit _
        · exact taken _

/-! ### The sticky level and the relaxation count (R133, R134) -/

/-- The relaxation step lowers the sticky level by one at the 100th start, or moves the count within its range (R134). -/
theorem relaxationStep_levelLaw (snap : Snapshot) (budget : Nat) {c : Cmp} (h : LevelLaw c) :
    LevelLaw (relaxationStep snap budget c) := by
  obtain ⟨sticky, relax, zero⟩ := h
  unfold relaxationStep LevelLaw
  split
  · exact ⟨sticky, Nat.zero_le _, fun _ => rfl⟩
  · next hs =>
    split
    · split
      · exact ⟨by dsimp only; omega, Nat.zero_le _, fun _ => rfl⟩
      · next hr =>
        simp only [Config.relaxationStarts] at hr
        exact ⟨sticky, by dsimp only; omega, fun h => absurd h hs⟩
    · exact ⟨sticky, Nat.zero_le _, fun _ => rfl⟩

/-- The chosen level is one of the four (R133). -/
theorem chosenLevel_le (snap : Snapshot) (budget sticky : Nat) : chosenLevel snap budget sticky ≤ 3 := by
  unfold chosenLevel fittingLevel
  cases h : ([0, 1, 2, 3].filter fun l => sticky ≤ l && costAt snap l ≤ budget).head? with
  | none => exact Nat.le_refl 3
  | some l =>
    have hl : l ∈ [0, 1, 2, 3] := List.mem_of_mem_filter (List.mem_of_mem_head? h)
    simp only [List.mem_cons, List.not_mem_nil, or_false] at hl
    simp only [Option.getD_some]
    omega

/-- The level choice raises the sticky level to the chosen one, or leaves it (R133). -/
theorem levelChoice_cmp (snap : Snapshot) (budget : Nat) (s : State) : ∃ late,
    (levelChoice snap budget s).cmp = { s.cmp with previousLate := late } ∨
    s.cmp.sticky < chosenLevel snap budget s.cmp.sticky ∧ (levelChoice snap budget s).cmp =
      { s.cmp with sticky := chosenLevel snap budget s.cmp.sticky, relax := 0, previousLate := late } := by
  unfold levelChoice
  simp only []
  split
  · next rise => exact ⟨(fittingLevel snap budget s.cmp.sticky).isNone, .inr ⟨rise, by simp⟩⟩
  · exact ⟨_, .inl rfl⟩

theorem beginComposition_levelLaw {s : State} (h : LevelLaw s.cmp) : LevelLaw (beginComposition s).cmp := by
  simp only [beginComposition, State.cmp_onFcy, State.cmp_onOpr, State.cmp_onIng]
  have relaxed : ∀ snap budget, LevelLaw (s.onCmp (relaxationStep snap budget)).cmp :=
    fun snap budget => relaxationStep_levelLaw snap budget h
  generalize snapshotOf s = snap
  generalize Config.budget s.fcy.rate - _ = budget
  obtain ⟨late, eq | ⟨rise, eq⟩⟩ := levelChoice_cmp snap budget (s.onCmp (relaxationStep snap budget)) <;> rw [eq]
  · exact relaxed snap budget
  · exact ⟨chosenLevel_le _ _ _, Nat.zero_le _, fun _ => rfl⟩

/-- A serving pulse touches the composer at its composition start alone. -/
theorem servingPulse_levelLaw (t : Time) (palarm : Bool) {s : State} (h : LevelLaw s.cmp) :
    LevelLaw (servingPulse t palarm s).cmp := by
  simp only [servingPulse, compositionStart, closePeriod_keeps, linkPulse_keeps, gapPulse_keeps, setTsCode_keeps]
  refine beginComposition_levelLaw ?_
  simpa using h

/-- The level law through the requests: a restart sets both values to 0 (R139). -/
theorem handler_levelLaw {h : Handler} (known : h ∈ handlers) (p : Port) (params : List Byte) {s : State}
    (law : LevelLaw s.cmp) : LevelLaw (h p params s).state.cmp := by
  rcases handler_cmp h known p params s with eq | eq <;> rw [eq]
  · exact law
  · exact ⟨Nat.zero_le _, Nat.zero_le _, fun _ => rfl⟩

/-! ### The reference states (R4 to R9) -/

/-- A serving pulse moves the count, the serving time and the charts; the reference states, their times and the timer
stand (R2). -/
@[simp] theorem servingPulse_leaves_cycle (t : Time) (palarm : Bool) (s : State) :
    (servingPulse t palarm s).fcy.ref = s.fcy.ref ∧ (servingPulse t palarm s).fcy.regain = s.fcy.regain ∧
    (servingPulse t palarm s).fcy.lastReference = s.fcy.lastReference ∧
    (servingPulse t palarm s).fcy.timer = s.fcy.timer ∧ (servingPulse t palarm s).fcy.rate = s.fcy.rate ∧
    (servingPulse t palarm s).fcy.lastServing = t := by
  obtain ⟨c, eq, -⟩ := servingPulse_fcy t palarm s
  simp [eq]

/-- The law reads the power and the cycle's reference state, regain count, reference time and timer. -/
theorem cycleLaw_of_same {s t : State} (power : t.power = s.power) (ref : t.fcy.ref = s.fcy.ref)
    (regain : t.fcy.regain = s.fcy.regain) (last : t.fcy.lastReference = s.fcy.lastReference)
    (timer : t.fcy.timer = s.fcy.timer) (h : CycleLaw s) : CycleLaw t := by
  unfold CycleLaw
  rw [power, ref, regain, last, timer]
  exact h

theorem servingPulse_cycleLaw (t : Time) (palarm : Bool) {s : State} (h : CycleLaw s) :
    CycleLaw (servingPulse t palarm s) :=
  cycleLaw_of_same (by simp) (by simp) (by simp) (by simp) (by simp) h

/-- In LOST the timer runs and no attempt is counted. -/
theorem lost_cycleLaw {s : State} (ref : s.fcy.ref = .lost) (regain : s.fcy.regain = 0)
    (last : s.fcy.lastReference.isSome) (timer : s.power = .running → s.fcy.timer ≠ none) : CycleLaw s := by
  unfold CycleLaw
  rw [ref, regain]
  exact ⟨by decide, by decide, fun _ => last, fun run => ⟨nofun, fun h => absurd h (timer run)⟩⟩

/-- The timer runs in every state of a running part but LOCKED. -/
theorem timer_of_not_locked {s : State} (h : CycleLaw s) (ref : s.fcy.ref ≠ .locked) :
    s.power = .running → s.fcy.timer ≠ none := fun run stopped => ref ((h.2.2.2 run).2 stopped)

/-- No attempt is counted outside REGAINING. -/
theorem regain_of_not_regaining {s : State} (h : CycleLaw s) (ref : s.fcy.ref ≠ .regaining) : s.fcy.regain = 0 := by
  by_contra counted
  exact ref (h.2.1.2 counted)

theorem internalPulse_cycleLaw (palarm : Bool) {s : State} (h : CycleLaw s) (run : s.power = .running) :
    CycleLaw (internalPulse palarm s) := by
  unfold internalPulse
  split
  · exact h
  · next t due =>
    refine servingPulse_cycleLaw t palarm ?_
    obtain ⟨low, attempt, last, timer⟩ := h
    refine ⟨low, attempt, last, fun _ => ?_⟩
    have runs : s.fcy.ref ≠ .locked := fun lock => by rw [(timer run).1 lock] at due; cases due
    exact ⟨fun lock => absurd lock runs, nofun⟩

theorem lossExpiry_cycleLaw (palarm : Bool) {s : State} (h : CycleLaw s) : CycleLaw (lossExpiry palarm s) := by
  unfold lossExpiry
  split
  · next t0 ref last =>
    refine lost_cycleLaw ?_ ?_ ?_ ?_
    · simp
    · simpa using regain_of_not_regaining h (by rw [ref]; decide)
    · simp [last]
    · simp
  · exact h

theorem regainExpiry_cycleLaw {s : State} (h : CycleLaw s) : CycleLaw (regainExpiry s) := by
  unfold regainExpiry
  split
  · next ref =>
    have timer := timer_of_not_locked h (by rw [ref]; decide)
    exact lost_cycleLaw rfl rfl (h.2.2.1 (by rw [ref]; decide)) timer
  · exact h

/-- LOCKED has no timer and counts no attempt. -/
theorem locked_cycleLaw {s : State} (ref : s.fcy.ref = .locked) (regain : s.fcy.regain = 0)
    (last : s.fcy.lastReference.isSome) (timer : s.fcy.timer = none) : CycleLaw s := by
  unfold CycleLaw
  rw [ref, regain, timer]
  exact ⟨by decide, by decide, fun _ => last, fun _ => ⟨fun _ => rfl, fun _ => rfl⟩⟩

theorem lock_cycleLaw (t : Time) (palarm : Bool) (s : State) : CycleLaw (lock t palarm s) := by
  have locked : CycleLaw (s.onFcy fun f =>
      { f with ref := .locked, regain := 0, timer := none, lastReference := some t }) :=
    locked_cycleLaw rfl rfl rfl rfl
  unfold lock
  simp only []
  split
  · exact servingPulse_cycleLaw t palarm locked
  · exact locked

/-- REGAINING counts one to three reference pulses while the timer runs. -/
theorem regaining_cycleLaw {s : State} (ref : s.fcy.ref = .regaining) (low : s.fcy.regain ≤ 3)
    (counted : s.fcy.regain ≠ 0) (last : s.fcy.lastReference.isSome)
    (timer : s.power = .running → s.fcy.timer ≠ none) : CycleLaw s := by
  unfold CycleLaw
  rw [ref]
  exact ⟨low, ⟨fun _ => counted, fun _ => rfl⟩, fun _ => last, fun run => ⟨nofun, fun h => absurd h (timer run)⟩⟩

theorem beginRegain_cycleLaw (t : Time) {s : State} (timer : s.power = .running → s.fcy.timer ≠ none) :
    CycleLaw (beginRegain t s) :=
  regaining_cycleLaw rfl (by decide : 1 ≤ 3) Nat.one_ne_zero rfl timer

theorem countRegain_cycleLaw (t : Time) (palarm : Bool) {s : State} (h : CycleLaw s) (ref : s.fcy.ref = .regaining) :
    CycleLaw (countRegain t palarm s) := by
  have timer := timer_of_not_locked h (by rw [ref]; decide)
  unfold countRegain
  split
  · split
    · next low => exact regaining_cycleLaw ref (Nat.succ_le_of_lt low) (Nat.succ_ne_zero _) rfl timer
    · exact lock_cycleLaw t palarm s
  · exact lost_cycleLaw rfl rfl (h.2.2.1 (by rw [ref]; decide)) timer

/-- A loss expiry that happens leaves the timer running, and no reference state but LOCKED is without it. -/
theorem referencePulse_cycleLaw (t : Time) (palarm : Bool) {s : State} (h : CycleLaw s) (run : s.power = .running) :
    CycleLaw (referencePulse t palarm s) := by
  unfold referencePulse
  split
  · exact lock_cycleLaw t palarm s
  · next ref =>
    split
    · next late =>
      obtain ⟨t0, last⟩ := Option.isSome_iff_exists.mp (h.2.2.1 (by rw [ref]; decide))
      refine beginRegain_cycleLaw t fun _ => ?_
      simp [lossExpiry, ref, last]
    · have none_counted := regain_of_not_regaining h (by rw [ref]; decide)
      unfold lockedPulse
      split
      · exact servingPulse_cycleLaw t palarm (locked_cycleLaw ref none_counted rfl ((h.2.2.2 run).1 ref))
      · exact h
  · next ref => exact beginRegain_cycleLaw t (timer_of_not_locked h (by rw [ref]; decide))
  · next ref =>
    split
    · have timer := timer_of_not_locked h (by rw [ref]; decide)
      refine beginRegain_cycleLaw t fun _ => ?_
      rw [regainExpiry, if_pos ref]
      exact timer run
    · exact countRegain_cycleLaw t palarm h ref

theorem pulseEvent_cycleLaw (e : PulseEvent) {s : State} (h : CycleLaw s) (run : s.power = .running) :
    CycleLaw (pulseEvent e s) := by
  cases e with
  | internal palarm => exact internalPulse_cycleLaw palarm h run
  | reference t palarm => exact referencePulse_cycleLaw t palarm h run
  | loss palarm => exact lossExpiry_cycleLaw palarm h

/-! ### The pair unit (R160, R164, R166) -/

/-- Leaving IN STEP clears the step state alone (R166). -/
theorem leaveStep_opr (s : State) : (leaveStep s).opr = { s.opr with inStep := false } := by
  unfold leaveStep
  split
  · simp
  · next out => rw [← Bool.eq_false_of_not_eq_true out]

theorem leaveStep_pairLaw {s : State} (h : PairLaw s.opr) : PairLaw (leaveStep s).opr := by
  obtain ⟨roles, hand, -, rest⟩ := h
  rw [leaveStep_opr]
  exact ⟨roles, hand, nofun, rest⟩

/-- The unit of a part whose partner has become LOST (R164, R166). -/
theorem losePartner_pairLaw {s : State} (roles : s.opr.strap = .sole ↔ s.opr.role = .sole)
    (empty : s.opr.inHand = none) (missed : s.opr.missed ≤ 3) (agree : s.opr.matchRun ≤ 8)
    (differ : s.opr.mismatchRun ≤ 2) : PairLaw (losePartner s).opr := by
  unfold losePartner
  simp only [raiseFault_keeps, leaveStep_opr, State.opr_onOpr]
  split
  · exact ⟨roles, by simp [empty], nofun, nofun, missed, Nat.zero_le _, Nat.zero_le _, Nat.zero_le _⟩
  · exact ⟨roles, by simp [empty], nofun, nofun, missed, Nat.zero_le _, agree, differ⟩

/-- Partner presence, with the missed-period count it makes (R164). -/
theorem partnerPresence_eq (s : State) : ∃ count,
    (count = if s.opr.inHand.isSome then 0 else min 3 (s.opr.missed + 1)) ∧
    partnerPresence s =
      if s.opr.partnerPresent then
        if count = 3 then losePartner (s.onOpr fun o => { o with missed := count })
        else s.onOpr fun o => { o with missed := count }
      else s.onOpr fun o => { o with missed := count, lossCount := min 25 (o.lossCount + 1) } :=
  ⟨_, rfl, rfl⟩

/-- A period without a report is missed, the third loses a PRESENT partner, and a LOST one counts its periods up to 25
(R164). -/
theorem partnerPresence_pairLaw {s : State} (h : PairLaw s.opr) : PairLaw (partnerPresence s).opr := by
  obtain ⟨roles, hand, step, present, missed, loss, agree, differ⟩ := h
  obtain ⟨count, made, eq⟩ := partnerPresence_eq s
  have few : count ≤ 3 := by rw [made]; split <;> omega
  have empty : count = 3 → s.opr.inHand = none := by
    rw [made]
    split
    · exact nofun
    · next none_held => exact fun _ => by simpa using none_held
  rw [eq]
  split
  · next here =>
    split
    · next full => exact losePartner_pairLaw roles (empty full) few agree differ
    · next short =>
      exact ⟨roles, hand, step, fun _ => ⟨Nat.le_of_lt_succ (Nat.lt_of_le_of_ne few short), (present here).2⟩,
        few, loss, agree, differ⟩
  · next gone =>
    exact ⟨roles, hand, step, fun here => absurd here gone, few, Nat.min_le_left _ _, agree, differ⟩

/-- A step comparison moves its runs within their ranges, and IN STEP begins with a report in hand (R166). -/
theorem stepComparison_pairLaw {s : State} (h : PairLaw s.opr) : PairLaw (stepComparison s).opr := by
  obtain ⟨roles, hand, step, present, missed, loss, agree, differ⟩ := h
  unfold stepComparison
  split
  · exact ⟨roles, hand, step, present, missed, loss, Nat.zero_le _, differ⟩
  · next r held =>
    have here : s.opr.partnerPresent = true := hand (by rw [held]; rfl)
    split
    · unfold matchStep
      simp only []
      split
      · simp only [raiseStep_keeps, State.opr_onOpr]
        exact ⟨roles, hand, fun _ => here, present, missed, loss, Nat.min_le_left _ _, Nat.zero_le _⟩
      · exact ⟨roles, hand, step, present, missed, loss, Nat.min_le_left _ _, Nat.zero_le _⟩
    · have counted : PairLaw { s.opr with matchRun := 0, mismatchRun := min 2 (s.opr.mismatchRun + 1) } :=
        ⟨roles, hand, step, present, missed, loss, Nat.zero_le _, Nat.min_le_left _ _⟩
      unfold mismatchStep
      simp only []
      split
      · exact leaveStep_pairLaw counted
      · exact counted

/-! ### A paired part stays paired (R160) -/

/-- No stage of a negotiation gives a paired part the role SOLE (R168, R169). -/
theorem doStage_role (k : Nat) (n : Negotiation) {s : State} (h : s.opr.role ≠ .sole) :
    (doStage k n s).1.opr.role ≠ .sole := by
  unfold doStage
  split
  · unfold mainCommit
    split <;> simpa [setNegotiation] using h
  · unfold mainHandOver
    split
    · simp [setRole]
    · exact h
  · unfold mainSettle
    split
    · exact h
    · split <;> simp [setRole]
  · exact h
  · unfold standbyAtMinus2
    split <;> simpa using h
  · unfold standbyAtMinus1
    split <;> simpa [setNegotiation] using h
  · unfold standbyTake
    split
    · simp [setRole]
    · simpa using h
  · exact h

theorem stageStep_role (acc : State × Nat) (k : Nat) (h : acc.1.opr.role ≠ .sole) :
    (stageStep acc k).1.opr.role ≠ .sole := by
  unfold stageStep
  split
  · exact h
  · split
    · exact doStage_role k _ (by simpa using h)
    · exact h

theorem negotiationStages_role {s : State} (h : s.opr.role ≠ .sole) : (negotiationStages s).1.opr.role ≠ .sole := by
  have checked : (standbyCheck s).opr.role ≠ .sole := by
    unfold standbyCheck
    split
    · exact h
    · split <;> simpa using h
  simp only [negotiationStages, List.foldl_cons, List.foldl_nil]
  exact stageStep_role _ 3 (stageStep_role _ 2 (stageStep_role _ 1 (stageStep_role _ 0 checked)))

theorem forceRole_role (r : Role) (s : State) : (forceRole r s).opr.role = r := by
  simp [forceRole, setRole]

/-- The role changes of a pulse leave a paired part paired. -/
theorem roleChanges_role (before : Word32) {s : State} (h : s.opr.role ≠ .sole) :
    (roleChanges before s).1.opr.role ≠ .sole := by
  have auto : (autoNegotiate (negotiationStages s).1).opr.role ≠ .sole := by
    unfold autoNegotiate
    split <;> simpa using negotiationStages_role h
  have takeover : (forcedTakeover (autoNegotiate (negotiationStages s).1)).opr.role ≠ .sole := by
    unfold forcedTakeover
    split
    · simp [forceRole_role]
    · exact auto
  have release : (selfRelease (forcedTakeover (autoNegotiate (negotiationStages s).1))).opr.role ≠ .sole := by
    unfold selfRelease
    split
    · simp [forceRole_role]
    · exact takeover
  simp only [roleChanges, contention]
  split
  · simp [forceRole_role]
  · exact release

theorem pairChanges_pairLaw (before : Word32) {s : State} (h : PairLaw s.opr) :
    PairLaw (pairChanges before s).1.opr := by
  have roles : (pairChanges before s).1.opr.strap = .sole ↔ (pairChanges before s).1.opr.role = .sole := by
    unfold pairChanges
    split
    · next isPaired =>
      have role : s.opr.role ≠ .sole := by simpa [paired] using isPaired
      simp only [roleChanges_fields]
      exact ⟨fun strap => absurd (h.1.1 strap) role, fun sole => absurd sole (roleChanges_role before role)⟩
    · exact h.1
  refine ⟨roles, ?_⟩
  simpa using h.2

/-- The pair unit through a serving pulse (R163). -/
theorem servingPulse_pairLaw (t : Time) (palarm : Bool) {s : State} (h : PairLaw s.opr) :
    PairLaw (servingPulse t palarm s).opr := by
  have presence : PairLaw (whenPaired partnerPresence (sampleAlarm palarm s)).opr :=
    whenPaired_of (P := fun s => PairLaw s.opr) (partnerPresence_pairLaw h) h
  have ended : PairLaw (periodEnded t palarm s).opr := by
    have displayed : PairLaw (abandon (display (advance t (nextCount (whenPaired partnerPresence (sampleAlarm palarm s)))
        (whenPaired partnerPresence (sampleAlarm palarm s))))).opr := by
      simpa [PairLaw] using presence
    exact whenPaired_of (P := fun s => PairLaw s.opr) (stepComparison_pairLaw displayed) displayed
  have changed : PairLaw (pairDone t palarm s).1.opr := pairChanges_pairLaw _ ended
  have begun : PairLaw (linkPulse (gapPulse (setTsCode (compositionStart (pairDone t palarm s).1 (pairDone t palarm s).2).2
      (compositionStart (pairDone t palarm s).1 (pairDone t palarm s).2).1))).opr := by
    simpa [PairLaw, compositionStart] using changed
  have closed : ∀ ended u, PairLaw u.opr → PairLaw (closePeriod ended u).opr := by
    intro ended u law
    unfold closePeriod
    split
    · exact ⟨law.1, nofun, law.2.2⟩
    · exact law
  exact closed _ _ begun

/-- The swap word of a report acts on the negotiation record alone (R168 to R170). -/
theorem actOnSwapWord_opr (r : Report) (s : State) : ∃ n, (actOnSwapWord r s).opr = { s.opr with negotiation := n } := by
  have stands : ∃ n, s.opr = { s.opr with negotiation := n } := ⟨_, rfl⟩
  have replaced : ∀ n, ∃ m, (setNegotiation n s).opr = { s.opr with negotiation := m } := fun n => ⟨n, rfl⟩
  unfold actOnSwapWord
  split
  · unfold receiveOffer
    split
    · exact stands
    · split
      · split
        · exact replaced _
        · exact stands
      · split
        · exact replaced _
        · exact stands
  · unfold receiveRequest
    split
    · split
      · exact replaced _
      · exact stands
    · split
      · exact replaced _
      · exact stands
  · unfold receiveRelease
    split
    · exact stands
    · split
      · exact replaced _
      · exact stands
  · exact stands

/-- An on-time report makes its partner PRESENT (R163, R164). -/
theorem takeInHand_pairLaw (r : Report) {s : State} (h : PairLaw s.opr) : PairLaw (takeInHand r s).opr := by
  obtain ⟨roles, -, step, present, missed, loss, agree, differ⟩ := h
  unfold takeInHand
  simp only [State.opr_onOpr]
  split
  · next here => exact ⟨roles, fun _ => here, step, present, missed, loss, agree, differ⟩
  · exact ⟨roles, fun _ => rfl, fun _ => rfl, fun _ => ⟨Nat.zero_le _, rfl⟩, Nat.zero_le _, Nat.zero_le _, agree, differ⟩

theorem receiveReport_pairLaw (r : Report) {s : State} (h : PairLaw s.opr) : PairLaw (receiveReport r s).opr := by
  have noted : PairLaw (noteMain r s).opr := by
    unfold noteMain
    split
    · exact h
    · exact h
  unfold receiveReport
  simp only []
  split
  · obtain ⟨n, eq⟩ := actOnSwapWord_opr r (takeInHand r (noteMain r s))
    rw [eq]
    exact takeInHand_pairLaw r noted
  · exact noted

/-- A request keeps the ranges of the pair unit. -/
theorem handler_pairLaw {h : Handler} (known : h ∈ handlers) (p : Port) (params : List Byte) {s : State}
    (law : PairLaw s.opr) : PairLaw (h p params s).state.opr := by
  obtain ⟨mode, record, auto, eq⟩ := handler_opr h known p params s
  rw [eq]
  exact law

/-- The straps give SOLE and a paired role together (R160). -/
theorem rolesOf_pairLaw (straps : Straps) : PairLaw (Opr.reset (rolesOf straps).1 (rolesOf straps).2) := by
  have roles : (rolesOf straps).1 = .sole ↔ (rolesOf straps).2 = .sole := by
    unfold rolesOf
    split <;> decide
  exact ⟨roles, nofun, nofun, nofun, Nat.zero_le _, Nat.zero_le _, Nat.zero_le _, Nat.zero_le _⟩

/-! ### The laws through an effect -/

/-- The end of an attempt rewrites the cycle at most (R8). -/
theorem regainExpiry_fcy (s : State) : ∃ f, regainExpiry s = s.onFcy f := by
  unfold regainExpiry
  split
  · exact ⟨_, rfl⟩
  · exact ⟨id, rfl⟩

/-- What rewriting the cycle, serving, counting and raising a fault keep, every pulse and expiry keeps (R4 to R9). -/
theorem pulseEvent_induct {P : State → Prop} (cycle : ∀ s f, P s → P (s.onFcy f))
    (serves : ∀ t palarm s, P s → P (servingPulse t palarm s)) (counts : ∀ c s, P s → P (increase c s))
    (faults : ∀ add s, P s → P (raiseFault add s)) (e : PulseEvent) {s : State} (h : P s) : P (pulseEvent e s) := by
  have lost : ∀ palarm, P (lossExpiry palarm s) := by
    intro palarm
    unfold lossExpiry
    split
    · exact faults _ _ (counts _ _ (cycle _ _ (serves _ _ _ h)))
    · exact h
  have locks : ∀ t palarm, P (lock t palarm s) := by
    intro t palarm
    unfold lock
    simp only []
    split
    · exact serves _ _ _ (cycle _ _ h)
    · exact cycle _ _ h
  cases e with
  | internal palarm =>
    simp only [pulseEvent, internalPulse]
    split
    · exact h
    · exact serves _ _ _ (cycle _ _ h)
  | loss palarm => exact lost palarm
  | reference t palarm =>
    simp only [pulseEvent, referencePulse]
    split
    · exact locks t palarm
    · split
      · exact cycle _ _ (lost palarm)
      · unfold lockedPulse
        split
        · exact serves _ _ _ (cycle _ _ h)
        · exact h
    · exact cycle _ _ h
    · split
      · obtain ⟨f, eq⟩ := regainExpiry_fcy s
        rw [eq]
        exact cycle _ _ (cycle _ _ h)
      · unfold countRegain
        split
        · split
          · exact cycle _ _ h
          · exact locks t palarm
        · exact cycle _ _ h

/-- A completion writes the composition in flight and the completed chart at most (R11). -/
theorem complete_fcy (s : State) :
    ∃ flight chart, complete s = s.onFcy fun f => { f with inFlight := flight, completed := chart } := by
  unfold complete
  split
  · exact ⟨s.fcy.inFlight, s.fcy.completed, rfl⟩
  · split
    · exact ⟨_, _, rfl⟩
    · exact ⟨s.fcy.inFlight, s.fcy.completed, rfl⟩

/-- The composer that has spent its budget writes the composition in flight at most (R11). -/
theorem spend_fcy (s : State) : ∃ flight, spend s = s.onFcy fun f => { f with inFlight := flight } := by
  unfold spend
  split
  · exact ⟨s.fcy.inFlight, rfl⟩
  · split
    · exact ⟨s.fcy.inFlight, rfl⟩
    · exact ⟨_, rfl⟩

/-- Receiving a report touches the pair unit alone (R163). -/
theorem receiveReport_keeps (r : Report) (s : State) :
    (receiveReport r s).power = s.power ∧ (receiveReport r s).fcy = s.fcy ∧ (receiveReport r s).cmp = s.cmp := by
  have acted : ∀ u : State, (actOnSwapWord r u).power = u.power ∧ (actOnSwapWord r u).fcy = u.fcy ∧
      (actOnSwapWord r u).cmp = u.cmp := by
    intro u
    unfold actOnSwapWord
    split
    · unfold receiveOffer
      repeat' split
      all_goals simp
    · unfold receiveRequest
      repeat' split
      all_goals simp
    · unfold receiveRelease
      repeat' split
      all_goals simp
    · simp
  have noted : (noteMain r s).power = s.power ∧ (noteMain r s).fcy = s.fcy ∧ (noteMain r s).cmp = s.cmp := by
    unfold noteMain
    split <;> simp
  unfold receiveReport
  simp only []
  split
  · simp [acted, takeInHand, noted]
  · exact noted

theorem effect_levelLaw {s t : State} (e : Effect s t) (h : LevelLaw s.cmp) : LevelLaw t.cmp := by
  have zero : LevelLaw Cmp.reset := ⟨Nat.zero_le _, Nat.zero_le _, fun _ => rfl⟩
  cases e with
  | stands => exact h
  | halted power _ => exact h
  | released t straps => exact zero
  | acted running act =>
    cases act with
    | stands => exact h
    | pulse e =>
      exact pulseEvent_induct (P := fun s => LevelLaw s.cmp) (fun _ _ h => h)
        (fun t palarm _ h => servingPulse_levelLaw t palarm h) (fun c s h => by simpa using h)
        (fun add s h => by simpa using h) e h
    | regainExpiry => obtain ⟨f, eq⟩ := regainExpiry_fcy s; rw [eq]; exact h
    | complete => obtain ⟨_, _, eq⟩ := complete_fcy s; rw [eq]; exact h
    | spend => obtain ⟨_, eq⟩ := spend_fcy s; rw [eq]; exact h
    | report r _ => rw [(receiveReport_keeps r _).2.2]; exact h
    | link l _ => exact h
    | ingest c => rw [(IngestLeaves.ingestCharacter c s).cmp]; exact h
    | symbol => exact h
    | loader => rw [(IngestLeaves.moveHead s).cmp]; exact h
    | request p r params palarm known =>
      simp only [sendReply_keeps]
      exact handler_levelLaw known p params h
    | ports palarm receiver reply waiting => exact h

theorem effect_cycleLaw {s t : State} (e : Effect s t) (h : CycleLaw s) : CycleLaw t := by
  cases e with
  | stands => exact h
  | halted power stopped => exact ⟨h.1, h.2.1, h.2.2.1, fun running => absurd running stopped⟩
  | released t straps => exact ⟨Nat.zero_le _, ⟨nofun, fun counted => absurd rfl counted⟩, fun h => absurd rfl h,
      fun _ => ⟨nofun, nofun⟩⟩
  | acted running act =>
    cases act with
    | stands => exact h
    | pulse e => exact pulseEvent_cycleLaw e h running
    | regainExpiry => exact regainExpiry_cycleLaw h
    | complete => obtain ⟨_, _, eq⟩ := complete_fcy s; rw [eq]; exact h
    | spend => obtain ⟨_, eq⟩ := spend_fcy s; rw [eq]; exact h
    | report r _ =>
      obtain ⟨power, fcy, -⟩ := receiveReport_keeps r (setLink none s)
      refine cycleLaw_of_same power ?_ ?_ ?_ ?_ h <;> rw [fcy, setLink_keeps none s |>.2.2.1]
    | link l _ => exact h
    | ingest c =>
      have same := IngestLeaves.ingestCharacter c s
      refine cycleLaw_of_same same.power ?_ ?_ ?_ ?_ h <;> rw [same.fcy]
    | symbol => exact h
    | loader =>
      have same := IngestLeaves.moveHead s
      refine cycleLaw_of_same same.power ?_ ?_ ?_ ?_ h <;> rw [same.fcy]
    | request p r params palarm known =>
      obtain ⟨fcy, power⟩ := handler_keeps_cycle _ known p params (endFrame p (sampleAlarm palarm s))
      refine cycleLaw_of_same (by simpa using power) ?_ ?_ ?_ ?_ h <;> simp [fcy]
    | ports palarm receiver reply waiting => exact h

theorem effect_pairLaw {s t : State} (e : Effect s t) (h : PairLaw s.opr) : PairLaw t.opr := by
  cases e with
  | stands => exact h
  | halted power _ => exact h
  | released t straps => exact rolesOf_pairLaw straps
  | acted running act =>
    cases act with
    | stands => exact h
    | pulse e =>
      exact pulseEvent_induct (P := fun s => PairLaw s.opr) (fun _ _ h => h)
        (fun t palarm _ h => servingPulse_pairLaw t palarm h) (fun c s h => by simpa using h)
        (fun add s h => by simpa using h) e h
    | regainExpiry => obtain ⟨f, eq⟩ := regainExpiry_fcy s; rw [eq]; exact h
    | complete => obtain ⟨_, _, eq⟩ := complete_fcy s; rw [eq]; exact h
    | spend => obtain ⟨_, eq⟩ := spend_fcy s; rw [eq]; exact h
    | report r _ => exact receiveReport_pairLaw r h
    | link l _ => exact h
    | ingest c => rw [(IngestLeaves.ingestCharacter c s).opr]; exact h
    | symbol => exact h
    | loader => rw [(IngestLeaves.moveHead s).opr]; exact h
    | request p r params palarm known =>
      simp only [sendReply_keeps]
      exact handler_pairLaw known p params h
    | ports palarm receiver reply waiting => exact h

/-- Settles O58: a step is one of the effects, and each effect keeps the three laws. -/
theorem stepKeepsLevelCycleAndPair : Obligations.StepKeepsLevelCycleAndPair := by
  refine ⟨fun s t h => ?_, fun s t h => ?_⟩
  · obtain ⟨q, e⟩ := step_effect h
    exact ⟨fun law => effect_levelLaw e law, fun law => effect_cycleLaw e law⟩
  · obtain ⟨q, e⟩ := step_effect h
    exact fun law => effect_pairLaw e law

end Sys2Proof.Machine
end

section
/-! PROOFS. Reset and supply, the outputs, and the reference pulses: O3, O4, O5, O9, O10, O11 and O50. -/

namespace Sys2Proof.Machine

/-! ### A part that runs, and one that does not -/

@[simp] theorem whileRunning_running (f : State → State) {s : State} (h : s.power = .running) :
    whileRunning f s = f s := if_pos h

theorem whileRunning_stopped (f : State → State) {s : State} (h : s.power ≠ .running) : whileRunning f s = s := if_neg h

/-- Every command but RESET, its release and loss of supply acts on a part that runs alone (log 11). -/
theorem exec_eq_whileRunning {c : Instr} (reset : c ≠ .hardReset) (loss : c ≠ .powerLoss)
    (release : ∀ t x, c ≠ .endOfHardReset t x) : ∃ f, ∀ s, exec c s = .next (whileRunning f s) := by
  cases c with
  | hardReset => exact absurd rfl reset
  | powerLoss => exact absurd rfl loss
  | endOfHardReset t x => exact absurd rfl (release t x)
  | _ => exact ⟨_, fun _ => rfl⟩

/-- Settles O3. -/
theorem aHeldPartIgnoresOtherCommands : Obligations.AHeldPartIgnoresOtherCommands := by
  intro c s stopped reset loss release
  obtain ⟨f, eq⟩ := exec_eq_whileRunning reset loss release
  rw [eq, whileRunning_stopped f stopped]

/-- A part that does not run releases its line and ATTN and asserts ALARM (R159, R172, R188). -/
theorem outputs_of_stopped {s : State} (h : s.power ≠ .running) :
    lineOutput s = .released ∧ alarm s = true ∧ ∀ p, attn s p = false := by
  simp [lineOutput, lineDriven, alarm, attn, h]

/-- Settles O4. -/
theorem resetAndPowerLossStopThePart : Obligations.ResetAndPowerLossStopThePart := by
  intro s
  refine ⟨halt .inReset s, halt .unpowered s, rfl, rfl, rfl, rfl, ?_, ?_⟩
  · exact outputs_of_stopped (by simp [halt])
  · exact outputs_of_stopped (by simp [halt])

/-! ### Reset and the frame cycle (R16) -/

/-- A request leaves the frame cycle. -/
theorem request_fcy {h : Handler} (known : h ∈ handlers) (p : Port) (code : Byte) (params : List Byte) (s : State) :
    (request p code params h s).fcy = s.fcy := by
  unfold request whileRunning completeRequest
  split
  · split
    · simp [handler_keeps_cycle h known]
    · simp
  · rfl

/-- Settles O5: a held part stands, its release is `released`, and RESTART is a request. -/
theorem endOfHardResetStartsTheFrameCycle : Obligations.EndOfHardResetStartsTheFrameCycle := by
  refine ⟨fun s held => ⟨fun t palarm => ?_, fun t straps => ?_⟩, fun p params s => ?_⟩
  · have stands : ∀ c : Instr, c ≠ .hardReset → c ≠ .powerLoss → (∀ t x, c ≠ .endOfHardReset t x) →
        exec c s = .next s :=
      fun c => aHeldPartIgnoresOtherCommands c s (by rw [held]; decide)
    refine ⟨?_, ?_, ?_, ?_, ?_, ?_⟩ <;> exact stands _ nofun nofun (fun _ _ => nofun)
  · refine ⟨released t straps s, by simp [exec, execEndOfHardReset, held], rfl, rfl, rfl, rfl, rfl, rfl, rfl, ?_, rfl, rfl,
      Composition.first (Config.budget (rateOf straps)), rfl, rfl, rfl, rfl, rfl, rfl⟩
    cases h : straps.frate <;> simp [released, Fcy.reset, rateOf, h, Config.nominal]
  · exact ⟨_, rfl, request_fcy (by simp [handlers]) p 0x5F params s⟩

/-! ### The outputs (R14, R155, R159, R172, R180) -/

/-- A counter is tripped when one of the six flags is set. -/
theorem anyTripped_iff (s : State) : anyTripped s = true ↔ ∃ c, s.cnu.tripped.get c = true := by
  unfold anyTripped PerCounter.toList
  constructor
  · intro h
    simp only [List.any_cons, List.any_nil, id_eq, Bool.or_eq_true, Bool.false_eq_true, or_false] at h
    rcases h with h | h | h | h | h | h
    exacts [⟨.lateFrames, h⟩, ⟨.degradedEntries, h⟩, ⟨.ingestErrors, h⟩, ⟨.overruns, h⟩, ⟨.referenceLosses, h⟩,
      ⟨.stepLosses, h⟩]
  · rintro ⟨c, h⟩
    cases c <;> simp only [PerCounter.get] at h <;> simp [h]

/-- ALARM of a part that runs (R172). -/
theorem alarm_iff {s : State} (running : s.power = .running) :
    alarm s = true ↔ (s.cnu.alarmEnable = true ∧ ∃ c, s.cnu.tripped.get c = true) ∨ s.fcy.ref = .lost := by
  simp [alarm, running, ← anyTripped_iff]

/-- INGEST is pending while a unit is marked or the last loader error unread (R155). -/
theorem ingestCondition_iff (s : State) : ingestCondition s = true ↔
    (∃ x ∈ s.ing.queue, x.mark ≠ .none) ∨ ∃ e, s.ing.lastError = some e ∧ e.unread = true := by
  unfold ingestCondition errorAnywhere loaderErrorUnread
  cases s.ing.lastError <;> simp

/-- ATTN of a port (R180, R188). -/
theorem attn_iff (s : State) (p : Port) : attn s p = true ↔ s.power = .running ∧
    ((pendingSet s p).fault = true ∧ (s.cnu.mask.get p).fault = true ∨
      (pendingSet s p).ingest = true ∧ (s.cnu.mask.get p).ingest = true ∨
      (pendingSet s p).hold = true ∧ (s.cnu.mask.get p).hold = true ∨
      (pendingSet s p).take = true ∧ (s.cnu.mask.get p).take = true ∨
      (pendingSet s p).run = true ∧ (s.cnu.mask.get p).run = true ∨
      (pendingSet s p).step = true ∧ (s.cnu.mask.get p).step = true) := by
  simp [attn, shownSet, Notices.inter, or_assoc]

/-- Settles O50: the lines by role and line mode, ALARM by its two causes, ATTN by class. -/
theorem lineOutputAndAlarmFollowTheState : Obligations.LineOutputAndAlarmFollowTheState := by
  intro s
  refine ⟨?_, ?_, ?_, ?_, ?_, alarm_iff, ?_⟩
  · intro role
    rcases role with role | role <;> simp [lineOutput, lineDriven, role]
  · intro running role
    have driven : lineDriven s = true := by simpa [lineDriven, running] using role
    refine ⟨?_, ?_, ?_⟩
    · intro live empty
      simp [lineOutput, driven, live, empty, shownChart]
    · intro c live shown
      simp [lineOutput, driven, live, shown, shownChart]
    · intro notLive
      cases mode : s.opr.frameLineMode <;> simp_all [lineOutput]
  · intro stopped
    obtain ⟨line, asserted, -⟩ := outputs_of_stopped stopped
    exact ⟨line, asserted⟩
  · rintro (pass | empty)
    · simp [monitorOutput, pass]
    · unfold monitorOutput
      rw [empty]
      split <;> rfl
  · intro c mode shown
    unfold monitorOutput
    rw [shown]
    split
    · rfl
    · next pass => exact absurd pass mode
    · rfl
  · rintro p n m rfl rfl
    refine ⟨attn_iff s p, ?_, ingestCondition_iff s, rfl, rfl, rfl, rfl⟩
    simp [pendingSet]

/-! ### What a serving pulse makes of the count -/

/-- Without count sync a pulse makes the count one higher (R2). -/
theorem servingPulse_count (t : Time) (palarm : Bool) {s : State} (h : s.opr.role ≠ .standby ∨ s.opr.inHand = none) :
    (servingPulse t palarm s).fcy.count = s.fcy.count + 1 := by
  obtain ⟨c, eq, -⟩ := servingPulse_fcy t palarm s
  have next := nextCount_of_no_sync (s := whenPaired partnerPresence (sampleAlarm palarm s)) (by simpa using h)
  simpa [next] using congrArg Fcy.count eq

/-! ### Reference pulses and expiries (R4 to R9) -/

/-- A moment before 0.75 nominal periods is before 1.25 (R1). -/
theorem inTime_of_early {m t0 : Time} {rate : FrameRate} (early : m < t0 + Config.guardInterval rate) :
    m ≤ t0 + Config.expiry rate := by
  have guard : Config.guardInterval rate ≤ Config.expiry rate := by cases rate <;> decide
  exact Nat.le_trans (Nat.le_of_lt early) (Nat.add_le_add_left guard t0)

theorem not_spaced_of_early {s : State} {m t0 : Time} (last : s.fcy.lastReference = some t0)
    (early : m < t0 + Config.guardInterval s.fcy.rate) : ¬ spaced m s = true := by
  simpa [spaced, last] using Nat.not_le.mpr early

theorem not_overdue_of_inTime {s : State} {m t0 : Time} (last : s.fcy.lastReference = some t0)
    (inTime : m ≤ t0 + Config.expiry s.fcy.rate) : ¬ overdue m s = true := by
  simpa [overdue, last] using Nat.not_lt.mpr inTime

theorem spaced_iff {s : State} {t0 : Time} (last : s.fcy.lastReference = some t0) (m : Time) :
    spaced m s = true ↔ t0 + Config.guardInterval s.fcy.rate ≤ m := by
  simp [spaced, last]

theorem overdue_iff {s : State} {t0 : Time} (last : s.fcy.lastReference = some t0) (m : Time) :
    overdue m s = true ↔ t0 + Config.expiry s.fcy.rate < m := by
  simp [overdue, last]

theorem exec_referencePulse {s : State} (running : s.power = .running) (m : Time) (palarm : Bool) :
    exec (.referencePulse m palarm) s = .next (referencePulse m palarm s) := by
  simp [exec, execReferencePulse, running]

/-- In LOCKED a pulse within 1.25 nominal periods serves or is spurious, by its spacing (R5). -/
theorem referencePulse_locked {s : State} {m t0 : Time} (ref : s.fcy.ref = .locked)
    (last : s.fcy.lastReference = some t0) (inTime : m ≤ t0 + Config.expiry s.fcy.rate) (palarm : Bool) :
    referencePulse m palarm s = lockedPulse m palarm s := by
  simp [referencePulse, ref, not_overdue_of_inTime last inTime]

/-- The loss of a LOCKED reference, in its parts (R6). -/
theorem lossExpiry_locked {s : State} {t0 : Time} (ref : s.fcy.ref = .locked)
    (last : s.fcy.lastReference = some t0) (palarm : Bool) :
    lossExpiry palarm s = raiseFault Causes.addReference (increase .referenceLosses
      ((servingPulse (t0 + Config.expiry s.fcy.rate) palarm s).onFcy fun f =>
        { f with ref := .lost, timer := some (t0 + Config.expiry s.fcy.rate + Config.nominal f.rate) })) := by
  simp [lossExpiry, ref, last]

/-- Settles O9. -/
theorem lockedReferencePulse : Obligations.LockedReferencePulse := by
  intro m palarm s t0 running ref last
  rw [exec_referencePulse running]
  refine ⟨fun early => ?_, fun spacedOut inTime => ?_, fun late => ?_⟩
  · rw [referencePulse_locked ref last (inTime_of_early early), lockedPulse, if_neg (not_spaced_of_early last early)]
  · rw [referencePulse_locked ref last inTime, lockedPulse, if_pos ((spaced_iff last m).2 spacedOut)]
    refine ⟨_, rfl, by simp [ref], by simp, by simp, by simp, by simp, fun noSync => ?_⟩
    exact servingPulse_count m palarm noSync
  · simp only [referencePulse, ref, (overdue_iff last m).2 late, if_true, lossExpiry_locked ref last]
    refine ⟨_, rfl, rfl, rfl, rfl, ?_, ?_⟩
    · simp [beginRegain]
    · simp [beginRegain, PerCounter.set, PerCounter.get]

/-- A reference pulse that locks serves from a guard interval after the last serving time on, and is the lock point before
(R4, R8, R9). -/
theorem lock_spec (m : Time) (palarm : Bool) (s : State) :
    (lock m palarm s).fcy.ref = .locked ∧ (lock m palarm s).fcy.regain = 0 ∧ (lock m palarm s).fcy.timer = none ∧
    (lock m palarm s).fcy.lastReference = some m ∧
    (lock m palarm s).fcy.lastServing =
      (if s.fcy.lastServing + Config.guardInterval s.fcy.rate ≤ m then m else s.fcy.lastServing) := by
  unfold lock
  simp only []
  split
  · simp
  · simp

/-- Settles O10. -/
theorem referencePulsesLockOrCountOutsideLocked : Obligations.ReferencePulsesLockOrCountOutsideLocked := by
  refine ⟨fun m palarm s running ref => ?_, fun m palarm s running ref => ?_, fun s t0 running ref last => ?_⟩
  · rw [exec_referencePulse running, show referencePulse m palarm s = lock m palarm s by simp [referencePulse, ref]]
    refine ⟨fun early => ?_, fun late => ?_⟩
    · rw [lock, if_neg (Nat.not_le.mpr early)]
      rfl
    · obtain ⟨locked, -, stopped, reference, serving⟩ := lock_spec m palarm s
      refine ⟨_, rfl, locked, stopped, reference, by rw [serving, if_pos late], fun noSync => ?_⟩
      rw [lock, if_pos late]
      exact servingPulse_count m palarm noSync
  · rw [exec_referencePulse running]
    simp only [referencePulse, ref]
    rfl
  · have ended : regainExpiry s = { s with fcy := { s.fcy with ref := .lost, regain := 0 } } := if_pos ref
    refine ⟨by simp [exec, execRegainExpiry, running, ended], fun m palarm => ?_⟩
    have counts : m ≤ t0 + Config.expiry s.fcy.rate → referencePulse m palarm s = countRegain m palarm s := by
      intro inTime
      simp [referencePulse, ref, not_overdue_of_inTime last inTime]
    rw [exec_referencePulse running]
    refine ⟨fun early => ?_, fun spacedOut inTime => ?_, fun late => ?_⟩
    · rw [counts (inTime_of_early early), countRegain, if_neg (not_spaced_of_early last early)]
      rfl
    · rw [counts inTime, countRegain, if_pos ((spaced_iff last m).2 spacedOut)]
      refine ⟨fun few => ?_, fun three => ?_⟩
      · rw [if_pos few]
        rfl
      · rw [if_neg (by omega)]
        obtain ⟨locked, regain, stopped, reference, serving⟩ := lock_spec m palarm s
        exact ⟨_, rfl, locked, regain, stopped, reference, serving⟩
    · simp only [referencePulse, ref, (overdue_iff last m).2 late, if_true, ended]
      rfl

/-- Settles O11. -/
theorem lossExpiryLosesTheReference : Obligations.LossExpiryLosesTheReference := by
  intro palarm s t0 running ref last
  refine ⟨lossExpiry palarm s, by simp [exec, execLossExpiry, running], ?_⟩
  rw [lossExpiry_locked ref last]
  refine ⟨?_, ?_, ?_, ?_, ?_, fun noSync => ?_, ?_, ?_, fun p => ?_⟩
  · simp
  · simp
  · simp [last]
  · simp
  · simp
  · simpa using servingPulse_count (t0 + Config.expiry s.fcy.rate) palarm noSync
  · simp [PerCounter.set, PerCounter.get]
  · simp [alarm]
  · cases p <;> exact ⟨rfl, rfl⟩

end Sys2Proof.Machine
end

section
/-! PROOFS. READ TIMING and READ FRAME RECORD (R15, R136): O43. -/

namespace Sys2Proof.Machine

/-! ### Records in uniform pieces -/

/-- In a list of pieces of one length the piece at an index is found by counting. -/
theorem take_drop_flatten {α β : Type} {f : α → List β} {n : Nat} (uniform : ∀ x, (f x).length = n) :
    ∀ (l : List α) (i : Nat) (x : α), l[i]? = some x → (((l.map f).flatten).drop (n * i)).take n = f x
  | [], _, _, found => by simp at found
  | y :: rest, 0, x, found => by
    simp only [List.getElem?_cons_zero, Option.some.injEq] at found
    simp [found, List.take_left' (uniform x)]
  | y :: rest, i + 1, x, found => by
    have later := take_drop_flatten uniform rest i x (by simpa using found)
    rw [List.map_cons, List.flatten_cons, Nat.mul_succ, Nat.add_comm, ← List.drop_drop, List.drop_left' (uniform y)]
    exact later

theorem length_flatten_uniform {α β : Type} {f : α → List β} {n : Nat} (uniform : ∀ x, (f x).length = n) (l : List α) :
    ((l.map f).flatten).length = n * l.length := by
  simp [List.length_flatten, Function.comp_def, uniform, Nat.mul_comm]

/-! ### The layout of a frame record (R136) -/

theorem GaugeResult.bytes_length (g : GaugeResult) : g.bytes.length = 11 := by
  unfold GaugeResult.bytes
  cases g.values <;> rfl

/-- Bytes 0 to 17 of a record: the frame, the plan and the composition. -/
def FrameRecord.frameBytes (r : FrameRecord) : List Byte :=
  1 :: (bytes32 r.frame ++ bytes16 r.airSeq ++ bytes16 r.runId ++ bytes32 r.cursor ++
    byte r.level :: (nat16 r.cost ++ nat16 r.budget))

/-- Bytes 18 to 35 of a record: the wind, the coast and the counts. -/
def FrameRecord.windBytes (r : FrameRecord) : List Byte :=
  r.wind.status.code :: (bytes32 r.wind.t0 ++ bytes32 r.wind.t1 ++ byte r.wind.f ::
    (nat16 r.wind.arrows ++ nat16 r.coastSegments ++ nat16 r.coastPoints ++ [byte r.areaCount, byte r.gauges.length]))

/-- A record is its two fixed parts and eleven bytes for each gauge. -/
theorem FrameRecord.bytes_eq (r : FrameRecord) :
    r.bytes = r.frameBytes ++ (r.windBytes ++ (r.gauges.map GaugeResult.bytes).flatten) := by
  simp [FrameRecord.bytes, frameBytes, windBytes]

theorem FrameRecord.frameBytes_length (r : FrameRecord) : r.frameBytes.length = 18 := rfl

theorem FrameRecord.windBytes_length (r : FrameRecord) : r.windBytes.length = 18 := rfl

theorem FrameRecord.bytes_length (r : FrameRecord) : r.bytes.length = 36 + 11 * r.gauges.length := by
  rw [r.bytes_eq, List.length_append, List.length_append, r.frameBytes_length, r.windBytes_length,
    length_flatten_uniform GaugeResult.bytes_length]
  omega

theorem FrameRecord.take_bytes (r : FrameRecord) : r.bytes.take 18 = r.frameBytes := by
  rw [r.bytes_eq, List.take_left' r.frameBytes_length]

theorem FrameRecord.drop_bytes (r : FrameRecord) : (r.bytes.drop 18).take 18 = r.windBytes := by
  rw [r.bytes_eq, List.drop_left' r.frameBytes_length, List.take_left' r.windBytes_length]

theorem FrameRecord.gauge_bytes (r : FrameRecord) {i : Nat} {g : GaugeResult} (found : r.gauges[i]? = some g) :
    (r.bytes.drop (36 + 11 * i)).take 11 = g.bytes := by
  have fixed : (r.frameBytes ++ r.windBytes).length = 36 := by
    rw [List.length_append, r.frameBytes_length, r.windBytes_length]
  rw [r.bytes_eq, ← List.append_assoc, ← List.drop_drop, List.drop_left' fixed]
  exact take_drop_flatten GaugeResult.bytes_length _ _ _ found

/-- The eleven bytes of a gauge result, value by value. -/
theorem GaugeResult.bytes_eq (g : GaugeResult) : g.bytes =
    [BitVec.ofNat 8 g.slot, BitVec.ofNat 8 g.station,
      match g.status with | .live => 0#8 | .held => 1#8 | .noStation => 2#8] ++
      match g.values with
      | none => List.replicate 8 0#8
      | some v => BitVec.ofNat 8 (1 + (if v.offScale then 2 else 0) +
          4 * (match v.trend with | .slack => 0 | .rising => 1 | .falling => 2)) ::
        (bytes32 (BitVec.ofInt 32 v.height) ++ BitVec.ofNat 8 v.level :: bytes16 (BitVec.ofInt 16 v.rate)) := by
  unfold GaugeResult.bytes
  cases g.status <;> cases g.values with
  | none => rfl
  | some v =>
    cases hv : v.offScale <;> cases ht : v.trend <;>
      simp [byte, bit, GaugeStatus.code, Trend.code, int32, int16, hv, ht]

/-! ### The requests -/

/-- Two flags as a byte. -/
theorem flagByte_pair (a b : Bool) :
    flagByte [a, b] = BitVec.ofNat 8 ((if a then 1 else 0) + if b then 2 else 0) := by
  cases a <;> cases b <;> rfl

/-- Settles O43: both are readings, of the cycle and of the displayed chart's record. -/
theorem timingAndTheFrameRecordAreRead : Obligations.TimingAndTheFrameRecordAreRead := by
  intro p params s ready
  refine ⟨fun wrong => ?_, fun none_given => ?_⟩
  · obtain ⟨b, rest, rfl⟩ := List.exists_cons_of_ne_nil wrong
    exact ⟨congrArg Host.Outcome.next (request_refused ready rfl), congrArg Host.Outcome.next (request_refused ready rfl)⟩
  · subst none_given
    have read : ∀ data, reqReadFrameRecord p [] (endFrame p s) = done data (endFrame p s) →
        exec (.readFrameRecord p []) s = .next (answered p 0x38#8 .done data s) :=
      fun data rule => congrArg Host.Outcome.next (request_done ready rule)
    have record : lastRecord (endFrame p s) = s.fcy.displayed.map Chart.record := by simp [lastRecord]
    refine ⟨?_, fun empty => ?_, fun chart r shown isRecord => ⟨r.bytes, ?_, r.bytes_length, r.take_bytes, ?_, ?_⟩⟩
    · refine congrArg Host.Outcome.next (request_done ready ?_)
      simp only [reqReadTiming, timingData, endFrame_keeps, flagByte_pair, decide_eq_true_eq, byte]
      cases s.fcy.ref <;> rfl
    · exact read [0] (by simp [reqReadFrameRecord, record, empty])
    · exact read r.bytes (by simp [reqReadFrameRecord, record, shown, isRecord])
    · rw [r.drop_bytes]
      unfold FrameRecord.windBytes
      cases r.wind.status <;> rfl
    · exact fun i g found => (r.gauge_bytes found).trans g.bytes_eq

end Sys2Proof.Machine
end

section
/-! PROOFS. The internal pulse: the count, the composition begun and the own report (R2, R10, R161 to R165): O7. -/

namespace Sys2Proof.Machine

/-! ### The count -/

/-- The frame number of the own report before the pulse; 0 stands for it in frame period 0 (R165; log 10). -/
theorem ownReport_frame (s : State) :
    (ownReport s).frame = match s.opr.sent with | none => 0#32 | some sent => sent.frame := by
  unfold ownReport
  cases s.opr.sent <;> rfl

/-- Count sync: a STANDBY follows its partner's frame number when it differs from its own (R165). -/
theorem nextCount_of_sync {s : State} {r : Report} (standby : s.opr.role = .standby) (held : s.opr.inHand = some r) :
    nextCount s = if r.frame = (ownReport s).frame then s.fcy.count + 1 else r.frame + 1 := by
  unfold nextCount
  rw [held]
  by_cases same : r.frame = (ownReport s).frame <;> simp [standby, same]

/-- The count of a pulse at which a STANDBY holds a report (R165). -/
theorem servingPulse_count_of_sync (t : Time) (palarm : Bool) {s : State} {r : Report}
    (standby : s.opr.role = .standby) (held : s.opr.inHand = some r) :
    (servingPulse t palarm s).fcy.count = if r.frame = (ownReport s).frame then s.fcy.count + 1 else r.frame + 1 := by
  obtain ⟨c, eq, -⟩ := servingPulse_fcy t palarm s
  have next := nextCount_of_sync (s := whenPaired partnerPresence (sampleAlarm palarm s)) (r := r)
    (by simpa using standby) (by simpa using held)
  have own : ownReport (whenPaired partnerPresence (sampleAlarm palarm s)) = ownReport s := by simp [ownReport]
  rw [own] at next
  simpa [next] using congrArg Fcy.count eq

/-! ### The composition begun -/

/-- The values handed over are those of the composition put in flight (R135). -/
theorem beginComposition_handed (s : State) :
    (beginComposition s).opr.handed = handedOf (snapshotOf s) (beginComposition s).cmp.sticky := by
  simp [beginComposition]

@[simp] theorem linkPulse_handed (s : State) : (linkPulse s).opr.handed = s.opr.handed := by
  unfold linkPulse
  simp only [State.opr_onOpr]
  split
  · rfl
  · split <;> rfl

@[simp] theorem closePeriod_handed (ended : Handed) (s : State) :
    (closePeriod ended s).opr.handed = s.opr.handed := by
  unfold closePeriod
  split <;> rfl

/-- A pulse puts the composition of the frame after its count in flight over the air plan, and hands its values over
(R10, R135). -/
theorem servingPulse_begins (t : Time) (palarm : Bool) (s : State) : ∃ c : Composition,
    (servingPulse t palarm s).fcy.inFlight = some c ∧
    c.snap.frame = (servingPulse t palarm s).fcy.count + 1 ∧ c.snap.plan = (servingPulse t palarm s).pln.air ∧
    c.stopped = false ∧ (servingPulse t palarm s).opr.handed = handedOf c.snap c.level := by
  obtain ⟨v, cycle, plans, handed⟩ : ∃ v, (servingPulse t palarm s).fcy = (beginComposition v).fcy ∧
      (servingPulse t palarm s).pln = v.pln ∧
      (servingPulse t palarm s).opr.handed = (beginComposition v).opr.handed :=
    ⟨fixLineMode (applyTakes (pairDone t palarm s).1 (pairDone t palarm s).2).1, by
      simp [servingPulse, compositionStart, pairDone, periodEnded]⟩
  obtain ⟨c, begun, snap, working, level, -⟩ := beginComposition_fcy v
  refine ⟨c, ?_, ?_, ?_, working, ?_⟩
  · rw [cycle, begun]
  · rw [cycle, begun, snap]
    rfl
  · rw [plans, snap]
    rfl
  · rw [handed, beginComposition_handed, snap, level]

/-! ### The own report -/

/-- A paired part stays paired through a pulse, and a SOLE part SOLE (R160). -/
theorem servingPulse_role (t : Time) (palarm : Bool) (s : State) :
    (servingPulse t palarm s).opr.role = .sole ↔ s.opr.role = .sole := by
  have before : (periodEnded t palarm s).opr.role = s.opr.role := by simp [periodEnded]
  rw [(servingPulse_pair t palarm s).1, pairDone, pairChanges]
  split
  · next isPaired =>
    have role : (periodEnded t palarm s).opr.role ≠ .sole := by simpa [paired] using isPaired
    rw [← before]
    exact ⟨fun sole => absurd sole (roleChanges_role _ role), fun sole => absurd sole role⟩
  · rw [before]

/-- The end of a period on a paired part: the report in hand is cleared and the own report sent, with what stands after it
(R162, R163). -/
theorem closePeriod_paired (ended : Handed) {s : State} (isPaired : paired s = true) :
    (closePeriod ended s).opr.inHand = none ∧ (closePeriod ended s).opr.mains = [] ∧
    (closePeriod ended s).opr.sent = some (reportFor ended (closePeriod ended s)) := by
  rw [closePeriod, if_pos isPaired]
  exact ⟨rfl, rfl, rfl⟩

@[simp] theorem comparison_sent (s : State) : (whenPaired stepComparison s).opr.sent = s.opr.sent := by
  unfold whenPaired
  split <;> simp

/-- A pulse ends by closing the period, in a state that still holds the report sent last. -/
theorem servingPulse_closes (t : Time) (palarm : Bool) (s : State) : ∃ v,
    servingPulse t palarm s = closePeriod s.opr.handed v ∧ v.opr.sent = s.opr.sent :=
  ⟨_, rfl, by simp [compositionStart]⟩

/-- A paired part's pulse clears the report in hand and sends the report for the composition it ends. -/
theorem servingPulse_report (t : Time) (palarm : Bool) {s : State} (role : s.opr.role ≠ .sole) :
    (servingPulse t palarm s).opr.inHand = none ∧ (servingPulse t palarm s).opr.mains = [] ∧
    (servingPulse t palarm s).opr.sent = some (reportFor s.opr.handed (servingPulse t palarm s)) := by
  have after := mt (servingPulse_role t palarm s).mp role
  obtain ⟨v, eq, -⟩ := servingPulse_closes t palarm s
  rw [eq] at after ⊢
  exact closePeriod_paired _ (by simpa [paired] using after)

/-- A SOLE part sends no report (R160). -/
theorem servingPulse_sent_of_sole (t : Time) (palarm : Bool) {s : State} (role : s.opr.role = .sole) :
    (servingPulse t palarm s).opr.sent = s.opr.sent := by
  have after := (servingPulse_role t palarm s).mpr role
  obtain ⟨v, eq, sent⟩ := servingPulse_closes t palarm s
  rw [eq] at after ⊢
  rw [closePeriod, if_neg (by simpa [paired] using after), sent]

/-- The swap word of each stage of the record (R168, R169). -/
theorem swapWord_of_record {u : State} {n : Negotiation} (record : u.opr.negotiation = some n) :
    (n.stage = .requesting → reached (n.lineFrame - 1) u.fcy.count = false → swapWord u = (.request, n.lineFrame)) ∧
    (n.stage = .offering → swapWord u = (.offer, n.lineFrame)) ∧
    (n.stage = .released → u.opr.role = .main → swapWord u = (.release, n.lineFrame)) ∧
    ((n.stage = .released ∧ u.opr.role = .handingOver ∨ n.stage = .waiting ∨ n.stage = .withdrawn ∨
      n.stage = .releaseReceived) → swapWord u = (.none, 0#32)) := by
  unfold swapWord
  rw [record]
  refine ⟨fun stage before => ?_, fun stage => ?_, fun stage role => ?_, ?_⟩
  · simp only [stage, before, Bool.false_eq_true, if_false]
  · simp [stage]
  · simp [stage, role]
  · rintro (⟨stage, role⟩ | stage | stage | stage)
    · simp [stage, role]
    all_goals simp [stage]

/-- The own report of a paired part's pulse shows what stands after the pulse (R161, R162, R168, R169). -/
theorem report_spec (ended : Handed) {u : State} {rep : Report} (sent : rep = reportFor ended u) :
    rep.frame = ended.frame ∧ rep.airSeq = ended.airSeq ∧ rep.runId = ended.runId ∧
    rep.cursor = ended.cursor ∧ rep.level = BitVec.ofNat 8 ended.level ∧ rep.alarm = alarm u ∧
    (u.opr.role = .main → rep.role = .main) ∧ (u.opr.role = .standby → rep.role = .standby) ∧
    (u.opr.role = .handingOver → rep.role = .handingOver) ∧
    (u.opr.negotiation = none → rep.swap = .none ∧ rep.lineFrame = 0#32) ∧
    ∀ n, u.opr.negotiation = some n →
      (n.stage = .requesting → reached (n.lineFrame - 1) u.fcy.count = false →
        rep.swap = .request ∧ rep.lineFrame = n.lineFrame) ∧
      (n.stage = .offering → rep.swap = .offer ∧ rep.lineFrame = n.lineFrame) ∧
      (n.stage = .released → u.opr.role = .main → rep.swap = .release ∧ rep.lineFrame = n.lineFrame) ∧
      ((n.stage = .released ∧ u.opr.role = .handingOver ∨ n.stage = .waiting ∨ n.stage = .withdrawn ∨
          n.stage = .releaseReceived) → rep.swap = .none ∧ rep.lineFrame = 0#32) := by
  have word : ∀ {w f}, swapWord u = (w, f) → rep.swap = w ∧ rep.lineFrame = f := by
    intro w f eq
    rw [sent]
    exact ⟨congrArg Prod.fst eq, congrArg Prod.snd eq⟩
  have role : rep.role = u.opr.role.reported := by rw [sent]; rfl
  refine ⟨by rw [sent]; rfl, by rw [sent]; rfl, by rw [sent]; rfl, by rw [sent]; rfl, by rw [sent]; rfl,
    by rw [sent]; rfl, ?_, ?_, ?_, ?_, fun n record => ?_⟩
  · intro now; rw [role, now]; rfl
  · intro now; rw [role, now]; rfl
  · intro now; rw [role, now]; rfl
  · intro none_open; exact word (by rw [swapWord, none_open])
  · obtain ⟨requesting, offering, released, silent⟩ := swapWord_of_record record
    exact ⟨fun stage before => word (requesting stage before), fun stage => word (offering stage),
      fun stage role => word (released stage role), fun stages => word (silent stages)⟩

/-- The internal pulse of a running part with its timer due serves on the part with the timer set one nominal period on
(R4, R7, R8). -/
theorem exec_internalPulse {s : State} {t : Time} (running : s.power = .running) (due : s.fcy.timer = some t)
    (palarm : Bool) : ∃ v, v = { s with fcy := { s.fcy with timer := some (t + Config.nominal s.fcy.rate) } } ∧
      exec (.internalPulse palarm) s = .next (servingPulse t palarm v) :=
  ⟨_, rfl, by simp [exec, execInternalPulse, running, internalPulse, due, State.onFcy]⟩

/-- Settles O7: the cycle, the composition begun and the own report are the lemmas above, on the state with the timer set one
nominal period on. -/
theorem internalPulseServesAndRestartsTheTimer : Obligations.InternalPulseServesAndRestartsTheTimer := by
  intro palarm s t running due
  obtain ⟨v, isV, eq⟩ := exec_internalPulse running due palarm
  have pair : v.opr = s.opr := by rw [isV]
  have count : v.fcy.count = s.fcy.count := by rw [isV]
  obtain ⟨ref, regain, last, timer, rate, serving⟩ := servingPulse_leaves_cycle t palarm v
  rw [← pair, ← count]
  refine ⟨servingPulse t palarm v, eq, servingPulse_count t palarm, fun r own standby held isOwn => ?_, serving,
    by rw [timer, isV], by rw [rate, isV], by rw [ref, isV], by rw [regain, isV], by rw [last, isV],
    ?_, servingPulse_sent_of_sole t palarm, fun isPaired => ?_⟩
  · have own_eq : own = (ownReport v).frame := isOwn.trans (ownReport_frame v).symm
    rw [own_eq]
    exact servingPulse_count_of_sync t palarm standby held
  · exact servingPulse_begins t palarm v
  · obtain ⟨hand, mains, sent⟩ := servingPulse_report t palarm isPaired
    exact ⟨hand, mains, _, sent, report_spec v.opr.handed rfl⟩

end Sys2Proof.Machine
end

section
/-! PROOFS. What a serving pulse shows, abandons and leaves (R12, R13, R159): the first half of O8. -/

namespace Sys2Proof.Machine

/-! ### The pair unit: role and record alone change at a role change -/

/-- Of the pair unit only the role and the negotiation record differ. -/
def OnlyRoleAndRecord (s t : State) : Prop :=
  ∃ role record, t.opr = { s.opr with role := role, negotiation := record }

namespace OnlyRoleAndRecord

theorem of_same {s t : State} (h : t.opr = s.opr) : OnlyRoleAndRecord s t := ⟨_, _, h⟩

theorem trans {s t u : State} (h : OnlyRoleAndRecord s t) (k : OnlyRoleAndRecord t u) : OnlyRoleAndRecord s u := by
  obtain ⟨_, _, eq⟩ := h
  obtain ⟨role, record, eq'⟩ := k
  exact ⟨role, record, by rw [eq', eq]⟩

theorem setRole (r : Role) (s : State) : OnlyRoleAndRecord s (setRole r s) := ⟨r, _, rfl⟩

theorem setNegotiation (n : Option Negotiation) (s : State) : OnlyRoleAndRecord s (setNegotiation n s) := ⟨_, n, rfl⟩

theorem endNegotiation (status : TakeStatus) (s : State) : OnlyRoleAndRecord s (endNegotiation status s) := by
  unfold Machine.endNegotiation
  split
  · exact of_same rfl
  · exact ⟨s.opr.role, none, by simp [Machine.setNegotiation]⟩

theorem forceRole (r : Role) (s : State) : OnlyRoleAndRecord s (forceRole r s) :=
  ((setRole r s).trans (endNegotiation .swapFailed _)).trans (of_same (by simp [Machine.forceRole]))

/-- A role change inside the negotiation, with FAULT when it began as an automatic one. -/
theorem changeRole (n : Negotiation) (r : Role) (s : State) :
    OnlyRoleAndRecord s (faultIfAutomatic n (Machine.setRole r s)) :=
  (setRole r s).trans (of_same (by simp))

theorem doStage (k : Nat) (n : Negotiation) (s : State) : OnlyRoleAndRecord s (doStage k n s).1 := by
  have stands : OnlyRoleAndRecord s s := of_same rfl
  unfold Machine.doStage
  split
  · unfold mainCommit
    split
    · exact setNegotiation _ s
    · exact endNegotiation _ s
  · unfold mainHandOver
    split
    · exact changeRole n _ s
    · exact stands
  · unfold mainSettle
    split
    · exact stands
    · split
      · exact (changeRole n _ s).trans (endNegotiation _ _)
      · exact (changeRole n _ s).trans (endNegotiation _ _)
  · exact stands
  · unfold standbyAtMinus2
    split
    · exact endNegotiation _ s
    · exact stands
  · unfold standbyAtMinus1
    split
    · exact stands
    · exact setNegotiation _ s
  · unfold standbyTake
    split
    · exact (changeRole n _ s).trans (endNegotiation _ _)
    · exact endNegotiation _ s
  · exact stands

theorem stageStep (acc : State × Nat) (k : Nat) : OnlyRoleAndRecord acc.1 (stageStep acc k).1 := by
  unfold Machine.stageStep
  split
  · exact of_same rfl
  · split
    · exact (setNegotiation _ _).trans (doStage k _ _)
    · exact of_same rfl

theorem negotiationStages (s : State) : OnlyRoleAndRecord s (negotiationStages s).1 := by
  have checked : OnlyRoleAndRecord s (standbyCheck s) := by
    unfold standbyCheck
    split
    · exact of_same rfl
    · split
      · exact setNegotiation _ s
      · exact of_same rfl
  simp only [Machine.negotiationStages, List.foldl_cons, List.foldl_nil]
  exact (((checked.trans (stageStep _ 0)).trans (stageStep _ 1)).trans (stageStep _ 2)).trans (stageStep _ 3)

theorem roleChanges (before : Word32) (s : State) : OnlyRoleAndRecord s (roleChanges before s).1 := by
  have auto : ∀ u, OnlyRoleAndRecord u (autoNegotiate u) := by
    intro u
    unfold autoNegotiate
    split
    · exact setNegotiation _ u
    · exact of_same rfl
  have takeover : ∀ u, OnlyRoleAndRecord u (forcedTakeover u) := by
    intro u
    unfold forcedTakeover
    split
    · exact forceRole _ u
    · exact of_same rfl
  have release : ∀ u, OnlyRoleAndRecord u (selfRelease u) := by
    intro u
    unfold selfRelease
    split
    · exact forceRole _ u
    · exact of_same rfl
  have contends : ∀ u, OnlyRoleAndRecord u (contention before u) := by
    intro u
    unfold contention
    split
    · exact forceRole _ u
    · exact of_same rfl
  exact ((((negotiationStages s).trans (auto _)).trans (takeover _)).trans (release _)).trans (contends _)

theorem pairChanges (before : Word32) (s : State) : OnlyRoleAndRecord s (pairChanges before s).1 := by
  unfold Machine.pairChanges
  split
  · exact roleChanges before s
  · exact of_same rfl

end OnlyRoleAndRecord

/-! ### The line modes through a pulse (R86, R159) -/

/-- The presence test leaves the line modes. -/
@[simp] theorem presence_nextLineMode (s : State) :
    (whenPaired partnerPresence s).opr.nextLineMode = s.opr.nextLineMode := by
  have lost : ∀ u : State, (losePartner u).opr.nextLineMode = u.opr.nextLineMode := by
    intro u
    unfold losePartner
    simp only [raiseFault_keeps, leaveStep_opr, State.opr_onOpr]
    split <;> rfl
  refine whenPaired_of (P := fun t => t.opr.nextLineMode = s.opr.nextLineMode) ?_ rfl
  obtain ⟨count, -, eq⟩ := partnerPresence_eq s
  rw [eq]
  split
  · split
    · exact lost _
    · rfl
  · rfl

/-- The step comparison leaves the line modes. -/
@[simp] theorem comparison_frameLineMode (s : State) :
    (whenPaired stepComparison s).opr.frameLineMode = s.opr.frameLineMode := by
  refine whenPaired_of (P := fun t => t.opr.frameLineMode = s.opr.frameLineMode) ?_ rfl
  unfold stepComparison
  split
  · rfl
  · split
    · unfold matchStep
      simp only []
      split
      · simp
      · rfl
    · unfold mismatchStep
      simp only []
      split
      · rw [leaveStep_opr]
        rfl
      · rfl

@[simp] theorem pairChanges_frameLineMode (before : Word32) (s : State) :
    (pairChanges before s).1.opr.frameLineMode = s.opr.frameLineMode := by
  obtain ⟨role, record, eq⟩ := OnlyRoleAndRecord.pairChanges before s
  rw [eq]

/-- A deal of the first pass writes the line mode of the pair unit at most. -/
theorem applyEntry_opr (acc : State × Nat) (e : TakeEntry) :
    ∃ mode, (applyEntry acc e).1.opr = { acc.1.opr with lineMode := mode } := by
  unfold applyEntry
  simp only []
  split
  · split
    · split
      · exact ⟨acc.1.opr.lineMode, by simp⟩
      · exact ⟨acc.1.opr.lineMode, by simp⟩
    · split
      · exact ⟨acc.1.opr.lineMode, by simp⟩
      · exact ⟨acc.1.opr.lineMode, by simp⟩
  · exact ⟨acc.1.opr.lineMode, by simp⟩
  · split
    · exact ⟨acc.1.opr.lineMode, by simp⟩
    · exact ⟨acc.1.opr.lineMode, by simp⟩
  · next mode _ => exact ⟨mode, by simp⟩
  · exact ⟨acc.1.opr.lineMode, rfl⟩

/-- The take engine's passes write the line mode of the pair unit at most. -/
theorem applyTakes_opr (s : State) (n : Nat) :
    ∃ mode, (applyTakes s n).1.opr = { s.opr with lineMode := mode } := by
  have kept : ∀ acc e, (∃ mode, acc.1.opr = { s.opr with lineMode := mode }) →
      ∃ mode, (applyEntry acc e).1.opr = { s.opr with lineMode := mode } := by
    rintro acc e ⟨mode, eq⟩
    obtain ⟨mode', eq'⟩ := applyEntry_opr acc e
    exact ⟨mode', by rw [eq', eq]⟩
  simpa [applyTakes] using
    foldl_applyEntry (P := fun t => ∃ mode, t.opr = { s.opr with lineMode := mode }) kept (dueEntries s) (s, n) ⟨_, rfl⟩

@[simp] theorem applyTakes_frameLineMode (s : State) (n : Nat) :
    (applyTakes s n).1.opr.frameLineMode = s.opr.frameLineMode := by
  obtain ⟨mode, eq⟩ := applyTakes_opr s n
  rw [eq]

/-- A composition start leaves the line modes fixed before it. -/
@[simp] theorem beginComposition_lineModes (s : State) :
    (beginComposition s).opr.frameLineMode = s.opr.frameLineMode ∧
    (beginComposition s).opr.nextLineMode = s.opr.nextLineMode := by
  simp [beginComposition]

/-- The line mode is fixed for the frame beginning (R159). -/
@[simp] theorem fixLineMode_lineModes (s : State) : (fixLineMode s).opr.frameLineMode = s.opr.frameLineMode ∧
    (fixLineMode s).opr.nextLineMode = s.opr.lineMode := ⟨rfl, rfl⟩

/-- The frame line mode of a period is the one fixed before it (R159). -/
@[simp] theorem advance_frameLineMode (t : Time) (count : Word32) (s : State) :
    (advance t count s).opr.frameLineMode = s.opr.nextLineMode := rfl

/-- The rest of a pulse leaves the three line modes. -/
@[simp] theorem linkPulse_lineModes (s : State) : (linkPulse s).opr.frameLineMode = s.opr.frameLineMode ∧
    (linkPulse s).opr.nextLineMode = s.opr.nextLineMode := by
  unfold linkPulse
  simp only [State.opr_onOpr]
  split
  · exact ⟨rfl, rfl⟩
  · split <;> exact ⟨rfl, rfl⟩

@[simp] theorem closePeriod_lineModes (ended : Handed) (s : State) :
    (closePeriod ended s).opr.frameLineMode = s.opr.frameLineMode ∧
    (closePeriod ended s).opr.nextLineMode = s.opr.nextLineMode := by
  unfold closePeriod
  split <;> exact ⟨rfl, rfl⟩

/-- The mode fixed before governs the period begun, and the line mode is fixed for the next (R159). -/
theorem servingPulse_lineModes (t : Time) (palarm : Bool) (s : State) :
    (servingPulse t palarm s).opr.frameLineMode = s.opr.nextLineMode ∧
    (servingPulse t palarm s).opr.nextLineMode = (servingPulse t palarm s).opr.lineMode := by
  simp [servingPulse, compositionStart]

/-! ### What a pulse counts and shows -/

/-- An abandoned composition is counted (R13). -/
theorem abandon_lateFrames (s : State) : (abandon s).cnu.counters.lateFrames =
    if s.fcy.inFlight.isSome then min 65535 (s.cnu.counters.lateFrames + 1) else s.cnu.counters.lateFrames := by
  unfold abandon
  cases flight : s.fcy.inFlight with
  | none => rfl
  | some c => simp [PerCounter.set, PerCounter.get]

/-- A display leaves the composition in flight. -/
theorem display_inFlight (s : State) : (display s).fcy.inFlight = s.fcy.inFlight := by
  unfold display
  split <;> rfl

/-- LATE FRAMES counts the pulses that abandon (R13). -/
theorem servingPulse_lateFrames (t : Time) (palarm : Bool) (s : State) :
    (servingPulse t palarm s).cnu.counters.lateFrames =
      if s.fcy.inFlight.isSome then min 65535 (s.cnu.counters.lateFrames + 1) else s.cnu.counters.lateFrames := by
  have flight : ∀ count u, (display (advance t count u)).fcy.inFlight = u.fcy.inFlight :=
    fun count u => display_inFlight _
  simp [servingPulse, compositionStart, abandon_lateFrames, flight]

/-! ### What a pulse leaves of the ingest unit and of the plans -/

/-- Flow control leaves the levels, the enable and the loader's record. -/
theorem flowControl_settings (i : Ing) : (flowControl i).halt = i.halt ∧ (flowControl i).resume = i.resume ∧
    (flowControl i).inBand = i.inBand ∧ (flowControl i).lastError = i.lastError := by
  have made : ∀ y (j : Ing), (symbolIfEnabled y j).halt = j.halt ∧ (symbolIfEnabled y j).resume = j.resume ∧
      (symbolIfEnabled y j).inBand = j.inBand ∧ (symbolIfEnabled y j).lastError = j.lastError := by
    intro y j
    unfold symbolIfEnabled makeSymbol
    split
    · split <;> exact ⟨rfl, rfl, rfl, rfl⟩
    · exact ⟨rfl, rfl, rfl, rfl⟩
  unfold flowControl
  split
  · exact made _ _
  · split
    · exact made _ _
    · exact ⟨rfl, rfl, rfl, rfl⟩

/-- The gap count of a pulse leaves them too (R145). -/
@[simp] theorem gapPulse_settings (s : State) : (gapPulse s).ing.halt = s.ing.halt ∧
    (gapPulse s).ing.resume = s.ing.resume ∧ (gapPulse s).ing.inBand = s.ing.inBand ∧
    (gapPulse s).ing.lastError = s.ing.lastError := by
  unfold gapPulse
  split
  · exact ⟨rfl, rfl, rfl, rfl⟩
  · split
    · unfold offerUnit
      split
      · exact flowControl_settings _
      · simp [hunt]
    · exact ⟨rfl, rfl, rfl, rfl⟩

theorem servingPulse_settings (t : Time) (palarm : Bool) (s : State) :
    (servingPulse t palarm s).ing.halt = s.ing.halt ∧ (servingPulse t palarm s).ing.resume = s.ing.resume ∧
    (servingPulse t palarm s).ing.inBand = s.ing.inBand ∧
    (servingPulse t palarm s).ing.lastError = s.ing.lastError := by
  simp [servingPulse, compositionStart]

/-- Of the plans only the air plan differs. -/
def OnlyAirPlan (l l' : Pln) : Prop := ∃ air, l' = { l with air := air }

/-- A sweep's step writes the air plan (R82). -/
theorem takeStep_pln (e : TakeEntry) (r : SweepRecord) (status : TakeStatus) (applied : Word32) (s : State) :
    (takeStep e r status applied s).pln = { s.pln with air := writeStep r s.pln.air } := by
  unfold takeStep
  simp only []
  split <;> simp [onAirPlan]

/-- A deal of the first pass writes the air plan at most. -/
theorem applyEntry_pln (acc : State × Nat) (e : TakeEntry) : OnlyAirPlan acc.1.pln (applyEntry acc e).1.pln := by
  have stands : ∀ {l}, l = acc.1.pln → OnlyAirPlan acc.1.pln l := fun eq => ⟨_, eq⟩
  unfold applyEntry
  simp only []
  split
  · split
    · split
      · exact stands (by simp)
      · exact stands (by simp)
    · split
      · exact ⟨publishCut acc.1.pln.draft acc.1.pln.air, by simp [applyCut, onAirPlan]⟩
      · exact ⟨_, by simp only [applySwept, takeStep_pln, onAirPlan, State.pln_onPln, supersede_keeps]; rfl⟩
  · exact ⟨_, by simp only [applySweep, takeStep_pln, supersede_keeps]; rfl⟩
  · split
    · exact stands (by simp)
    · exact stands (by simp)
  · exact stands (by simp)
  · exact stands rfl

theorem stepSweep_pln (before : Option TakeEntry) (s : State) : OnlyAirPlan s.pln (stepSweep before s).pln := by
  have stands : OnlyAirPlan s.pln s.pln := ⟨_, rfl⟩
  unfold stepSweep
  split
  · exact stands
  · split
    · exact stands
    · split
      · exact ⟨_, takeStep_pln _ _ _ _ s⟩
      all_goals exact stands

/-- The take engine's passes leave the draft, the hold and the lock. -/
theorem applyTakes_pln (s : State) (n : Nat) : OnlyAirPlan s.pln (applyTakes s n).1.pln := by
  have trans : ∀ {l m k : Pln}, OnlyAirPlan l m → OnlyAirPlan m k → OnlyAirPlan l k := by
    rintro l m k ⟨_, rfl⟩ ⟨air, rfl⟩
    exact ⟨air, rfl⟩
  exact trans (foldl_applyEntry (P := fun t => OnlyAirPlan s.pln t.pln)
    (fun acc e h => trans h (applyEntry_pln acc e)) (dueEntries s) (s, n) ⟨_, rfl⟩) (stepSweep_pln _ _)

theorem servingPulse_pln (t : Time) (palarm : Bool) (s : State) :
    (servingPulse t palarm s).pln = { s.pln with air := (servingPulse t palarm s).pln.air } := by
  have before : (pairDone t palarm s).1.pln = s.pln := by simp [pairDone, periodEnded]
  obtain ⟨air, eq⟩ := applyTakes_pln (pairDone t palarm s).1 (pairDone t palarm s).2
  rw [(servingPulse_takes t palarm s _ rfl).1, eq, before]

end Sys2Proof.Machine
end

section
/-! PROOFS. The take engine at the pulse of a SOLE part (R77, R79 to R86, R92), and O8. -/

namespace Sys2Proof.Machine

/-! ### Rules of the take operations -/

theorem tsCodeOf_eq (flushed : Bool) (n : Nat) : tsCodeOf flushed n = tsFor flushed n := by
  unfold tsCodeOf tsFor
  rcases n with _ | _ | n <;> simp

@[simp] theorem completeTake_flushMark (e : TakeEntry) (status : TakeStatus) (applied : Word32) (s : State) :
    (completeTake e status applied s).tke.flushMark = s.tke.flushMark := rfl

@[simp] theorem takeStep_flushMark (e : TakeEntry) (r : SweepRecord) (status : TakeStatus) (applied : Word32)
    (s : State) : (takeStep e r status applied s).tke.flushMark = s.tke.flushMark := by
  unfold takeStep
  simp only []
  split <;> rfl

@[simp] theorem stepSweep_flushMark (before : Option TakeEntry) (s : State) :
    (stepSweep before s).tke.flushMark = s.tke.flushMark := by
  unfold stepSweep
  split
  · rfl
  · split
    · rfl
    · split
      · exact takeStep_flushMark _ _ _ _ s
      all_goals rfl

/-- A completed take has left the queue. -/
theorem completeTake_queue (e : TakeEntry) (status : TakeStatus) (applied : Word32) (s : State) :
    (completeTake e status applied s).tke.queue = s.tke.queue.filter fun x => !sameTake e x := rfl

/-- A completion record stays in its list when another is made. -/
theorem mem_completions_completeTake {s : State} {p : Port} {c : Completion} (h : c ∈ s.tke.completions.get p)
    (e : TakeEntry) (status : TakeStatus) (applied : Word32) :
    c ∈ (completeTake e status applied s).tke.completions.get p := by
  show c ∈ (s.tke.completions.set e.port _).get p
  rw [PerPort.get_set]
  split
  · next same =>
    subst same
    exact List.mem_append_left _ h
  · exact h

/-- A take that completes has finished (R76, R88). -/
theorem completeTake_finished (e : TakeEntry) (status : TakeStatus) (applied : Word32) (s : State) :
    Finished e status applied (completeTake e status applied s) := by
  refine ⟨fun x hx => ?_, ?_⟩
  · rw [completeTake_queue, List.mem_filter] at hx
    simpa using hx.2
  · show _ ∈ (s.tke.completions.set e.port _).get e.port
    rw [PerPort.get_set_same]
    exact List.mem_append_right _ (List.mem_singleton_self _)

/-- What has finished stays so under an operation that lets no entry in and drops no record. -/
theorem Finished.of_shrink {e : TakeEntry} {status : TakeStatus} {applied : Word32} {s u : State}
    (h : Finished e status applied s) (queue : ∀ x ∈ u.tke.queue, ∃ y ∈ s.tke.queue, sameTake e x = sameTake e y)
    (records : ∀ p c, c ∈ s.tke.completions.get p → c ∈ u.tke.completions.get p) : Finished e status applied u := by
  refine ⟨fun x hx => ?_, records _ _ h.2⟩
  obtain ⟨y, hy, same⟩ := queue x hx
  rw [same]
  exact h.1 y hy

theorem Finished.completeTake {e : TakeEntry} {status : TakeStatus} {applied : Word32} {s : State}
    (h : Finished e status applied s) (x : TakeEntry) (status' : TakeStatus) (applied' : Word32) :
    Finished e status applied (completeTake x status' applied' s) := by
  refine h.of_shrink (fun y hy => ⟨y, ?_, rfl⟩) (fun p c hc => mem_completions_completeTake hc _ _ _)
  rw [completeTake_queue] at hy
  exact List.mem_of_mem_filter hy

/-- A sweep's step lets no entry in and drops no record. -/
theorem takeStep_shrink (e : TakeEntry) (r : SweepRecord) (status : TakeStatus) (applied : Word32) (s : State) :
    (∀ a, ∀ x ∈ (takeStep e r status applied s).tke.queue, ∃ y ∈ s.tke.queue, sameTake a x = sameTake a y) ∧
    ∀ p c, c ∈ s.tke.completions.get p → c ∈ (takeStep e r status applied s).tke.completions.get p := by
  unfold takeStep
  simp only []
  split
  · refine ⟨fun a x hx => ⟨x, ?_, rfl⟩, fun p c hc => mem_completions_completeTake (by simpa using hc) _ _ _⟩
    rw [completeTake_queue] at hx
    simpa using List.mem_of_mem_filter hx
  · refine ⟨fun a x hx => ?_, fun p c hc => hc⟩
    obtain ⟨y, hy, rfl⟩ := List.mem_map.mp hx
    refine ⟨y, hy, ?_⟩
    split <;> rfl

theorem Finished.stepSweep {e : TakeEntry} {status : TakeStatus} {applied : Word32} {s : State}
    (h : Finished e status applied s) (before : Option TakeEntry) :
    Finished e status applied (stepSweep before s) := by
  unfold Machine.stepSweep
  split
  · exact h
  · split
    · exact h
    · split
      · obtain ⟨queue, records⟩ := takeStep_shrink _ _ _ _ s
        exact h.of_shrink (queue e) records
      all_goals exact h

/-! ### Sweeps -/

/-- After a step in a queue whose only SWEEPING entry is its own, the entry sweeps on or has completed (R79, R81, R83). -/
theorem takeStep_swept {e : TakeEntry} {r : SweepRecord} {s w : State} (status : TakeStatus) (applied : Word32)
    (queue : w.tke.queue = s.tke.queue.filter fun x => sameTake e x || !isSweeping x) :
    Swept e r status applied s (takeStep e r status applied w) := by
  unfold takeStep
  simp only []
  refine ⟨fun more => ?_, fun last => ?_⟩
  · rw [if_neg (by omega)]
    show setEntryState e.port e.tag _ w.tke.queue = _
    rw [queue]
    rfl
  · rw [if_pos (by omega)]
    refine ⟨?_, completeTake_finished _ _ _ _⟩
    rw [completeTake_queue, onAirPlan_keeps .. |>.2.2.2.2.2.1, queue, List.filter_filter]
    congr 1
    funext x
    cases sameTake e x <;> simp

/-- The claims about entries read the queue and the completion lists alone. -/
theorem Finished.of_same {e : TakeEntry} {status : TakeStatus} {applied : Word32} {w u : State}
    (h : Finished e status applied w) (queue : u.tke.queue = w.tke.queue)
    (records : u.tke.completions = w.tke.completions) : Finished e status applied u := by
  unfold Finished
  rw [queue, records]
  exact h

theorem Swept.of_same {e : TakeEntry} {r : SweepRecord} {status : TakeStatus} {applied : Word32} {s w u : State}
    (h : Swept e r status applied s w) (queue : u.tke.queue = w.tke.queue)
    (records : u.tke.completions = w.tke.completions) : Swept e r status applied s u :=
  ⟨fun more => by rw [queue]; exact h.1 more,
    fun last => ⟨by rw [queue]; exact (h.2 last).1, (h.2 last).2.of_same queue records⟩⟩

/-- The SWEEPING entry of a lawful queue is the one that is found. -/
theorem find_sweeping {t : Tke} (law : TakeLaw t) {x : TakeEntry} (hx : x ∈ t.queue) (sweeps : isSweeping x = true) :
    t.queue.find? isSweeping = some x := by
  cases found : t.queue.find? isSweeping with
  | none => exact absurd sweeps (by simpa using List.find?_eq_none.mp found x hx)
  | some y => rw [sweeping_unique law (List.mem_of_find?_eq_some found) hx (List.find?_some found) sweeps]

/-- An entry of a lawful queue is found by its port and tag. -/
theorem findEntry_of_mem {t : Tke} (law : TakeLaw t) {x : TakeEntry} (hx : x ∈ t.queue) :
    findEntry x.port x.tag t.queue = some x := by
  unfold findEntry
  cases found : t.queue.find? fun e => decide (e.port = x.port) && decide (e.tag = x.tag) with
  | none => exact absurd (List.find?_eq_none.mp found x hx) (by simp)
  | some y =>
    rw [take_unique law (List.mem_of_find?_eq_some found) hx]
    have named := List.find?_some found
    simp only [Bool.and_eq_true, decide_eq_true_eq] at named
    simp [sameTake, named]

/-- A superseded sweep is not stepped again: its entry is gone (R77, R84). -/
theorem stepSweep_of_superseded {t : Tke} (law : TakeLaw t) {s w : State}
    (rest : ∀ y ∈ s.tke.queue, y ∈ t.queue ∧ isSweeping y = false)
    (shrunk : ∀ a, ∀ x ∈ w.tke.queue, ∃ y ∈ s.tke.queue, sameTake a x = sameTake a y) :
    stepSweep (t.queue.find? isSweeping) w = w := by
  unfold stepSweep
  split
  · rfl
  · next b found =>
    have gone : findEntry b.port b.tag w.tke.queue = none := by
      refine List.find?_eq_none.mpr fun x hx named => ?_
      obtain ⟨y, hy, same⟩ := shrunk b x hx
      obtain ⟨mem, still⟩ := rest y hy
      have isB : b = y := take_unique law (List.mem_of_find?_eq_some found) mem (same ▸ named)
      have sweeps := List.find?_some found
      rw [isB, still] at sweeps
      cases sweeps
    rw [gone]

/-! ### The passes of a SOLE part's pulse -/

/-- The take engine's passes at the internal pulse of a SOLE part in s run in a state v, and u stands after the pulse
(R77, R92). -/
structure TakesRun (s v u : State) : Prop where
  count : v.fcy.count + 1 = s.fcy.count + 2
  tke : v.tke = s.tke
  pln : v.pln = s.pln
  fsw : v.fsw = s.fsw
  lineMode : v.opr.lineMode = s.opr.lineMode
  plnAfter : u.pln = (applyTakes v 0).1.pln
  fswAfter : u.fsw = (applyTakes v 0).1.fsw
  lineModeAfter : u.opr.lineMode = (applyTakes v 0).1.opr.lineMode
  tkeAfter : u.tke = { (applyTakes v 0).1.tke with
    ts := tsCodeOf (applyTakes v 0).1.tke.flushMark (applyTakes v 0).2, flushMark := false }

/-- Every internal pulse of a SOLE part is such a run. -/
theorem exists_takesRun {s : State} {t : Time} (h : SolePulse s t) (palarm : Bool) :
    ∃ v u, exec (.internalPulse palarm) s = .next u ∧ TakesRun s v u := by
  obtain ⟨v, count, tke, pln, fsw, lineMode, u, eq, after⟩ := solePulse_takes h palarm
  obtain ⟨plnAfter, fswAfter, lineModeAfter, tkeAfter⟩ := after _ rfl
  exact ⟨v, u, eq, by rw [count]; bv_omega, tke, pln, fsw, lineMode, plnAfter, fswAfter, lineModeAfter, tkeAfter⟩

namespace TakesRun

variable {s v u : State}

/-- The passes, from the entries due (R77). -/
theorem passes (run : TakesRun s v u) : applyTakes v 0 =
    (stepSweep (s.tke.queue.find? isSweeping) ((dueNext s).foldl applyEntry (v, 0)).1,
      ((dueNext s).foldl applyEntry (v, 0)).2) := by
  have due : dueEntries v = dueNext s := dueEntries_eq run.tke (by
    have := run.count
    bv_omega)
  rw [applyTakes, due, run.tke]

/-- The TS code counts the takes applied (R92). -/
theorem ts (run : TakesRun s v u) (kept : (applyTakes v 0).1.tke.flushMark = s.tke.flushMark) :
    u.tke.ts = tsFor s.tke.flushMark (applyTakes v 0).2 := by
  rw [run.tkeAfter, ← kept]
  exact tsCodeOf_eq _ _

theorem queueAfter (run : TakesRun s v u) : u.tke.queue = (applyTakes v 0).1.tke.queue := by rw [run.tkeAfter]

theorem completionsAfter (run : TakesRun s v u) : u.tke.completions = (applyTakes v 0).1.tke.completions := by
  rw [run.tkeAfter]

/-- What has finished in the passes has finished after the pulse. -/
theorem finished (run : TakesRun s v u) {e : TakeEntry} {status : TakeStatus} {applied : Word32}
    (h : Finished e status applied (applyTakes v 0).1) : Finished e status applied u :=
  h.of_same run.queueAfter run.completionsAfter

/-- With no entry due a running sweep is stepped and nothing is applied (R82, R83). -/
theorem of_none_due (run : TakesRun s v u) (law : TakeLaw s.tke) (due : dueNext s = []) :
    u.tke.ts = tsFor s.tke.flushMark 0 ∧ u.fsw = s.fsw ∧ u.opr.lineMode = s.opr.lineMode ∧
    ((∀ x ∈ s.tke.queue, isSweeping x = false) →
      u.tke.queue = s.tke.queue ∧ u.tke.completions = s.tke.completions ∧ u.tke.log = s.tke.log ∧ u.pln = s.pln) ∧
    ∀ x ∈ s.tke.queue, ∀ r status applied next, x.state = .sweeping r status applied → r.k < r.n →
      next = { r with k := r.k + 1 } →
      u.pln = { s.pln with air := steppedAir next s.pln.air } ∧ Swept x next status applied s u := by
  have only : applyTakes v 0 = (stepSweep (s.tke.queue.find? isSweeping) v, 0) := by rw [run.passes, due]; rfl
  refine ⟨?_, ?_, ?_, fun none_sweeps => ?_, fun x hx r status applied next state more isNext => ?_⟩
  · have ts := run.ts (by rw [only, stepSweep_flushMark, run.tke])
    rwa [only] at ts
  · rw [run.fswAfter, only, ← run.fsw]
    simp
  · rw [run.lineModeAfter, only, ← run.lineMode]
    simp
  · have stands : applyTakes v 0 = (v, 0) := by
      rw [only, List.find?_eq_none.mpr fun x hx => by simp [none_sweeps x hx]]
      rfl
    rw [run.plnAfter, run.tkeAfter, stands, run.tke, run.pln]
    exact ⟨rfl, rfl, rfl, rfl⟩
  · have sweeps : isSweeping x = true := by rw [isSweeping, state]
    have step : applyTakes v 0 = (takeStep x next status applied v, 0) := by
      rw [only, find_sweeping law hx sweeps, stepSweep, run.tke, findEntry_of_mem law hx]
      simp only [state, isNext]
    have alone : v.tke.queue = s.tke.queue.filter fun y => sameTake x y || !isSweeping y := by
      rw [run.tke, List.filter_eq_self.mpr]
      intro y hy
      by_cases swept : isSweeping y = true
      · rw [sweeping_unique law hy hx swept sweeps]
        simp [sameTake]
      · simp [swept]
    refine ⟨?_, ?_⟩
    · rw [run.plnAfter, step, takeStep_pln, run.pln, writeStep_eq]
    · exact (takeStep_swept status applied alone).of_same (by rw [run.queueAfter, step])
        (by rw [run.completionsAfter, step])

/-- A due LINE sets the line mode and completes (R86). -/
theorem of_line_due (run : TakesRun s v u) {e : TakeEntry} (due : dueNext s = [e]) {mode : LineMode}
    (kind : e.kind = .line mode) :
    u.opr.lineMode = mode ∧ u.fsw = s.fsw ∧ u.tke.ts = tsFor s.tke.flushMark 1 ∧
    Finished e (lateStatus e) (s.fcy.count + 2) u := by
  have passes := run.passes
  simp only [due, List.foldl_cons, List.foldl_nil, applyEntry, kind, Nat.zero_add, run.count] at passes
  have ts := run.ts (by simp [passes, run.tke])
  refine ⟨?_, ?_, ?_, run.finished ?_⟩
  · rw [run.lineModeAfter, passes]
    simp
  · rw [run.fswAfter, passes, ← run.fsw]
    simp
  · rwa [passes] at ts
  · rw [passes]
    exact (completeTake_finished _ _ _ _).stepSweep _

/-- Of two due LINEs the later sets the line mode; both complete (R86). -/
theorem of_two_lines_due (run : TakesRun s v u) {e1 e2 : TakeEntry} (due : dueNext s = [e1, e2]) {m1 m2 : LineMode}
    (kind1 : e1.kind = .line m1) (kind2 : e2.kind = .line m2) :
    u.opr.lineMode = m2 ∧ u.tke.ts = tsFor s.tke.flushMark 2 ∧
    Finished e1 (lateStatus e1) (s.fcy.count + 2) u ∧ Finished e2 (lateStatus e2) (s.fcy.count + 2) u := by
  have passes := run.passes
  simp only [due, List.foldl_cons, List.foldl_nil, applyEntry, kind1, kind2, Nat.zero_add, run.count,
    completeTake_keeps, State.fcy_onOpr] at passes
  have ts := run.ts (by simp [passes, run.tke])
  refine ⟨?_, ?_, run.finished ?_, run.finished ?_⟩
  · rw [run.lineModeAfter, passes]
    simp
  · rwa [passes] at ts
  · rw [passes]
    have first := completeTake_finished e1 (lateStatus e1) (s.fcy.count + 2) (v.onOpr fun o => { o with lineMode := m1 })
    refine Finished.stepSweep (Finished.completeTake ?_ _ _ _) _
    exact first.of_same rfl rfl
  · rw [passes]
    exact (completeTake_finished _ _ _ _).stepSweep _

/-- A due SWEEP supersedes a running sweep and makes its first step (R81, R82, R84). -/
theorem of_sweep_due (run : TakesRun s v u) (law : TakeLaw s.tke) {e : TakeEntry} (due : dueNext s = [e]) {n : Nat}
    {target : Word32} {r : SweepRecord} (kind : e.kind = .sweep n target)
    (isFirst : r = { n := n, k := 1, cursorStart := s.pln.air.cursor, cursorTarget := target, view := none }) :
    u.pln = { s.pln with air := steppedAir r s.pln.air } ∧ Superseded s u ∧
    Swept e r (lateStatus e) (s.fcy.count + 2) s u ∧ u.tke.ts = tsFor s.tke.flushMark 1 := by
  obtain ⟨queue, plans, -, flush, records, superseded⟩ := supersede_spec (v := v) (by rw [run.tke]; exact law)
  have waits : e ∈ s.tke.queue ∧ isSweeping e = false := by
    have mem : e ∈ dueNext s := by rw [due]; exact List.mem_singleton_self e
    simp only [dueNext, List.mem_filter, Bool.and_eq_true, Bool.or_eq_true, decide_eq_true_eq] at mem
    refine ⟨mem.1, ?_⟩
    rcases mem.2.1 with state | state <;> simp [isSweeping, state]
  have alone : (supersede v).tke.queue = s.tke.queue.filter fun x => sameTake e x || !isSweeping x := by
    rw [queue, run.tke]
    apply List.filter_congr
    intro x hx
    by_cases same : sameTake e x = true
    · have isE : e = x := take_unique law waits.1 hx same
      rw [← isE]
      simp [waits.2]
    · simp [same]
  have stepped : applyTakes v 0 = (takeStep e r (lateStatus e) (s.fcy.count + 2) (supersede v), 1) := by
    have passes := run.passes
    simp only [due, List.foldl_cons, List.foldl_nil, applyEntry, kind, applySweep, Nat.zero_add, run.count, plans,
      run.pln, ← isFirst] at passes
    rw [passes, stepSweep_of_superseded law (fun y hy => ?_) (takeStep_shrink e r _ _ (supersede v)).1]
    rw [queue, run.tke] at hy
    simpa using List.mem_filter.mp hy
  have swept := takeStep_swept (r := r) (lateStatus e) (s.fcy.count + 2) alone
  have ts := run.ts (by rw [stepped, takeStep_flushMark, flush, run.tke])
  refine ⟨?_, ?_, ?_, ?_⟩
  · rw [run.plnAfter, stepped, takeStep_pln, plans, run.pln, writeStep_eq]
  · intro x hx r' status applied state
    rw [run.completionsAfter, stepped]
    exact (takeStep_shrink _ _ _ _ _).2 _ _ (superseded x (by rw [run.tke]; exact hx) r' status applied state)
  · exact swept.of_same (by rw [run.queueAfter, stepped]) (by rw [run.completionsAfter, stepped])
  · rwa [stepped] at ts

/-- A due ADOPT that is fit adopts NEXT (R26); one that is not completes NOT READY and changes no store (R85). -/
theorem of_adopt_due (run : TakesRun s v u) {e : TakeEntry} (due : dueNext s = [e]) (kind : e.kind = .adopt) :
    (∀ w, adopt e.force e.abandonment s.fsw = some w →
      u.fsw = w ∧ u.tke.ts = tsFor s.tke.flushMark 1 ∧ Finished e (lateStatus e) (s.fcy.count + 2) u) ∧
    (adopt e.force e.abandonment s.fsw = none →
      u.fsw = s.fsw ∧ u.tke.ts = tsFor s.tke.flushMark 0 ∧ Finished e .notReady (s.fcy.count + 2) u) := by
  have passes := run.passes
  simp only [due, List.foldl_cons, List.foldl_nil, applyEntry, kind, Nat.zero_add, run.count, run.fsw] at passes
  refine ⟨fun w fit => ?_, fun unfit => ?_⟩
  · simp only [fit] at passes
    have ts := run.ts (by simp [passes, run.tke])
    refine ⟨?_, ?_, run.finished ?_⟩
    · rw [run.fswAfter, passes]
      simp
    · rwa [passes] at ts
    · rw [passes]
      exact (completeTake_finished _ _ _ _).stepSweep _
  · simp only [unfit] at passes
    have ts := run.ts (by simp [passes, run.tke])
    refine ⟨?_, ?_, run.finished ?_⟩
    · rw [run.fswAfter, passes, ← run.fsw]
      simp
    · rwa [passes] at ts
    · rw [passes]
      exact (completeTake_finished _ _ _ _).stepSweep _

end TakesRun

/-! ### Adoption in the words of the claim (R26) -/

/-- The frames of an owner in a state, counted over the slots or over the frames held. -/
theorem countFrames_eq (o : Owner) (st : FrameState) (w : Fsw) :
    countFrames o st w.slots = ((heldFrames w).filter fun f => f.owner = o && f.state = st).length := by
  unfold countFrames heldFrames
  induction w.slots with
  | nil => rfl
  | cons slot rest ih =>
    cases slot with
    | none => simpa using ih
    | some f =>
      by_cases h : (decide (f.owner = o) && decide (f.state = st)) = true <;> simp [h, ih]

/-- An adopted slot: CURRENT's frame is freed, NEXT's becomes CURRENT's. -/
theorem adoptSlot_some (f : WindFrame) :
    adoptSlot (some f) = if f.owner = .current then none else some { f with owner := .current } := by
  cases owner : f.owner <;> simp [adoptSlot, owner]

/-- A fit NEXT is adopted with its frames, and CURRENT's are freed. -/
theorem adopt_of_fit {w : Fsw} {next : NextRun} {force : Bool} {recorded : Word32} (present : w.next = some next)
    (same : recorded = w.abandonment) (fit : next.state = .ready ∨
      force = true ∧ next.state = .ended ∧ 2 ≤ countFrames .next .complete w.slots) :
    adopt force recorded w = some { w with current := some next.run, next := none, slots := w.slots.map adoptSlot } := by
  have taken : adoptable force recorded w = some next := by
    rcases fit with ready | ⟨forced, ended, enough⟩
    · simp [adoptable, present, same, ready]
    · simp [adoptable, present, same, forced, ended, enough]
  rw [adopt, taken]

/-- An absent, abandoned or unready NEXT is not adopted. -/
theorem adopt_of_unfit {w : Fsw} {force : Bool} {recorded : Word32}
    (unfit : w.next = none ∨ recorded ≠ w.abandonment ∨ ∃ next, w.next = some next ∧ next.state ≠ .ready ∧
      (force = false ∨ next.state = .opened ∨ countFrames .next .complete w.slots < 2)) :
    adopt force recorded w = none := by
  have left : adoptable force recorded w = none := by
    rcases unfit with absent | other | ⟨next, present, unready, why⟩
    · simp [adoptable, absent]
    · unfold adoptable
      split
      · rfl
      · rw [if_pos other]
    · have refused : (force && decide (next.state = .ended) &&
          decide (2 ≤ countFrames .next .complete w.slots)) = false := by
        rcases why with unforced | opened | few
        · simp [unforced]
        · simp [opened]
        · simp [Nat.not_le.mpr few]
      simp only [adoptable, present, refused, if_neg unready]
      simp
  rw [adopt, left]

/-! ### O8 -/

/-- Every part: display, abandonment, the line modes, and what a pulse leaves (R12, R13, R159). -/
theorem internalPulse_displays_or_abandons (palarm : Bool) {s : State} {t : Time} (running : s.power = .running)
    (due : s.fcy.timer = some t) :
    ∃ u, exec (.internalPulse palarm) s = .next u ∧ u.fcy.completed = none ∧
      u.fcy.displayed = displayedAfter s ∧
      u.cnu.counters.lateFrames =
        (if s.fcy.inFlight.isSome then min 65535 (s.cnu.counters.lateFrames + 1) else s.cnu.counters.lateFrames) ∧
      u.opr.frameLineMode = s.opr.nextLineMode ∧ u.opr.nextLineMode = u.opr.lineMode ∧
      u.fst = s.fst ∧ u.pln = { s.pln with air := u.pln.air } ∧
      u.cnu.receiver = s.cnu.receiver ∧ u.cnu.reply = s.cnu.reply ∧ u.cnu.waiting = s.cnu.waiting ∧
      u.cnu.mask = s.cnu.mask ∧ u.cnu.thresholds = s.cnu.thresholds ∧ u.cnu.alarmEnable = s.cnu.alarmEnable ∧
      u.ing.halt = s.ing.halt ∧ u.ing.resume = s.ing.resume ∧ u.ing.inBand = s.ing.inBand ∧
      u.ing.lastError = s.ing.lastError ∧ u.opr.strap = s.opr.strap ∧ u.opr.autoTakeover = s.opr.autoTakeover ∧
      u.power = .running ∧ u.palarm = palarm := by
  obtain ⟨v, isV, eq⟩ := exec_internalPulse running due palarm
  obtain ⟨c, cycle, -⟩ := servingPulse_fcy t palarm v
  obtain ⟨power, level, store, -, receiver, reply, waiting, mask, thresholds, enable, -, -, strap, auto⟩ :=
    servingPulse_keeps t palarm v
  obtain ⟨halts, resumes, inBand, lastError⟩ := servingPulse_settings t palarm v
  obtain ⟨frameMode, nextMode⟩ := servingPulse_lineModes t palarm v
  have late := servingPulse_lateFrames t palarm v
  have plans := servingPulse_pln t palarm v
  have shown : displayedAfter v = displayedAfter s := by rw [isV]; rfl
  refine ⟨servingPulse t palarm v, eq, ?_⟩
  rw [cycle, late, frameMode, nextMode, store, receiver, reply, waiting, mask, thresholds, enable, halts, resumes, inBand,
    lastError, strap, auto, power, level]
  subst isV
  exact ⟨rfl, shown, rfl, rfl, rfl, rfl, plans, rfl, rfl, rfl, rfl, rfl, rfl, rfl, rfl, rfl, rfl, rfl, rfl, running, rfl⟩

/-- Settles O8: the first part is the lemma above; on a SOLE part each clause is one of the runs of the take engine. -/
theorem pulseDisplaysOrAbandons : Obligations.PulseDisplaysOrAbandons := by
  refine ⟨fun palarm s t running due => internalPulse_displays_or_abandons palarm running due,
    fun palarm s t frame sole isFrame => ?_⟩
  obtain ⟨v, u, eq, run⟩ := exists_takesRun sole palarm
  have law := sole.takes
  subst isFrame
  refine ⟨u, eq, by rw [run.tkeAfter], run.of_none_due law, fun e due status isStatus => ?_,
    fun e1 e2 m1 m2 due kind1 kind2 => run.of_two_lines_due due kind1 kind2⟩
  obtain rfl : status = lateStatus e := isStatus
  refine ⟨fun mode kind => run.of_line_due due kind, fun n target r kind _ isFirst => run.of_sweep_due law due kind isFirst,
    fun kind whole isWhole => ?_⟩
  rw [← countFrames_eq] at isWhole
  subst isWhole
  obtain ⟨adopts, refuses⟩ := run.of_adopt_due due kind
  refine ⟨fun next present same fit => ?_, fun unfit => refuses (adopt_of_unfit unfit)⟩
  refine adopts _ ((adopt_of_fit present same fit).trans ?_)
  congr 2
  refine List.map_congr_left fun slot _ => ?_
  cases slot with
  | none => rfl
  | some f => exact adoptSlot_some f

end Sys2Proof.Machine
end

section
/-! PROOFS. The finished chart (R11, R98 to R118, R127 to R131): what is drawn lies within the picture, the marks and the
wind result follow the brackets, and every gauge has its result. O12. -/

namespace Sys2Proof.Machine

/-! ### Fractions -/

namespace Fraction

theorem le_iff (a b : Fraction) : a.le b = true ↔ a.num * b.den ≤ b.num * a.den := by simp [le]

theorem le_total (a b : Fraction) (h : ¬ a.le b = true) : b.le a = true := by
  rw [le_iff] at h ⊢
  omega

theorem le_trans {a b c : Fraction} (pos : 0 < b.den) (h : a.le b = true) (k : b.le c = true) : a.le c = true := by
  rw [le_iff] at h k ⊢
  have pos' : (0 : Int) < b.den := by exact_mod_cast pos
  refine le_of_mul_le_mul_right ?_ pos'
  calc a.num * c.den * b.den = a.num * b.den * c.den := by ring
    _ ≤ b.num * a.den * c.den := Int.mul_le_mul_of_nonneg_right h (Int.natCast_nonneg _)
    _ = b.num * c.den * a.den := by ring
    _ ≤ c.num * b.den * a.den := Int.mul_le_mul_of_nonneg_right k (Int.natCast_nonneg _)
    _ = c.num * a.den * b.den := by ring

theorem le_refl (a : Fraction) : a.le a = true := (le_iff a a).2 (Int.le_refl _)

/-- The greater of two is above both, and has the denominator of one. -/
theorem larger_spec {a b : Fraction} (ha : 0 < a.den) (hb : 0 < b.den) :
    0 < (a.larger b).den ∧ a.le (a.larger b) = true ∧ b.le (a.larger b) = true := by
  unfold larger
  split
  · next h => exact ⟨hb, h, le_refl b⟩
  · next h => exact ⟨ha, le_refl a, le_total a b h⟩

/-- The lesser of two is below both, and has the denominator of one. -/
theorem smaller_spec {a b : Fraction} (ha : 0 < a.den) (hb : 0 < b.den) :
    0 < (a.smaller b).den ∧ (a.smaller b).le a = true ∧ (a.smaller b).le b = true := by
  unfold smaller
  split
  · next h => exact ⟨ha, le_refl a, h⟩
  · next h => exact ⟨hb, le_total a b h, le_refl b⟩

end Fraction

/-! ### Cutting at the picture's edge (R127; log 19) -/

/-- A point lies within the picture of a view. -/
def InPicture (v : Plan) (q : PicturePoint) : Prop :=
  0 < q.den ∧ (v.x0 * q.den : Int) ≤ q.x ∧ q.x ≤ ((v.x0 + v.w) * q.den : Int) ∧ (v.y0 * q.den : Int) ≤ q.y ∧
    q.y ≤ ((v.y0 + v.w * 9 / 16 : Nat) * q.den : Int)

/-- Between the two fractions of a span the coordinate lies within its bounds. -/
theorem spanWithin_spec {lo hi p d : Int} {a b : Fraction} (h : spanWithin lo hi p d = some (a, b)) :
    0 < a.den ∧ 0 < b.den ∧ ∀ t : Fraction, a.le t = true → t.le b = true →
      lo * t.den ≤ p * t.den + d * t.num ∧ p * t.den + d * t.num ≤ hi * t.den := by
  unfold spanWithin at h
  split at h
  · next still =>
    split at h
    · next inside =>
      cases h
      simp only [Bool.and_eq_true, decide_eq_true_eq] at inside
      refine ⟨Nat.one_pos, Nat.one_pos, fun t _ _ => ?_⟩
      rw [still, Int.zero_mul, Int.add_zero]
      exact ⟨Int.mul_le_mul_of_nonneg_right inside.1 (Int.natCast_nonneg _),
        Int.mul_le_mul_of_nonneg_right inside.2 (Int.natCast_nonneg _)⟩
    · cases h
  · next moves =>
    split at h
    · next forward =>
      cases h
      refine ⟨by dsimp only; omega, by dsimp only; omega, fun t above below => ?_⟩
      have size : ((d.toNat : Nat) : Int) = d := Int.toNat_of_nonneg (by omega)
      rw [Fraction.le_iff] at above below
      simp only [size] at above below
      constructor <;> linarith
    · next backward =>
      cases h
      refine ⟨by dsimp only; omega, by dsimp only; omega, fun t above below => ?_⟩
      have size : (((-d).toNat : Nat) : Int) = -d := Int.toNat_of_nonneg (by omega)
      rw [Fraction.le_iff] at above below
      simp only [size] at above below
      constructor <;> linarith

/-- Both ends of a cut stroke lie within the picture. -/
theorem cutStroke_inPicture {v : Plan} {p q : Point} {k : Stroke} (h : cutStroke v p q = some k) :
    InPicture v k.start ∧ InPicture v k.stop := by
  unfold cutStroke at h
  split at h
  · next a b spanX spanY =>
    obtain ⟨aPos, aPos', inX⟩ := spanWithin_spec (a := a.1) (b := a.2) spanX
    obtain ⟨bPos, bPos', inY⟩ := spanWithin_spec (a := b.1) (b := b.2) spanY
    obtain ⟨lowPos, lowA, lowB⟩ := Fraction.larger_spec aPos bPos
    obtain ⟨highPos, highA, highB⟩ := Fraction.smaller_spec aPos' bPos'
    obtain ⟨firstPos, -, firstLow⟩ := Fraction.larger_spec (a := ⟨0, 1⟩) Nat.one_pos lowPos
    obtain ⟨lastPos, -, lastHigh⟩ := Fraction.smaller_spec (a := ⟨1, 1⟩) Nat.one_pos highPos
    simp only [] at h
    split at h
    · next kept =>
      cases h
      simp only [Bool.and_eq_true] at kept
      have within : ∀ t : Fraction, 0 < t.den →
          (Fraction.larger ⟨0, 1⟩ (a.1.larger b.1)).le t = true →
          t.le (Fraction.smaller ⟨1, 1⟩ (a.2.smaller b.2)) = true → InPicture v (pointAt p q t) := by
        intro t pos above below
        have above' := Fraction.le_trans firstPos firstLow above
        have below' := Fraction.le_trans lastPos below lastHigh
        obtain ⟨west, east⟩ := inX t (Fraction.le_trans lowPos lowA above') (Fraction.le_trans highPos below' highA)
        obtain ⟨south, north⟩ := inY t (Fraction.le_trans lowPos lowB above') (Fraction.le_trans highPos below' highB)
        refine ⟨pos, west, east, south, ?_⟩
        rw [Nat.cast_add]
        exact north
      exact ⟨within _ firstPos (Fraction.le_refl _) kept.1, within _ lastPos kept.1 (Fraction.le_refl _)⟩
    · cases h
  · cases h

/-- Every stroke of a line as drawn lies within the picture. -/
theorem cutLine_inPicture (v : Plan) : ∀ (pts : List Point), ∀ k ∈ cutLine v pts, InPicture v k.start ∧ InPicture v k.stop
  | [], k, hk => by simp [cutLine] at hk
  | [_], k, hk => by simp [cutLine] at hk
  | p :: q :: rest, k, hk => by
    rw [cutLine, List.mem_append, Option.mem_toList] at hk
    rcases hk with here | later
    · exact cutStroke_inPicture here
    · exact cutLine_inPicture v (q :: rest) k later

/-! ### The coast and the areas (R127, R128, R131) -/

/-- The segments drawn, in the words of the claim. -/
theorem coastSegments_eq (snap : Snapshot) (level : Nat) (p : Plan) (isPlan : p = snap.plan) :
    coastSegments snap level = snap.segments.filter fun g => p.layers.coast && (level < 2 || g.cls ≠ .minor) &&
      (g.box.xmin < p.x0 + p.w && p.x0 ≤ g.box.xmax && g.box.ymin < p.y0 + p.w * 9 / 16 && p.y0 ≤ g.box.ymax) := by
  subst isPlan
  unfold coastSegments
  cases snap.plan.layers.coast with
  | false => simp
  | true =>
    simp only [if_true]
    apply List.filter_congr
    intro g _
    have classes : (!(decide (2 ≤ level) && decide (g.cls = .minor))) = (decide (level < 2) || decide (g.cls ≠ .minor)) := by
      by_cases fine : level < 2
      · simp [fine]
      · simp [fine, Nat.not_lt.mp fine]
    rw [classes, Bool.true_and, Bool.and_comm]
    rfl

/-- What a chart draws of the coast and the areas, and counts (R127, R128, R131). -/
theorem chartOf_lines (c : Composition) (shown areas : List Segment)
    (isShown : shown = coastSegments c.snap c.level) (isAreas : areas = highlighted c.snap) :
    (chartOf c).record.coastSegments = shown.length ∧
    (chartOf c).record.coastPoints =
      (shown.map fun g => if c.level < 2 then g.points.length else g.points.length / 2 + 1).sum ∧
    (chartOf c).record.areaCount = areas.length ∧ (chartOf c).coast.map DrawnLine.id = shown.map Segment.id ∧
    ((chartOf c).highlights.map DrawnLine.id).Sublist (areas.map Segment.id) := by
  subst isShown isAreas
  have ids : ∀ l : List Segment, (l.map (drawLine c.snap.plan c.level)).map DrawnLine.id = l.map Segment.id :=
    fun l => List.map_map.trans rfl
  refine ⟨rfl, rfl, rfl, ids _, ?_⟩
  rw [← ids]
  exact List.filter_sublist.map _

/-- Every stroke a chart draws lies within the picture, and every highlight drawn has one. -/
theorem chartOf_strokes (c : Composition) : (∀ line ∈ (chartOf c).highlights, line.strokes ≠ []) ∧
    ∀ line, line ∈ (chartOf c).coast ∨ line ∈ (chartOf c).highlights → ∀ k ∈ line.strokes,
      InPicture c.snap.plan k.start ∧ InPicture c.snap.plan k.stop := by
  have drawn : ∀ g k, k ∈ (drawLine c.snap.plan c.level g).strokes →
      InPicture c.snap.plan k.start ∧ InPicture c.snap.plan k.stop := fun g k => cutLine_inPicture _ _ k
  refine ⟨fun line hl => ?_, fun line hl k hk => ?_⟩
  · have kept := (List.mem_filter.mp hl).2
    simpa using kept
  · have source : ∃ g, drawLine c.snap.plan c.level g = line := by
      rcases hl with coast | high
      · obtain ⟨g, -, eq⟩ := List.mem_map.mp coast
        exact ⟨g, eq⟩
      · obtain ⟨g, -, eq⟩ := List.mem_map.mp (List.mem_filter.mp high).1
        exact ⟨g, eq⟩
    obtain ⟨g, rfl⟩ := source
    exact drawn g k hk

/-! ### The brackets (R114, R115, R117) -/

/-- Frames of which the first part is due at r and the rest is not are taken apart by the two selections of R115. -/
theorem filter_frames {low high : List SnapFrame} {r : Int} (due : ∀ f ∈ low, (f.offset : Int) ≤ r)
    (ahead : ∀ f ∈ high, r < (f.offset : Int)) :
    ((low ++ high).filter fun f => decide ((f.offset : Int) ≤ r)) = low ∧
    ((low ++ high).filter fun f => decide (r < (f.offset : Int))) = high := by
  have dueOnly : ∀ f ∈ high, ¬ (decide ((f.offset : Int) ≤ r)) = true := fun f hf => by simpa using ahead f hf
  have aheadOnly : ∀ f ∈ low, ¬ (decide (r < (f.offset : Int))) = true := fun f hf => by simpa using due f hf
  rw [List.filter_append, List.filter_append, List.filter_eq_nil_iff.mpr dueOnly, List.filter_eq_nil_iff.mpr aheadOnly,
    List.filter_eq_self.mpr fun f hf => decide_eq_true (due f hf),
    List.filter_eq_self.mpr fun f hf => decide_eq_true (ahead f hf)]
  exact ⟨List.append_nil _, List.nil_append _⟩

/-- In ascending frames every frame up to one that is due is due. -/
theorem due_of_last_due {before after : List SnapFrame} {f0 : SnapFrame} {r : Int}
    (asc : ((before ++ f0 :: after).map SnapFrame.offset).Pairwise (· < ·)) (due : (f0.offset : Int) ≤ r) :
    ∀ f ∈ before ++ [f0], (f.offset : Int) ≤ r := by
  rw [List.pairwise_map, List.pairwise_append] at asc
  intro f hf
  rcases List.mem_append.mp hf with earlier | same
  · have less := asc.2.2 f earlier f0 List.mem_cons_self
    omega
  · rw [List.mem_singleton.mp same]
    exact due

/-- In ascending frames every frame from one that is ahead is ahead. -/
theorem ahead_of_first_ahead {before later : List SnapFrame} {f1 : SnapFrame} {r : Int}
    (asc : ((before ++ f1 :: later).map SnapFrame.offset).Pairwise (· < ·)) (ahead : r < (f1.offset : Int)) :
    ∀ f ∈ f1 :: later, r < (f.offset : Int) := by
  rw [List.pairwise_map, List.pairwise_append] at asc
  obtain ⟨-, tail, -⟩ := asc
  intro f hf
  rcases List.mem_cons.mp hf with same | after
  · rw [same]
    exact ahead
  · have less := List.rel_of_pairwise_cons tail after
    omega

/-- Between two frames both are used. -/
theorem brackets_between {before later : List SnapFrame} {f0 f1 : SnapFrame} {r : Int}
    (asc : ((before ++ f0 :: f1 :: later).map SnapFrame.offset).Pairwise (· < ·)) (due : (f0.offset : Int) ≤ r)
    (ahead : r < (f1.offset : Int)) :
    brackets (before ++ f0 :: f1 :: later) r = some { status := .drawn, first := f0, second := some f1 } := by
  have split : before ++ f0 :: f1 :: later = (before ++ [f0]) ++ f1 :: later := by simp
  have low := due_of_last_due asc due
  rw [split] at asc ⊢
  obtain ⟨lows, highs⟩ := filter_frames low (ahead_of_first_ahead asc ahead)
  rw [brackets, lows, highs, List.getLast?_concat]
  rfl

/-- Ahead of every frame the first is held. -/
theorem brackets_first {later : List SnapFrame} {f1 : SnapFrame} {r : Int}
    (asc : ((f1 :: later).map SnapFrame.offset).Pairwise (· < ·)) (ahead : r < (f1.offset : Int)) :
    brackets (f1 :: later) r = some { status := .heldFirst, first := f1, second := none } := by
  obtain ⟨lows, highs⟩ := filter_frames (low := []) (List.forall_mem_nil _)
    (ahead_of_first_ahead (before := []) asc ahead)
  rw [List.nil_append] at lows highs
  simp [brackets, lows, highs]

/-- From the last frame on that frame is used alone: drawn at its very minute, held after it. -/
theorem brackets_last {before : List SnapFrame} {f0 : SnapFrame} {r : Int}
    (asc : ((before ++ [f0]).map SnapFrame.offset).Pairwise (· < ·)) (due : (f0.offset : Int) ≤ r) :
    brackets (before ++ [f0]) r =
      some { status := if (f0.offset : Int) = r then .drawn else .heldLast, first := f0, second := none } := by
  obtain ⟨lows, highs⟩ := filter_frames (high := []) (due_of_last_due asc due) (List.forall_mem_nil _)
  rw [List.append_nil] at lows highs
  simp [brackets, lows, highs]

theorem fraction_between {r : Int} {f0 f1 : SnapFrame} {f : Nat} (status : WindStatus)
    (isFraction : (f : Int) = (r - f0.offset) * 256 / (f1.offset - f0.offset)) :
    fraction r { status := status, first := f0, second := some f1 } = f := by
  simp only [fraction]
  rw [← isFraction, Int.toNat_natCast]

/-! ### The wind result and the marks (R110 to R113, R116, R118, R123) -/

/-- The number of arrow positions, in the words of the claim. -/
theorem arrowCount_eq (p : Plan) (stride : Nat) :
    arrowCount p stride =
      ((List.range 48).filter fun i =>
        i % stride = 0 && p.x0 ≤ 680 + 1360 * i && 680 + 1360 * i < p.x0 + p.w).length *
      ((List.range 32).filter fun j =>
        j % stride = 0 && p.y0 ≤ 1020 + 2040 * j && 1020 + 2040 * j < p.y0 + p.w * 9 / 16).length := by
  simp only [Bool.and_assoc]
  rfl

/-- Without the layer, a run or a frame there are no brackets, and no wind is drawn. -/
theorem chartOf_noWind {c : Composition} (unbracketed : snapBrackets c.snap = none) :
    (chartOf c).record.wind = { status := if c.snap.plan.layers.wind then .noData else .off,
                                t0 := 0#32, t1 := 0#32, f := 0, arrows := 0 } ∧ (chartOf c).wind = [] := by
  constructor
  · simp only [chartOf, frameRecord, windResult, unbracketed]
  · simp only [chartOf, windMarks, unbracketed]

theorem chartOf_wind_off {c : Composition} (off : c.snap.plan.layers.wind = false) :
    (chartOf c).record.wind = { status := .off, t0 := 0#32, t1 := 0#32, f := 0, arrows := 0 } ∧
    (chartOf c).wind = [] := by
  have nothing := chartOf_noWind (c := c) (by simp [snapBrackets, off])
  rwa [off] at nothing

theorem chartOf_wind_noData {c : Composition} (on : c.snap.plan.layers.wind = true)
    (absent : c.snap.current = none ∨ c.snap.frames = []) :
    (chartOf c).record.wind = { status := .noData, t0 := 0#32, t1 := 0#32, f := 0, arrows := 0 } ∧
    (chartOf c).wind = [] := by
  have unbracketed : snapBrackets c.snap = none := by
    rcases absent with noRun | noFrame
    · simp [snapBrackets, noRun]
    · cases run : c.snap.current <;> simp [snapBrackets, run, noFrame, brackets]
  have nothing := chartOf_noWind unbracketed
  rwa [on] at nothing

/-- The wind of a chart whose brackets are b: the result of R116, and at every arrow position the mark of the wind
there. -/
theorem chartOf_wind {c : Composition} {run : RunRecord} {r : Int} {b : Brackets} {stride arrows : Nat}
    (on : c.snap.plan.layers.wind = true) (isRun : c.snap.current = some run)
    (isMinute : r = (c.snap.plan.cursor - run.base).toInt) (bracketed : brackets c.snap.frames r = some b)
    (isStride : stride = strideAt c.snap.plan c.level) (isCount : arrows = arrowCount c.snap.plan stride) :
    (chartOf c).record.wind = { status := b.status, t0 := run.base + BitVec.ofNat 32 b.first.offset,
                                t1 := run.base + BitVec.ofNat 32 (b.second.getD b.first).offset,
                                f := fraction r b, arrows := arrows } ∧
    (chartOf c).wind.length = arrows ∧
    ∀ m ∈ (chartOf c).wind, m.at_ = ⟨680 + 1360 * m.column, 1020 + 2040 * m.row⟩ ∧
      m.mark = markOf (windAt b (fraction r b) m.column m.row) := by
  subst isMinute isStride isCount
  have found : snapBrackets c.snap = some (run, b) := by
    simp only [snapBrackets, on, isRun, if_true, relativeMinute, bracketed]
  refine ⟨?_, ?_, fun m hm => ?_⟩
  · simp only [chartOf, frameRecord, windResult, found]
    rfl
  · simp [chartOf, windMarks, found, arrowCount, List.length_flatten, Function.comp_def, Nat.mul_comm]
  · simp only [chartOf, windMarks, found, List.mem_flatten, List.mem_map] at hm
    obtain ⟨_, ⟨j, -, rfl⟩, inRow⟩ := hm
    obtain ⟨i, -, rfl⟩ := List.mem_map.mp inRow
    exact ⟨rfl, rfl⟩

/-! ### The gauges (R98 to R104, R107) -/

/-- The gauge level of a lawful span is its quotient; no clamping at 0 is met. -/
theorem gaugeLevel_eq {st : Station} (span : st.hmin < st.hmax) (h : Int) :
    (gaugeLevel st h : Int) =
      (200 * (max st.hmin (min st.hmax h) - st.hmin) + (st.hmax - st.hmin)) / (2 * (st.hmax - st.hmin)) := by
  simp only [gaugeLevel, clampInt_eq (le_of_lt span)]
  exact Int.toNat_of_nonneg (Int.ediv_nonneg (by omega) (by omega))

theorem offScale_iff (st : Station) (h : Int) : offScale st h = true ↔ h < st.hmin ∨ st.hmax < h := by
  simp [offScale]

/-- The values of a gauge, in the words of the claim. -/
theorem gaugeValues_spec (st : Station) (cursor : Word32) (index : Constituent → Nat)
    (isIndex : ∀ x, index x = (x.phase.toNat * 65536 + x.omega.toNat * cursor.toNat) % 4294967296 / 4194304) :
    (gaugeValues st cursor).height =
      st.z0 + (st.constituents.map fun x => roundAway (x.amp * cosEntry (index x)) 32768).sum ∧
    (gaugeValues st cursor).rate = max (-9999) (min 9999 (-(Int.tdiv (st.constituents.map fun x =>
      roundAway (x.amp * cosEntry ((index x + 768) % 1024)) 32768 * (x.omega.toNat / 1024 : Nat) * 1508).sum
      16777216))) ∧
    (st.hmin < st.hmax → ((gaugeValues st cursor).level : Int) =
      (200 * (max st.hmin (min st.hmax (gaugeValues st cursor).height) - st.hmin) + (st.hmax - st.hmin)) /
        (2 * (st.hmax - st.hmin))) ∧
    ((gaugeValues st cursor).offScale = true ↔
      (gaugeValues st cursor).height < st.hmin ∨ st.hmax < (gaugeValues st cursor).height) ∧
    (gaugeValues st cursor).trend =
      (if 50 ≤ (gaugeValues st cursor).rate then .rising
       else if (gaugeValues st cursor).rate ≤ -50 then .falling else .slack) := by
  obtain rfl : index = fun x => tableIndex x cursor := funext isIndex
  exact ⟨rfl, clampInt_eq (by decide) _, fun span => gaugeLevel_eq span _, offScale_iff st _, rfl⟩

/-- The values carried for a HELD gauge are those of the last result found for its slot and station. -/
theorem carriedValues_eq (last : List GaugeResult) (slot station : Nat) :
    carriedValues last slot station =
      (last.find? fun x => x.slot = slot && x.station = station).bind GaugeResult.values := by
  unfold carriedValues
  cases last.find? fun x => x.slot = slot && x.station = station <;> rfl

theorem gaugeResult_place (snap : Snapshot) (level : Nat) (g : SnapGauge) :
    (gaugeResult snap level g).slot = g.slot ∧ (gaugeResult snap level g).station = g.gauge.station := by
  unfold gaugeResult
  split
  · exact ⟨rfl, rfl⟩
  · split <;> exact ⟨rfl, rfl⟩

theorem gaugeResult_noStation {snap : Snapshot} {level : Nat} {g : SnapGauge} (unknown : g.record = none) :
    (gaugeResult snap level g).status = .noStation ∧ (gaugeResult snap level g).values = none := by
  simp [gaugeResult, unknown]

theorem gaugeResult_held {snap : Snapshot} {level : Nat} {g : SnapGauge} {st : Station} (known : g.record = some st)
    (coarsest : level = 3) :
    (gaugeResult snap level g).status = .held ∧
    (gaugeResult snap level g).values =
      (snap.lastGauges.find? fun x => x.slot = g.slot && x.station = g.gauge.station).bind GaugeResult.values := by
  simp [gaugeResult, known, coarsest, carriedValues_eq]

theorem gaugeResult_live {snap : Snapshot} {level : Nat} {g : SnapGauge} {st : Station} (known : g.record = some st)
    (finer : level ≠ 3) :
    (gaugeResult snap level g).status = .live ∧
    (gaugeResult snap level g).values = some (gaugeValues st snap.plan.cursor) := by
  simp [gaugeResult, known, finer]

theorem chartOf_gauges_off {c : Composition} (off : c.snap.plan.layers.tide = false) :
    (chartOf c).record.gauges = [] ∧ (chartOf c).gauges = [] := by
  simp [chartOf, frameRecord, gaugeResults, drawGauges, off]

/-- With the TIDE layer on the record holds the result of every slot, and the gauges drawn show these results. -/
theorem chartOf_gauges_on {c : Composition} (on : c.snap.plan.layers.tide = true) :
    (chartOf c).record.gauges = c.snap.gauges.map (gaugeResult c.snap c.level) ∧
    (chartOf c).gauges.map DrawnGauge.result = (chartOf c).record.gauges := by
  simp [chartOf, frameRecord, gaugeResults, drawGauges, on, drawGauge, Function.comp_def]

/-! ### Completion (R11) -/

theorem complete_inFlight {s : State} {c : Composition} (flying : s.fcy.inFlight = some c) :
    complete s = if c.cost ≤ c.budget then
      { s with fcy := { s.fcy with inFlight := none, completed := some (chartOf c) } } else s := by
  simp only [complete, flying, State.onFcy]

theorem spend_inFlight {s : State} {c : Composition} (flying : s.fcy.inFlight = some c) :
    spend s = if c.cost ≤ c.budget then s else
      { s with fcy := { s.fcy with inFlight := some { c with stopped := true } } } := by
  simp only [spend, flying, State.onFcy]

theorem exec_compositionCompletion {s : State} {c : Composition} (running : s.power = .running)
    (flying : s.fcy.inFlight = some c) :
    exec .compositionCompletion s = .next (if c.cost ≤ c.budget then
      { s with fcy := { s.fcy with inFlight := none, completed := some (chartOf c) } } else s) := by
  rw [← complete_inFlight flying]
  exact congrArg Host.Outcome.next (whileRunning_running complete running)

theorem exec_compositionBudgetSpent {s : State} {c : Composition} (running : s.power = .running)
    (flying : s.fcy.inFlight = some c) :
    exec .compositionBudgetSpent s = .next (if c.cost ≤ c.budget then s else
      { s with fcy := { s.fcy with inFlight := some { c with stopped := true } } }) := by
  rw [← spend_inFlight flying]
  exact congrArg Host.Outcome.next (whileRunning_running spend running)

/-- Settles O12: the chart is that of the model's `chartOf`, and each clause is the lemma above about that part of it. -/
theorem compositionCompletesWithinItsBudget : Obligations.CompositionCompletesWithinItsBudget := by
  refine ⟨fun s c running flying => ⟨fun within => ?_, fun exceeds => ?_⟩, ?_⟩
  · refine ⟨chartOf c, rfl, rfl, rfl, rfl, rfl, rfl, rfl, rfl, rfl, ?_, ?_⟩
    · rw [exec_compositionCompletion running flying, if_pos within]
    · rw [exec_compositionBudgetSpent running flying, if_pos within]
  · constructor
    · rw [exec_compositionCompletion running flying, if_neg (Nat.not_le.mpr exceeds)]
    · rw [exec_compositionBudgetSpent running flying, if_neg (Nat.not_le.mpr exceeds)]
  · rintro s c _ _ running flying within rfl rfl
    obtain ⟨highlightsDraw, strokesInPicture⟩ := chartOf_strokes c
    refine ⟨chartOf c, _, exec_compositionCompletion running flying, by rw [if_pos within],
      fun shown areas isShown isAreas => ?_, highlightsDraw, ?_, chartOf_wind_off, chartOf_wind_noData, ?_,
      chartOf_gauges_off, fun on => ?_⟩
    · exact chartOf_lines c shown areas (isShown.trans (coastSegments_eq c.snap c.level _ rfl).symm) isAreas
    · intro line drawn k hk q isEnd
      obtain ⟨start, stop⟩ := strokesInPicture line drawn k hk
      rcases isEnd with rfl | rfl
      · exact start
      · exact stop
    · intro run r stride arrows on isRun isMinute asc isStride isCount
      have wind : ∀ b, brackets c.snap.frames r = some b → _ := fun b bracketed =>
        chartOf_wind on isRun isMinute bracketed isStride (isCount.trans (arrowCount_eq _ _).symm)
      refine ⟨fun before f0 f1 later f frames due ahead isFraction => ?_, fun f1 later frames ahead => ?_,
        fun before f0 frames due => ?_⟩
      · rw [frames] at asc wind
        obtain ⟨result, count, marks⟩ := wind _ (brackets_between asc due ahead)
        rw [fraction_between _ isFraction] at result marks
        refine ⟨result, count, fun m hm => ⟨(marks m hm).1, ?_⟩⟩
        rintro _ _ rfl rfl
        exact (marks m hm).2
      · rw [frames] at asc wind
        obtain ⟨result, count, marks⟩ := wind _ (brackets_first asc ahead)
        exact ⟨result, count, fun m hm => (marks m hm).2⟩
      · rw [frames] at asc wind
        obtain ⟨result, count, marks⟩ := wind _ (brackets_last asc due)
        exact ⟨result, count, fun m hm => (marks m hm).2⟩
    · obtain ⟨results, shown⟩ := chartOf_gauges_on on
      refine ⟨by rw [results, List.length_map], shown, fun i g hg => ?_⟩
      obtain ⟨slot, station⟩ := gaugeResult_place c.snap c.level g
      refine ⟨gaugeResult c.snap c.level g, by rw [results, List.getElem?_map, hg, Option.map_some], slot, station,
        gaugeResult_noStation, fun st known => ⟨gaugeResult_held known, fun finer => ?_⟩⟩
      obtain ⟨live, values⟩ := gaugeResult_live known finer
      exact ⟨live, _, values, gaugeValues_spec st c.snap.plan.cursor⟩

end Sys2Proof.Machine
end

section
/-! PROOFS. The law of the wind frame slots, kept by every step (R18, R20 to R27, R33): O53. -/

namespace Sys2Proof.Machine

/-! ### Slots rewritten frame by frame (R18) -/

/-- The run and the offset that name a frame (R18). -/
def frameKey (f : WindFrame) : Owner × Nat := (f.owner, f.offset)

/-- Rewriting every slot by its frame rewrites the frames held. -/
theorem heldFrames_map_bind (g : WindFrame → Option WindFrame) (w w' : Fsw)
    (slots : w'.slots = w.slots.map (·.bind g)) : heldFrames w' = (heldFrames w).filterMap g := by
  simp only [heldFrames, slots, List.filterMap_map, List.filterMap_filterMap]
  congr 1

/-- A rewriting of the slots that gives no two frames one name, and keeps each frame's ranges and owner, keeps the
law. -/
theorem SlotLaw.rewrite {w w' : Fsw} (h : SlotLaw w) (g : WindFrame → Option WindFrame)
    (slots : w'.slots = w.slots.map (·.bind g))
    (names : ∀ f e f' e', g f = some f' → g e = some e' → frameKey f' = frameKey e' → frameKey f = frameKey e)
    (laws : ∀ f f', g f = some f' → FrameLaw f → OwnerLaw w f → FrameLaw f' ∧ OwnerLaw w' f') : SlotLaw w' := by
  obtain ⟨size, nodup, each⟩ := h
  refine ⟨by rw [slots, List.length_map, size], ?_, ?_⟩
  · rw [heldFrames_map_bind g w w' slots]
    refine List.pairwise_map.mpr (List.pairwise_filterMap.mpr ?_)
    exact (List.pairwise_map.mp nodup).imp fun differ f' hf e' he same => differ (names _ _ f' e' hf he same)
  · intro f' hf'
    rw [heldFrames_map_bind g w w' slots, List.mem_filterMap] at hf'
    obtain ⟨f, hf, made⟩ := hf'
    exact laws f f' made (each f hf).1 (each f hf).2

/-- The law reads of the runs only which are there. -/
theorem SlotLaw.of_same {w w' : Fsw} (h : SlotLaw w) (slots : w'.slots = w.slots)
    (current : w.current.isSome → w'.current.isSome) (next : w.next.isSome → w'.next.isSome) : SlotLaw w' := by
  obtain ⟨size, nodup, each⟩ := h
  have frames : heldFrames w' = heldFrames w := by rw [heldFrames, slots, heldFrames]
  refine ⟨by rw [slots, size], by rw [frames]; exact nodup, fun f hf => ?_⟩
  rw [frames] at hf
  obtain ⟨law, ofCurrent, ofNext⟩ := each f hf
  exact ⟨law, current ∘ ofCurrent, next ∘ ofNext⟩

/-! ### Slots claimed (R21) -/

/-- Either no slot is FREE, or there is a lowest FREE slot. -/
theorem free_slot_cases : ∀ slots : List (Option WindFrame), (∀ x ∈ slots, x ≠ none) ∨
    ∃ before later, slots = before ++ none :: later ∧ ∀ x ∈ before, x ≠ none
  | [] => .inl nofun
  | none :: rest => .inr ⟨[], rest, rfl, nofun⟩
  | some g :: rest => by
    rcases free_slot_cases rest with full | ⟨before, later, eq, taken⟩
    · exact .inl (List.forall_mem_cons.mpr ⟨nofun, full⟩)
    · exact .inr ⟨some g :: before, later, by rw [eq]; rfl, List.forall_mem_cons.mpr ⟨nofun, taken⟩⟩

/-- A claimed frame goes into the lowest FREE slot. -/
theorem claimSlot_free (f : WindFrame) (later : List (Option WindFrame)) :
    ∀ before : List (Option WindFrame), (∀ x ∈ before, x ≠ none) →
      claimSlot f (before ++ none :: later) = some (before ++ some f :: later)
  | [], _ => rfl
  | none :: _, taken => absurd rfl (taken none (by simp))
  | some g :: before, taken => by
    simp [claimSlot, claimSlot_free f later before (fun x hx => taken x (by simp [hx]))]

theorem claimSlot_full (f : WindFrame) :
    ∀ slots : List (Option WindFrame), (∀ x ∈ slots, x ≠ none) → claimSlot f slots = none
  | [], _ => rfl
  | none :: _, taken => absurd rfl (taken none (by simp))
  | some g :: rest, taken => by
    simp [claimSlot, claimSlot_full f rest (fun x hx => taken x (by simp [hx]))]

/-- A frame is found when NEXT holds one of its offset. -/
theorem nextFrame_eq_none {w : Fsw} {offset : Nat} :
    nextFrame offset w.slots = none ↔ ∀ f ∈ heldFrames w, ¬ (f.owner = .next ∧ f.offset = offset) := by
  have found : ∀ x, w.slots.find? (isNextFrame offset) = some x → x ≠ none := by
    rintro x hx rfl
    exact absurd (List.find?_some hx) (by simp [isNextFrame])
  have lookup : nextFrame offset w.slots = none ↔ w.slots.find? (isNextFrame offset) = none := by
    unfold nextFrame
    cases look : w.slots.find? (isNextFrame offset) with
    | none => simp
    | some x => simpa using found x look
  rw [lookup, List.find?_eq_none]
  constructor
  · intro none_is f hf
    simpa [isNextFrame] using none_is (some f) (by simpa [heldFrames] using hf)
  · intro none_held x hx
    cases x with
    | none => simp [isNextFrame]
    | some f => simpa [isNextFrame] using none_held f (by simpa [heldFrames] using hx)

/-- A frame of a name that no other frame has takes a FREE slot. -/
theorem SlotLaw.claim {w w' : Fsw} (h : SlotLaw w) {f : WindFrame} {before later : List (Option WindFrame)}
    (free : w.slots = before ++ none :: later) (claimed : w'.slots = before ++ some f :: later)
    (fresh : ∀ e ∈ heldFrames w, frameKey e ≠ frameKey f) (law : FrameLaw f) (owner : OwnerLaw w' f)
    (owners : ∀ e, OwnerLaw w e → OwnerLaw w' e) : SlotLaw w' := by
  obtain ⟨size, nodup, each⟩ := h
  have held : heldFrames w = before.filterMap id ++ later.filterMap id := by simp [heldFrames, free]
  have perm : (heldFrames w').Perm (f :: heldFrames w) := by
    rw [held]
    simp [heldFrames, claimed]
  refine ⟨?_, ?_, fun e he => ?_⟩
  · rw [claimed, ← size, free]
    simp
  · refine (perm.map _).nodup_iff.mpr (List.nodup_cons.mpr ⟨?_, nodup⟩)
    rw [List.mem_map]
    rintro ⟨e, he, same⟩
    exact fresh e he same
  · rcases List.mem_cons.mp (perm.mem_iff.mp he) with rfl | old
    · exact ⟨law, owner⟩
    · exact ⟨(each e old).1, owners e (each e old).2⟩

/-! ### The units and the slots (R20 to R24) -/

/-- A component as stored lies within the range (R22). -/
theorem clampWind_range (c : Int) : -1000 ≤ clampWind c ∧ clampWind c ≤ 1000 := by
  rw [clampWind, clampInt_eq (by decide)]
  omega

theorem storeRow_law {f : WindFrame} (h : FrameLaw f) (row : Nat) {pairs : List WindPair} (full : pairs.length = 48) :
    FrameLaw (storeRow row pairs f) := by
  obtain ⟨offset, rows, grid⟩ := h
  refine ⟨offset, by simpa [storeRow, setAt] using rows, fun r hr => ?_⟩
  rcases List.mem_or_eq_of_mem_set hr with old | rfl
  · exact grid r old
  · refine ⟨by rw [List.length_map, full], fun c hc => ?_⟩
    obtain ⟨q, -, rfl⟩ := List.mem_map.mp hc
    exact ⟨(clampWind_range _).1, (clampWind_range _).2, (clampWind_range _).1, (clampWind_range _).2⟩

theorem newFrame_law {offset : Nat} (valid : offset ≤ 4320) : FrameLaw (newFrame offset) := by
  refine ⟨valid, rfl, fun r hr => ?_⟩
  obtain rfl := List.eq_of_mem_replicate hr
  refine ⟨rfl, fun c hc => ?_⟩
  obtain rfl := List.eq_of_mem_replicate hc
  decide

/-- A rewriting of the slots that keeps the names keeps the law. -/
theorem SlotLaw.rewrite_named {w w' : Fsw} (h : SlotLaw w) (g : WindFrame → Option WindFrame)
    (slots : w'.slots = w.slots.map (·.bind g)) (name : ∀ f f', g f = some f' → frameKey f' = frameKey f)
    (laws : ∀ f f', g f = some f' → FrameLaw f → OwnerLaw w f → FrameLaw f' ∧ OwnerLaw w' f') : SlotLaw w' :=
  h.rewrite g slots (fun f e f' e' hf he same => by rw [← name f f' hf, ← name e e' he, same]) laws

/-- NEXT's frame of an offset is rewritten, and keeps its name. -/
theorem SlotLaw.onNextFrame {w : Fsw} (h : SlotLaw w) (offset : Nat) {f : WindFrame → WindFrame}
    (name : ∀ e, frameKey (f e) = frameKey e) (law : ∀ e, FrameLaw e → FrameLaw (f e)) :
    SlotLaw { w with slots := onNextFrame offset f w.slots } := by
  refine h.rewrite_named (fun e => if isNextFrame offset (some e) then some (f e) else some e) ?_ ?_ ?_
  · refine List.map_congr_left fun x _ => ?_
    cases x with
    | none => simp [isNextFrame]
    | some e => by_cases here : isNextFrame offset (some e) <;> simp [here]
  · intro e e' made
    split at made <;> cases made
    · exact name e
    · rfl
  · intro e e' made frame owner
    split at made <;> cases made
    · have sameOwner : (f e).owner = e.owner := congrArg Prod.fst (name e)
      refine ⟨law e frame, ?_⟩
      unfold OwnerLaw
      rw [sameOwner]
      exact owner
    · exact ⟨frame, owner⟩

/-- Freeing NEXT's frames leaves frames of CURRENT alone (R27). -/
theorem SlotLaw.freeNext {w w' : Fsw} (h : SlotLaw w) (slots : w'.slots = w.slots.map (freeOf .next))
    (current : w'.current = w.current) : SlotLaw w' := by
  refine h.rewrite_named (fun f => if f.owner = .next then none else some f) ?_ ?_ ?_
  · rw [slots]
    refine List.map_congr_left fun x _ => ?_
    cases x <;> rfl
  · intro f f' made
    split at made <;> cases made
    rfl
  · intro f f' made frame owner
    split at made <;> cases made
    next kept => exact ⟨frame, fun own => by rw [current]; exact owner.1 own, fun own => absurd own kept⟩

theorem abandonNext_slotLaw {w : Fsw} (h : SlotLaw w) : SlotLaw (abandonNext w) := by
  unfold abandonNext
  split
  · exact h
  · exact h.freeNext rfl rfl

/-- RUN START abandons a NEXT that was there, or opens one without frames (R20). -/
theorem runStart_slotLaw (id : Word16) (base : Word32) (expected : Nat) {w : Fsw} (h : SlotLaw w) :
    SlotLaw (runStart id base expected w).2 := by
  unfold runStart
  split
  · exact h
  split
  · exact h
  split
  · exact h
  · exact (abandonNext_slotLaw h).of_same rfl (fun here => here) (fun _ => rfl)

theorem markShort_slotLaw {w : Fsw} (h : SlotLaw w) : SlotLaw (markShort w) := by
  unfold markShort
  split
  · exact h
  · exact h.of_same rfl (fun here => here) (fun _ => rfl)

/-- An OPEN NEXT is there. -/
theorem next_of_isOpenNext {w : Fsw} {id : Word16} (opened : isOpenNext w id = true) : w.next.isSome := by
  unfold isOpenNext at opened
  split at opened
  · cases opened
  · next eq => rw [eq]; rfl

/-- WIND ROW writes NEXT's frame of its offset, or claims a slot for it when there is none (R21, R22). -/
theorem windRow_slotLaw (id : Word16) (offset row : Nat) {pairs : List WindPair} (full : pairs.length = 48) {w : Fsw}
    (h : SlotLaw w) : SlotLaw (windRow id offset row pairs w).2 := by
  unfold windRow
  split
  · exact h
  split
  · exact h
  next opened =>
  split
  · exact h
  next valid =>
  split
  · exact h
  split
  · exact h.onNextFrame offset (fun _ => rfl) (fun _ law => storeRow_law law row full)
  next fresh =>
  rcases free_slot_cases w.slots with none_free | ⟨before, later, free, taken⟩
  · rw [claimSlot_full _ _ none_free]
    exact markShort_slotLaw h
  · rw [free, claimSlot_free _ later before taken]
    refine h.claim (f := storeRow row pairs (newFrame offset)) free rfl ?_
      (storeRow_law (newFrame_law (Nat.le_of_not_lt valid)) row full) ?_ (fun _ owner => owner)
    · intro e he same
      obtain ⟨owner, name⟩ := Prod.mk.inj same
      exact nextFrame_eq_none.mp fresh e he ⟨owner, name⟩
    · exact ⟨nofun, fun _ => next_of_isOpenNext (w := w) (id := id) (by simpa using opened)⟩

theorem frameEnd_slotLaw (id : Word16) (offset : Nat) {w : Fsw} (h : SlotLaw w) :
    SlotLaw (frameEnd id offset w).2 := by
  unfold frameEnd
  split
  · exact h
  split
  · exact h
  split
  · exact h
  split
  · exact h
  · exact h.onNextFrame offset (fun _ => rfl) (fun _ law => law)

theorem runEnd_slotLaw (id : Word16) (sent : Nat) {w : Fsw} (h : SlotLaw w) : SlotLaw (runEnd id sent w).2 := by
  unfold runEnd
  split
  · exact h
  split
  · exact h
  split
  · exact h
  · exact h.of_same rfl (fun here => here) (fun _ => rfl)

/-- Adoption frees CURRENT's frames, so that NEXT's may take its name (R26). -/
theorem adopt_slotLaw {force : Bool} {recorded : Word32} {w w' : Fsw} (adopted : adopt force recorded w = some w')
    (h : SlotLaw w) : SlotLaw w' := by
  have kept : ∀ {f f'}, adoptSlot (some f) = some f' → f.owner = .next ∧ f' = { f with owner := .current } := by
    intro f f' made
    cases own : f.owner <;> simp only [adoptSlot, own] at made <;> cases made
    exact ⟨rfl, rfl⟩
  unfold adopt at adopted
  split at adopted <;> cases adopted
  refine h.rewrite (fun f => adoptSlot (some f)) ?_ ?_ ?_
  · refine List.map_congr_left fun x _ => ?_
    cases x <;> rfl
  · intro f e f' e' hf he same
    obtain ⟨ownF, rfl⟩ := kept hf
    obtain ⟨ownE, rfl⟩ := kept he
    exact Prod.ext (ownF.trans ownE.symm) (Prod.mk.inj same).2
  · intro f f' made law _
    obtain ⟨-, rfl⟩ := kept made
    exact ⟨law, fun _ => rfl, nofun⟩

/-! ### The loader and the wind part -/

/-- A row of 48 pairs fills 192 bytes (R141). -/
theorem parsePairs_length : ∀ (n : Nat) (l : List Byte), l.length = 4 * n → (parsePairs l).length = n
  | 0, l, size => by
    obtain rfl := List.length_eq_zero_iff.mp size
    rfl
  | n + 1, u0 :: u1 :: v0 :: v1 :: rest, size => by
    have fewer : rest.length = 4 * n := by simp only [List.length_cons] at size; omega
    simp [parsePairs, parsePairs_length n rest fewer]
  | n + 1, [], size => by simp at size
  | n + 1, [_], size => by simp only [List.length_cons, List.length_nil] at size; omega
  | n + 1, [_, _], size => by simp only [List.length_cons, List.length_nil] at size; omega
  | n + 1, [_, _, _], size => by simp only [List.length_cons, List.length_nil] at size; omega

@[simp] theorem loaderError_fsw (k : LoaderErrorKind) (type_ : Byte) (runId : Word16) (station : Nat) (s : State) :
    (loaderError k type_ runId station s).fsw = s.fsw := by
  simp [loaderError]

@[simp] theorem afterWind_fsw (type_ : Byte) (runId : Word16) (r : LoaderOutcome × State) :
    (afterWind type_ runId r).fsw = r.2.fsw := by
  unfold afterWind
  split <;> simp

@[simp] theorem afterTide_fsw (station : Nat) (r : LoaderOutcome × State) :
    (afterTide station r).fsw = r.2.fsw := by
  unfold afterTide
  split <;> simp

@[simp] theorem onWind_fsw (f : Fsw → LoaderOutcome × Fsw) (s : State) : (onWind f s).2.fsw = (f s.fsw).2 := rfl

@[simp] theorem loadRunEnd_fsw (id : Word16) (sent : Nat) (s : State) :
    (loadRunEnd id sent s).2.fsw = (runEnd id sent s.fsw).2 := by
  unfold loadRunEnd
  split <;> simp [*]

@[simp] theorem loadTideStation_fsw (c : CarriedStation) (s : State) : (loadTideStation c s).2.fsw = s.fsw := by
  unfold loadTideStation
  split
  · rfl
  · split <;> rfl

/-- What the four units of a run keep of the wind part, a loader move keeps (R19, R153). -/
theorem moveHead_fsw_induct {P : Fsw → Prop} (start : ∀ id base n w, P w → P (runStart id base n w).2)
    (row : ∀ id offset row pairs w, pairs.length = 48 → P w → P (windRow id offset row pairs w).2)
    (frame : ∀ id offset w, P w → P (frameEnd id offset w).2) (finish : ∀ id sent w, P w → P (runEnd id sent w).2)
    {s : State} (h : P s.fsw) : P (moveHead s).fsw := by
  have good : ∀ type_ payload t, P t.fsw → P (loadGood type_ payload t).fsw := by
    intro type_ payload t ht
    unfold loadGood
    split
    · unfold loadRunStart
      split
      · simpa using start _ _ _ _ ht
      · simpa using ht
    split
    · unfold loadWindRow
      split
      · next rest =>
        split
        · next size => simpa using row _ _ _ _ _ (parsePairs_length 48 rest size) ht
        · simpa using ht
      · simpa using ht
    split
    · unfold loadFrameEnd
      split
      · simpa using frame _ _ _ ht
      · simpa using ht
    split
    · unfold loadRunEndUnit
      split
      · simpa using finish _ _ _ ht
      · simpa using ht
    split
    · unfold loadStationUnit
      split <;> simpa using ht
    · simpa using ht
  unfold moveHead
  split
  · exact h
  · split
    · unfold dealWith
      split
      · simpa using h
      · exact good _ _ _ h
    · exact h

/-! ### The other operations and the slots -/

/-- A deal of the first pass adopts NEXT at most (R26). -/
theorem applyEntry_slotLaw (acc : State × Nat) (e : TakeEntry) (h : SlotLaw acc.1.fsw) :
    SlotLaw (applyEntry acc e).1.fsw := by
  unfold applyEntry
  simp only []
  split
  · split
    · split <;> simpa using h
    · split <;> simpa using h
  · simpa using h
  · split
    · simpa using h
    · next adopted => simpa using adopt_slotLaw adopted h
  · simpa using h
  · exact h

/-- A serving pulse touches the wind part in the take engine's first pass alone. -/
theorem servingPulse_slotLaw (t : Time) (palarm : Bool) {s : State} (h : SlotLaw s.fsw) :
    SlotLaw (servingPulse t palarm s).fsw := by
  have before : (pairDone t palarm s).1.fsw = s.fsw := by simp [pairDone, periodEnded]
  rw [(servingPulse_takes t palarm s _ rfl).2.1]
  simp only [applyTakes, stepSweep_keeps]
  exact foldl_applyEntry (P := fun u => SlotLaw u.fsw) applyEntry_slotLaw _ _ (by rw [before]; exact h)

/-- A restart abandons NEXT (R33); no other request touches the wind part. -/
theorem handler_fsw : ∀ h ∈ handlers, ∀ (p : Port) (params : List Byte) (s : State),
    (h p params s).state.fsw = s.fsw ∨ (h p params s).state.fsw = abandonNext s.fsw := by
  have restart : ∀ (p : Port) (params : List Byte) (s : State), (reqRestart p params s).state.fsw = s.fsw ∨
      (reqRestart p params s).state.fsw = abandonNext s.fsw := by
    intro p params s
    unfold reqRestart
    split
    · split
      · exact .inl rfl
      · exact .inr rfl
    · exact .inl rfl
  simp [handlers, restart]

theorem handler_slotLaw {h : Handler} (known : h ∈ handlers) (p : Port) (params : List Byte) {s : State}
    (law : SlotLaw s.fsw) : SlotLaw (h p params s).state.fsw := by
  rcases handler_fsw h known p params s with eq | eq <;> rw [eq]
  · exact law
  · exact abandonNext_slotLaw law

/-- The ingest receiver leaves the wind part (R140 to R147). -/
theorem ingestCharacter_fsw (c : Character) (s : State) : (ingestCharacter c s).fsw = s.fsw := by
  unfold ingestCharacter takeBytes
  repeat' split
  all_goals simp

/-- A report of the partner leaves the wind part (R163). -/
theorem receiveReport_fsw (r : Report) (s : State) : (receiveReport r s).fsw = s.fsw := by
  have acted : ∀ u : State, (actOnSwapWord r u).fsw = u.fsw := by
    intro u
    unfold actOnSwapWord receiveOffer receiveRequest receiveRelease
    repeat' split
    all_goals simp
  have noted : (noteMain r s).fsw = s.fsw := by
    unfold noteMain
    split <;> simp
  unfold receiveReport
  simp only []
  split
  · simp [acted, takeInHand, noted]
  · exact noted

theorem reset_slotLaw : SlotLaw Fsw.reset := by
  refine ⟨rfl, by decide, fun f hf => ?_⟩
  simp [heldFrames, Fsw.reset] at hf

theorem effect_slotLaw {s t : State} (e : Effect s t) (h : SlotLaw s.fsw) : SlotLaw t.fsw := by
  cases e with
  | stands => exact h
  | halted power _ => exact h
  | released t straps => exact reset_slotLaw
  | acted running act =>
    cases act with
    | stands => exact h
    | pulse e =>
      exact pulseEvent_induct (P := fun s => SlotLaw s.fsw) (fun _ _ h => h)
        (fun t palarm _ h => servingPulse_slotLaw t palarm h) (fun c s h => by simpa using h)
        (fun add s h => by simpa using h) e h
    | regainExpiry => obtain ⟨f, eq⟩ := regainExpiry_fcy s; rw [eq]; exact h
    | complete => obtain ⟨_, _, eq⟩ := complete_fcy s; rw [eq]; exact h
    | spend => obtain ⟨_, eq⟩ := spend_fcy s; rw [eq]; exact h
    | report r _ => rw [receiveReport_fsw]; exact h
    | link l _ => exact h
    | ingest c => rw [ingestCharacter_fsw]; exact h
    | symbol => exact h
    | loader =>
      exact moveHead_fsw_induct (fun id base n _ => runStart_slotLaw id base n)
        (fun id offset row _ _ full => windRow_slotLaw id offset row full)
        (fun id offset _ => frameEnd_slotLaw id offset) (fun id sent _ => runEnd_slotLaw id sent) h
    | request p r params palarm known =>
      simp only [sendReply_keeps]
      exact handler_slotLaw known p params h
    | ports palarm receiver reply waiting => exact h

/-- Settles O53: a step is one of the effects, and the wind part is touched by the units of a run, by adoption, by a
restart and by reset alone, each of which keeps the law. -/
theorem stepKeepsTheSlotLaw : Obligations.StepKeepsTheSlotLaw := by
  intro s t h law
  obtain ⟨q, e⟩ := step_effect h
  exact effect_slotLaw e law

end Sys2Proof.Machine
end

section
/-! PROOFS. The release from RESET and the laws in the reset state: O6 and O52. -/

namespace Sys2Proof.Machine

/-- The height of the default view (R51, R71). -/
theorem defaultPlan_h : Plan.default.h = 36863 := by decide

/-- The composition of frame 1 costs the overhead alone at every level: the store is empty (R126, R138). -/
theorem first_cost (budget : Nat) {level : Nat} (known : level ≤ 3) :
    costAt (Composition.first budget).snap level = 400 := by
  interval_cases level <;> rfl

/-- Both plans of a released part are the default plan (R71). -/
theorem released_plans (t : Time) (straps : Straps) (s : State) :
    ∀ plan, plan = (released t straps s).pln.draft ∨ plan = (released t straps s).pln.air → plan = Plan.default := by
  rintro plan (rfl | rfl) <;> rfl

/-- Settles O6: the release is `released`, whose blocks are the reset values; the rate and the roles follow the
straps. -/
theorem endOfHardResetSetsEveryOtherBlock : Obligations.EndOfHardResetSetsEveryOtherBlock := by
  have releases : ∀ t straps s, s.power = .inReset →
      exec (.endOfHardReset t straps) s = .next (released t straps s) := by
    intro t straps s held
    simp [exec, execEndOfHardReset, held]
  refine ⟨fun t straps s held => ⟨released t straps s, releases t straps s held, ?_⟩,
    fun t straps s held => ⟨released t straps s, releases t straps s held, ?_⟩⟩
  · refine ⟨rfl, rfl, rfl, rfl, rfl, rfl, fun plan either => ?_, rfl, fun p => ?_, rfl, rfl, fun p => ?_, rfl, rfl, rfl⟩
    · rw [released_plans t straps s plan either]
      exact ⟨rfl, rfl, rfl, rfl, defaultPlan_h, rfl, rfl, rfl, rfl, rfl⟩
    · cases p <;> exact ⟨rfl, rfl⟩
    · cases p <;> exact ⟨rfl, fun _ => rfl⟩
  · refine ⟨rfl, rfl, rfl, rfl, ⟨Composition.first (Config.budget (rateOf straps)), rfl, rfl, rfl,
      fun level => first_cost _, ?_⟩, ?_, rfl, rfl, rfl, rfl, rfl, rfl, rfl, rfl, rfl, rfl, rfl, ?_, rfl, rfl, rfl, rfl,
      rfl, rfl, rfl, rfl, rfl, rfl, rfl, rfl, rfl, fun p => ?_, rfl, rfl, rfl, rfl⟩
    · cases h : straps.frate <;> simp [Composition.first, rateOf, h, Config.budget]
    · cases h : straps.frate <;> simp [released, Ing.reset, rateOf, h, Config.budget]
    · cases h1 : straps.role1 <;> cases h0 : straps.role0 <;> simp [released, Opr.reset, rolesOf, h1, h0]
    · cases p <;> exact ⟨rfl, rfl, rfl, rfl, rfl, rfl, rfl, rfl⟩

/-! ### The laws in the reset state -/

theorem defaultPlan_planLaw : PlanLaw Plan.default := by
  refine ⟨by decide, by decide, by decide, by decide, by decide, by decide, rfl, fun g named => ?_,
    by decide, .nil, nofun⟩
  cases List.eq_of_mem_replicate named

theorem tkeReset_takeLaw : TakeLaw Tke.reset := by
  refine ⟨fun p => ?_, by decide, by decide, nofun⟩
  cases p <;> exact ⟨.nil, nofun, nofun⟩

theorem fstReset_laws : StationLaw Fst.reset ∧ SegmentLaw Fst.reset :=
  ⟨⟨by decide, .nil, nofun⟩, ⟨by decide, .nil, by decide, nofun⟩⟩

theorem reset_cycleLaw : CycleLaw State.reset :=
  ⟨by decide, by decide, fun started => absurd rfl started, fun _ => ⟨nofun, nofun⟩⟩

theorem ingReset_ingestLaw (rate : FrameRate) : IngestLaw (Ing.reset rate) := by
  cases rate <;> exact ⟨by decide, by decide, by decide, by decide, nofun, fun _ => by decide, nofun, by decide,
    fun _ => rfl, by decide⟩

/-- The composition of frame 1 has no gauge and no record before it, and nothing has been completed. -/
theorem reset_gaugeLaw : GaugeLaw State.reset := by
  refine ⟨nofun, fun c flight => ?_, nofun, nofun⟩
  obtain rfl := Option.some.inj flight
  exact ⟨nofun, nofun⟩

theorem cnuReset_healthLaw : HealthLaw Cnu.reset := by
  intro c
  cases c <;> decide

/-- Settles O52: each law holds of the reset value of its block. -/
theorem lawsHoldAfterReset : Obligations.LawsHoldAfterReset where
  slots := reset_slotLaw
  stations := fstReset_laws.1
  segments := fstReset_laws.2
  plans := ⟨defaultPlan_planLaw, defaultPlan_planLaw⟩
  hold := fun p waits => by cases p <;> cases waits
  takes := tkeReset_takeLaw
  level := ⟨by decide, by decide, fun _ => rfl⟩
  cycle := reset_cycleLaw
  ingest := ingReset_ingestLaw .fps25
  gauges := reset_gaugeLaw
  pair := rolesOf_pairLaw { frate := false, role1 := false, role0 := false }
  health := cnuReset_healthLaw

end Sys2Proof.Machine
end

section
/-! PROOFS. RESTART in every block (R33, R50, R72, R94, R139, R158, R175, R187): O49. -/

namespace Sys2Proof.Machine

/-! ### Restart, block by block -/

/-- A restart abandons a NEXT that is there, with its frames (R27, R33). -/
theorem abandonNext_eq (w : Fsw) : (w.next = none → abandonNext w = w) ∧
    (w.next.isSome → abandonNext w = { w with
      next := none, abandonment := w.abandonment + 1, slots := onNextFrames (fun _ => none) w.slots }) := by
  unfold abandonNext
  cases here : w.next with
  | none => exact ⟨fun _ => rfl, nofun⟩
  | some n => exact ⟨nofun, fun _ => rfl⟩

/-- The log after further records is the whole with its eight most recent kept (R90). -/
theorem foldl_appendLog (records : List Completion) : ∀ log : List Completion, log.length ≤ 8 →
    records.foldl appendLog log = (log ++ records).drop ((log ++ records).length - 8) := by
  induction records with
  | nil =>
    intro log short
    simp [Nat.sub_eq_zero_of_le short]
  | cons c rest ih =>
    intro log short
    have kept : (appendLog log c).length ≤ 8 := by
      simp only [appendLog, Config.takeLogSize, List.length_drop, List.length_append, List.length_singleton]
      omega
    have dropped : appendLog log c ++ rest = (log ++ c :: rest).drop (log.length + 1 - 8) := by
      simp only [appendLog, Config.takeLogSize]
      rw [← List.drop_append_of_le_length (by simp; omega)]
      simp
    rw [List.foldl_cons, ih _ kept, dropped, List.drop_drop, List.length_drop]
    congr 1
    simp only [List.length_append, List.length_cons]
    omega

/-- The ingest unit after a restart: the queue, the unit in reception and HOLD-OFF go, and CONTINUE is made where
HOLD-OFF was asserted with in-band symbols enabled (R157, R158). -/
theorem restart_ing {i j : Ing} (emptied : j = { i with
      queue := [], reception := none, gap := 0, overrun := none, holdOff := false
      lastError := i.lastError.map fun e => { e with unread := false } }) :
    markRead (resetIngest i) = if i.holdOff = true ∧ i.inBand = true then symbolMade .continue_ j else j := by
  subst emptied
  unfold resetIngest symbolIfEnabled
  cases i.holdOff
  · rfl
  · cases i.inBand
    · rfl
    · simp only [if_true, and_self, makeSymbol_eq]
      unfold symbolMade
      split <;> rfl

/-- A committed record is kept without its entries (R175). -/
theorem restartNegotiation_some (n : Negotiation) : restartNegotiation (some n) =
    if n.stage = .released ∨ n.stage = .releaseReceived then some { n with entries := [] } else none := by
  cases stage : n.stage <;> simp [restartNegotiation, stage]

/-- Only FAULT is pending after a restart (R187). -/
theorem restartAll_pending (s : State) (q : Port) : pendingSet (restartAll s) q =
    { fault := (s.cnu.raised.get q).fault, ingest := false, hold := false, take := false, run := false,
      step := false } := by
  have emptied : ∀ i : Ing, (markRead (resetIngest i)).queue = [] ∧
      (markRead (resetIngest i)).lastError = i.lastError.map fun e => { e with unread := false } := by
    intro i
    rw [restart_ing rfl]
    split
    · unfold symbolMade
      split <;> exact ⟨rfl, rfl⟩
    · exact ⟨rfl, rfl⟩
  have ingest : ingestCondition (restartAll s) = false := by
    refine Bool.eq_false_iff.mpr fun pending => ?_
    rcases (ingestCondition_iff _).mp pending with ⟨x, queued, -⟩ | ⟨e, last, unread⟩
    · rw [show (restartAll s).ing.queue = [] from (emptied s.ing).1] at queued
      cases queued
    · rw [show (restartAll s).ing.lastError = _ from (emptied s.ing).2, Option.map_eq_some_iff] at last
      obtain ⟨_, -, rfl⟩ := last
      cases unread
  unfold pendingSet
  rw [ingest]
  cases q <;> rfl

/-- A restart, block by block: the cycle and the tide and coast store are not touched (R16, R50, R187). -/
theorem restartAll_eq (s : State) : restartAll s = { s with
    fsw := abandonNext s.fsw
    pln := { s.pln with
      draft := Plan.default, air := Plan.default, hold := none, waiting := .both false, event := .both .none }
    tke := { s.tke with
      queue := [], completions := .both [], log := (restartRecords s).foldl appendLog s.tke.log, flushMark := true }
    cmp := { s.cmp with sticky := 0, relax := 0 }
    ing := markRead (resetIngest s.ing)
    opr := { s.opr with lineMode := .pass, negotiation := restartNegotiation s.opr.negotiation }
    cnu := { s.cnu with raised := { a := onlyFault s.cnu.raised.a, b := onlyFault s.cnu.raised.b } } } := rfl

/-- Settles O49: RESTART rewrites each block by its own rule, stated above. -/
theorem restartResetsEveryBlockSoftly : Obligations.RestartResetsEveryBlockSoftly := by
  intro p params s ready
  refine ⟨fun wrong => ?_, ?_, ?_⟩
  · obtain ⟨b, rest, rfl⟩ := List.exists_cons_of_ne_nil wrong
    exact congrArg Host.Outcome.next (request_refused ready rfl)
  · rintro rfl locked
    refine congrArg Host.Outcome.next (request_refused ready ?_)
    exact if_pos locked
  · rintro rfl unlocked
    have free : ¬ (endFrame p s).pln.lock.isSome = true := by simp [unlocked]
    refine ⟨restartAll s, congrArg Host.Outcome.next (request_done ready ((if_neg free).trans rfl)), ?_⟩
    have pending := restartAll_pending s
    rw [restartAll_eq] at pending ⊢
    refine ⟨rfl, rfl, rfl, rfl, rfl, (abandonNext_eq s.fsw).1, (abandonNext_eq s.fsw).2, rfl, rfl, rfl, unlocked,
      fun q => ?_, rfl, rfl, rfl, ?_, rfl, fun i => restart_ing, rfl, fun n record => ?_, fun none_open => ?_, rfl,
      pending⟩
    · cases q <;> exact ⟨rfl, rfl, rfl⟩
    · rintro short log rfl
      exact foldl_appendLog _ _ short
    · simp only [record, restartNegotiation_some]
    · simp only [none_open, restartNegotiation]

end Sys2Proof.Machine
end

section
/-! PROOFS. The submission of a take other than a SWAP (R73 to R76, R88, R90): O39. -/

namespace Sys2Proof.Machine

/-! ### The place of a new take (R76) -/

/-- A new entry stands before the first entry whose due frame it does not reach. -/
theorem insertEntry_split (e : TakeEntry) (queue : List TakeEntry) : ∃ before after, queue = before ++ after ∧
    insertEntry e queue = before ++ e :: after ∧ (∀ x ∈ before, reached x.due e.due = true) ∧
    ∀ x, after.head? = some x → reached x.due e.due = false := by
  induction queue with
  | nil => exact ⟨[], [], rfl, rfl, by simp, by simp⟩
  | cons x rest ih =>
    by_cases passes : reached x.due e.due = true
    · obtain ⟨before, after, split, placed, reach, stop⟩ := ih
      refine ⟨x :: before, after, by rw [split]; rfl, ?_, List.forall_mem_cons.mpr ⟨passes, reach⟩, stop⟩
      rw [insertEntry, if_pos passes, placed]
      rfl
    · refine ⟨[], x :: rest, rfl, if_neg passes, by simp, fun y first => ?_⟩
      obtain rfl := Option.some.inj first
      exact Bool.eq_false_iff.mpr passes

/-- In a queue whose entries that `due` reaches stand before the others, no entry after the first unreached one is
reached (R76). -/
theorem unreached_after {due : Word32} {before after : List TakeEntry}
    (stop : ∀ x, after.head? = some x → reached x.due due = false)
    (ordered : ∀ first later, before ++ after = first ++ later → ∀ x ∈ first, ∀ y ∈ later,
      reached y.due due = true → reached x.due due = true) : ∀ y ∈ after, reached y.due due = false := by
  cases after with
  | nil => simp
  | cons x rest =>
    have unreached := stop x rfl
    refine List.forall_mem_cons.mpr ⟨unreached, fun y hy => Bool.eq_false_iff.mpr fun reachedY => ?_⟩
    have reachedX := ordered (before ++ [x]) rest (by simp) x (by simp) y hy reachedY
    rw [unreached] at reachedX
    cases reachedX

/-! ### Acceptance (R73 to R75) -/

/-- A port's tag is BUSY when the port uses it (R74). -/
theorem tagBusy_eq_false {s : State} {p : Port} {tag : Nat} (free : tag ∉ usedTags s.tke p) :
    tagBusy s p tag = false := by
  simp only [usedTags, List.mem_append, List.mem_map, List.mem_filter, decide_eq_true_eq, not_or, not_exists,
    not_and] at free
  obtain ⟨queued, listed⟩ := free
  refine Bool.or_eq_false_iff.mpr ⟨List.any_eq_false.mpr fun e he => ?_, List.any_eq_false.mpr fun c hc => ?_⟩
  · simpa using fun own => queued e ⟨he, own⟩
  · simpa using listed c hc

/-- A submission within its ranges under a free tag is accepted with its entry (R73, R76). -/
theorem reqSubmitTake_accepts {p : Port} {s : State} {tag kind flags d0 d1 d2 d3 n0 n1 c0 c1 c2 c3 mode : Byte}
    {k : TakeKind} (low : tag.toNat ≤ 7)
    (known : takeKindOf kind.toNat (le16 n0 n1).toNat (le32 c0 c1 c2 c3) mode.toNat = some k)
    (free : tag.toNat ∉ usedTags s.tke p) :
    reqSubmitTake p [tag, kind, flags, d0, d1, d2, d3, n0, n1, c0, c1, c2, c3, mode] s =
      acceptTake (newEntry p tag.toNat k (flags.getLsbD 0) (flags.getLsbD 1) (flags.getLsbD 2) (le32 d0 d1 d2 d3) s)
        s := by
  simp [reqSubmitTake, Nat.not_lt.mpr low, known, tagBusy_eq_false free]

/-- The entry of an accepted take other than a SWAP with the due frame it uses (R75, R76). -/
def queuedEntry (p : Port) (tag : Nat) (k : TakeKind) (urgent force : Bool) (due : Word32) (s : State) : TakeEntry where
  port := p
  tag := tag
  kind := k
  due := due
  urgent := urgent
  force := force
  past := reached due (s.fcy.count + 1)
  state := .queued
  abandonment := if k = .adopt then s.fsw.abandonment else 0#32

theorem newEntry_of_not_swap {k : TakeKind} (cut : k ≠ .swap) (p : Port) (tag : Nat) (urgent force next : Bool)
    (submitted : Word32) (s : State) :
    newEntry p tag k urgent force next submitted s =
      queuedEntry p tag k urgent force (if next then s.fcy.count + 2 else submitted) s := by
  simp [newEntry, dueFrameUsed, pastAt, cut, queuedEntry]

/-- The parameters of a take other than a SWAP give its kind (R73). -/
theorem takeKindOf_of_params {kind mode : Byte} {n : Nat} {target : Word32} {k : TakeKind}
    (h : (kind = 0#8 ∧ n ≤ 250 ∧ k = .publish n) ∨ (kind = 1#8 ∧ 1 ≤ n ∧ n ≤ 1000 ∧ k = .sweep n target) ∨
      (kind = 2#8 ∧ k = .adopt) ∨ (kind = 3#8 ∧ ((mode = 0#8 ∧ k = .line .live) ∨ (mode = 1#8 ∧ k = .line .pass) ∨
        (mode = 2#8 ∧ k = .line .check)))) :
    takeKindOf kind.toNat n target mode.toNat = some k ∧ k ≠ .swap := by
  rcases h with ⟨rfl, few, rfl⟩ | ⟨rfl, some_, few, rfl⟩ | ⟨rfl, rfl⟩ | ⟨rfl, ⟨rfl, rfl⟩ | ⟨rfl, rfl⟩ | ⟨rfl, rfl⟩⟩
  · exact ⟨if_pos few, nofun⟩
  · exact ⟨by simp [takeKindOf, some_, few], nofun⟩
  all_goals exact ⟨rfl, nofun⟩

/-- The log after one more record (R90). -/
theorem appendLog_eq (log : List Completion) (c : Completion) :
    appendLog log c = (log ++ [c]).drop ((log ++ [c]).length - 8) := by
  simp [appendLog, Config.takeLogSize]

/-- A take that is past and not URGENT completes TOO LATE (R75). -/
theorem acceptTake_tooLate {e : TakeEntry} {s : State} (cut : e.kind ≠ .swap) (past : e.past = true)
    (waits : e.urgent = false) : acceptTake e s = completeAtAcceptance e .tooLate s := by
  simp [acceptTake, cut, past, waits]

/-- A take that is not past, or URGENT, enters the queue (R75, R76). -/
theorem acceptTake_queued {e : TakeEntry} {s : State} (cut : e.kind ≠ .swap)
    (timely : e.past = false ∨ e.urgent = true) : acceptTake e s = enqueueTake e s := by
  rcases timely with h | h <;> simp [acceptTake, cut, h]

/-- Settles O39: the submission's entry completes TOO LATE at acceptance, or is put into the queue at its place. -/
theorem submittedTakesAreQueuedOrTooLate : Obligations.SubmittedTakesAreQueuedOrTooLate := by
  rintro p s tag kind flags d0 d1 d2 d3 n0 n1 c0 c1 c2 c3 mode n k due params ready isParams rfl low free valid used
  obtain ⟨known, cut⟩ := takeKindOf_of_params valid
  obtain ⟨e, isE⟩ : ∃ e, e = queuedEntry p tag.toNat k (flags.getLsbD 0) (flags.getLsbD 1) due s := ⟨_, rfl⟩
  have accepted : reqSubmitTake p params (endFrame p s) = acceptTake e (endFrame p s) := by
    rw [isParams, reqSubmitTake_accepts (s := endFrame p s) low known free, newEntry_of_not_swap cut, isE, used]
    rfl
  have eKind : e.kind ≠ .swap := by rw [isE]; exact cut
  refine ⟨fun past waits => ?_, fun timely => ?_⟩
  · refine ⟨completionOf e .tooLate (s.fcy.count + 1), by rw [isE]; rfl, by rw [isE]; rfl, by rw [isE]; rfl, rfl, rfl,
      by rw [isE]; rfl, congrArg Host.Outcome.next (request_done ready ?_)⟩
    rw [accepted, acceptTake_tooLate eKind (by rw [isE]; exact past) (by rw [isE]; exact waits), ← appendLog_eq]
    rw [isE]
    rfl
  · obtain ⟨before, after, split, placed, reach, stop⟩ := insertEntry_split e s.tke.queue
    have eDue : e.due = due := by rw [isE]; rfl
    rw [eDue] at reach stop
    refine ⟨e, before, after, by rw [isE]; rfl, by rw [isE]; rfl, by rw [isE]; rfl, eDue, by rw [isE]; rfl,
      by rw [isE]; rfl, by rw [isE]; rfl, by rw [isE]; rfl, fun adopts => ?_, split, reach, stop, ?_,
      congrArg Host.Outcome.next (request_done ready ?_)⟩
    · rw [isE]
      exact if_pos adopts
    · rw [split]
      exact unreached_after stop
    · rw [accepted, acceptTake_queued eKind (by rw [isE]; exact timely), ← placed, ← eDue]
      rfl

end Sys2Proof.Machine
end

section
/-! PROOFS. READ RUN STATUS and READ FRAME TABLE (R28 to R30): O35. -/

namespace Sys2Proof.Machine

/-! ### Frames counted (R28) -/

theorem countClamped_eq (o : Owner) (w : Fsw) :
    countClamped o w.slots = (heldFrames w).countP fun f => f.owner = o && f.clamped := by
  rw [heldFrames, List.countP_filterMap]
  refine List.countP_congr fun slot _ => ?_
  cases slot <;> rfl

/-- Every slot is FREE or holds a frame of one run in one state. -/
theorem countFrames_total (slots : List (Option WindFrame)) :
    slots.countP Option.isNone + (countFrames .current .complete slots + (countFrames .current .incomplete slots +
      (countFrames .current .filling slots + (countFrames .next .complete slots + (countFrames .next .incomplete slots +
        countFrames .next .filling slots))))) = slots.length := by
  induction slots with
  | nil => rfl
  | cons slot rest ih =>
    unfold countFrames at ih ⊢
    simp only [List.countP_cons, List.length_cons, ← ih]
    cases slot with
    | none => simp; omega
    | some f => cases owner : f.owner <;> cases state : f.state <;> simp [owner, state] <;> omega

/-- A count of slots fits a byte. -/
theorem byte_countP {w : Fsw} (size : w.slots.length = 48) (f : Option WindFrame → Bool) :
    (byte (w.slots.countP f)).toNat = w.slots.countP f := by
  have few : w.slots.countP f ≤ 48 := size ▸ List.countP_le_length
  rw [byte, BitVec.toNat_ofNat, Nat.mod_eq_of_lt (by omega)]

/-! ### The layout of READ RUN STATUS (R28) -/

/-- The seven counts of slots and the two of clamped frames, bytes 22 to 30. -/
def slotCounts (w : Fsw) : List Byte :=
  [byte (w.slots.countP Option.isNone), byte (countFrames .current .complete w.slots),
   byte (countFrames .current .incomplete w.slots), byte (countFrames .current .filling w.slots),
   byte (countFrames .next .complete w.slots), byte (countFrames .next .incomplete w.slots),
   byte (countFrames .next .filling w.slots), byte (countClamped .current w.slots), byte (countClamped .next w.slots)]

/-- NEXT in the reading, bytes 8 to 17: ten zeros when it is ABSENT (R28; log 33). -/
def nextBytes : Option NextRun → List Byte
  | none => List.replicate 10 0
  | some n => nextCode (some n) :: (runBytes (some n.run) ++ [byte n.sent, flagByte [n.short]])

theorem runBytes_length (r : Option RunRecord) : (runBytes r).length = 7 := by
  cases r <;> rfl

theorem nextBytes_length (n : Option NextRun) : (nextBytes n).length = 10 := by
  cases n <;> rfl

/-- The reading is CURRENT, NEXT, the abandonment number and the counts. -/
theorem runStatus_eq (w : Fsw) : runStatus w =
    byte (bit w.current.isSome) ::
      (runBytes w.current ++ (nextBytes w.next ++ (bytes32 w.abandonment ++ slotCounts w))) := by
  cases next : w.next with
  | none => simp [runStatus, next, nextBytes, runBytes, slotCounts, nextCode, byte, flagByte, bits, bit]
  | some n => simp [runStatus, next, nextBytes, runBytes, slotCounts]

theorem runStatus_length (w : Fsw) : (runStatus w).length = 31 := by
  simp [runStatus_eq, runBytes_length, nextBytes_length, bytes32, slotCounts]

theorem runStatus_current (w : Fsw) : ((runStatus w).drop 1).take 7 = runBytes w.current := by
  rw [runStatus_eq, List.drop_succ_cons, List.drop_zero, List.take_left' (runBytes_length _)]

theorem runStatus_drop (w : Fsw) :
    (runStatus w).drop 8 = nextBytes w.next ++ (bytes32 w.abandonment ++ slotCounts w) := by
  rw [runStatus_eq, List.drop_succ_cons, List.drop_left' (runBytes_length _)]

theorem runStatus_next (w : Fsw) : ((runStatus w).drop 8).take 10 = nextBytes w.next := by
  rw [runStatus_drop, List.take_left' (nextBytes_length w.next)]

theorem runStatus_tail (w : Fsw) : (runStatus w).drop 18 = bytes32 w.abandonment ++ slotCounts w := by
  rw [← List.drop_left' (l₂ := bytes32 w.abandonment ++ slotCounts w) (nextBytes_length w.next), ← runStatus_drop,
    List.drop_drop]

theorem runStatus_counts (w : Fsw) : (runStatus w).drop 22 = slotCounts w := by
  rw [← List.drop_left' (l₁ := bytes32 w.abandonment) (l₂ := slotCounts w) (i := 4) rfl, ← runStatus_tail,
    List.drop_drop]

/-- A byte of the counts by its place in the reading. -/
theorem runStatus_getD (w : Fsw) (i : Nat) : (runStatus w).getD (22 + i) 0#8 = (slotCounts w).getD i 0#8 := by
  rw [← runStatus_counts, List.getD_eq_getElem?_getD, List.getD_eq_getElem?_getD, List.getElem?_drop]

/-- The seven counts of slots add up to 48. -/
theorem slotCounts_sum {w : Fsw} (size : w.slots.length = 48) :
    (((slotCounts w).take 7).map BitVec.toNat).sum = 48 := by
  have total := countFrames_total w.slots
  rw [size] at total
  simpa [slotCounts, byte_countP size, countFrames] using total

/-- The count of each run's frames in each state stands at its place (R28). -/
theorem slotCounts_frames {w : Fsw} (size : w.slots.length = 48) {i : Nat} {owner : Owner} {state : FrameState}
    (place : [(Owner.current, FrameState.complete), (.current, .incomplete), (.current, .filling),
      (.next, .complete), (.next, .incomplete), (.next, .filling)][i]? = some (owner, state)) :
    ((slotCounts w).getD (1 + i) 0#8).toNat = (heldFrames w).countP fun f => f.owner = owner && f.state = state := by
  have held : ∀ o st, (byte (countFrames o st w.slots)).toNat =
      (heldFrames w).countP fun f => f.owner = o && f.state = st := by
    intro o st
    rw [List.countP_eq_length_filter, ← countFrames_eq]
    exact byte_countP size _
  rcases i with _ | _ | _ | _ | _ | _ | i
  case succ => simp at place
  all_goals
    obtain ⟨rfl, rfl⟩ := Prod.mk.inj (Option.some.inj place)
    exact held _ _

theorem slotCounts_clamped {w : Fsw} (size : w.slots.length = 48) :
    ((slotCounts w).getD 7 0#8).toNat = ((heldFrames w).countP fun f => f.owner = .current && f.clamped) ∧
    ((slotCounts w).getD 8 0#8).toNat = (heldFrames w).countP fun f => f.owner = .next && f.clamped := by
  rw [← countClamped_eq, ← countClamped_eq]
  exact ⟨byte_countP size _, byte_countP size _⟩

/-! ### The frame table (R30) -/

theorem slotSummary_length (q : Option WindFrame × Nat) : (slotSummary q.2 q.1).length = 8 := by
  obtain ⟨slot, n⟩ := q
  cases slot <;> rfl

/-- The summaries are those of the slots in turn, each with its number. -/
theorem slotSummaries_eq (slots : List (Option WindFrame)) (n : Nat) :
    slotSummaries n slots = ((slots.zipIdx n).map fun q => slotSummary q.2 q.1).flatten := by
  induction slots generalizing n with
  | nil => rfl
  | cons slot rest ih => simp [slotSummaries, ih]

theorem slotSummary_eq (n : Nat) (slot : Option WindFrame) : slotSummary n slot = BitVec.ofNat 8 n ::
    match slot with
    | none => List.replicate 7 0#8
    | some f =>
      BitVec.ofNat 8 ((match f.owner with | .current => 1 | .next => 2) +
        4 * (match f.state with | .filling => 0 | .complete => 1 | .incomplete => 2) +
        16 * (if f.clamped then 1 else 0)) :: (nat16 f.offset ++ bytes32 f.mask) := by
  cases slot with
  | none => rfl
  | some f =>
    obtain ⟨owner, offset, state, mask, clamped, grid⟩ := f
    cases owner <;> cases state <;> cases clamped <;> rfl

/-- The reading of the table: the start, the number of summaries, and the summaries (R30). -/
def frameTable (start : Byte) (slots : List (Option WindFrame)) : List Byte :=
  start :: byte (min 24 (48 - start.toNat)) ::
    slotSummaries start.toNat ((slots.drop start.toNat).take (min 24 (48 - start.toNat)))

theorem reqReadFrameTable_done (p : Port) {start : Byte} (s : State) (low : start.toNat ≤ 47) :
    reqReadFrameTable p [start] s = done (frameTable start s.fsw.slots) s := by
  simp [reqReadFrameTable, frameTable, Nat.not_lt.mpr low]

theorem frameTable_length {slots : List (Option WindFrame)} (size : slots.length = 48) (start : Byte) :
    (frameTable start slots).length = 2 + 8 * min 24 (48 - start.toNat) := by
  rw [frameTable, List.length_cons, List.length_cons, slotSummaries_eq, length_flatten_uniform slotSummary_length]
  simp [size, Nat.add_comm 2]

/-- The summary at an index is that of the slot so far from the start. -/
theorem frameTable_entry {slots : List (Option WindFrame)} (size : slots.length = 48) {start : Byte} {i : Nat}
    (within : i < min 24 (48 - start.toNat)) : ((frameTable start slots).drop (2 + 8 * i)).take 8 =
      slotSummary (start.toNat + i) (slots.getD (start.toNat + i) none) := by
  have place : start.toNat + i < slots.length := by omega
  have found : (((slots.drop start.toNat).take (min 24 (48 - start.toNat))).zipIdx start.toNat)[i]? =
      some (slots.getD (start.toNat + i) none, start.toNat + i) := by
    rw [List.getElem?_zipIdx, List.getElem?_take_of_lt within, List.getElem?_drop, List.getD_eq_getElem _ _ place,
      List.getElem?_eq_getElem place]
    rfl
  rw [frameTable, Nat.add_comm 2, List.drop_succ_cons, List.drop_succ_cons, slotSummaries_eq,
    take_drop_flatten slotSummary_length _ i _ found]

/-- Settles O35: the readings are the layouts above. -/
theorem runsAndFramesAreRead : Obligations.RunsAndFramesAreRead := by
  intro p params s ready size
  refine ⟨fun wrong => ?_, ?_, ?_, ?_⟩
  · obtain ⟨b, rest, rfl⟩ := List.exists_cons_of_ne_nil wrong
    exact congrArg Host.Outcome.next (request_refused ready rfl)
  · rintro rfl
    have flag : ∀ b : Bool, byte (bit b) = if b then 1#8 else 0#8 := by decide
    refine ⟨runStatus s.fsw, congrArg Host.Outcome.next (request_done ready rfl), runStatus_length _, ?_, ?_, ?_, ?_,
      ?_, ?_, ?_, ?_, ?_, ?_, ?_⟩
    · rw [runStatus_eq]
      exact flag _
    · intro r current
      rw [runStatus_current, current]
      rfl
    · intro absent
      rw [runStatus_current, absent]
      rfl
    · intro n next
      rw [runStatus_next, next]
      obtain ⟨state, run, sent, short⟩ := n
      cases state <;> cases short <;> rfl
    · intro absent
      rw [runStatus_next, absent]
      rfl
    · rw [runStatus_tail]
      rfl
    · rw [runStatus_counts]
      exact slotCounts_sum size
    · rw [runStatus_getD _ 0]
      refine (byte_countP size _).trans (List.countP_congr fun slot _ => ?_)
      cases slot <;> simp
    · intro i owner state place
      rw [show 23 + i = 22 + (1 + i) by omega, runStatus_getD]
      exact slotCounts_frames size place
    · rw [runStatus_getD _ 7]
      exact (slotCounts_clamped size).1
    · rw [runStatus_getD _ 8]
      exact (slotCounts_clamped size).2
  · intro wrong
    refine congrArg Host.Outcome.next (request_refused ready ?_)
    unfold reqReadFrameTable
    split
    · rcases wrong with wrong | ⟨start, isStart, high⟩
      · exact absurd rfl wrong
      · obtain rfl := List.singleton_inj.mp isStart
        exact if_pos high
    · rfl
  · rintro start rfl low
    refine ⟨frameTable start s.fsw.slots,
      congrArg Host.Outcome.next (request_done ready (reqReadFrameTable_done p (endFrame p s) low)),
      frameTable_length size start, rfl,
      fun i within => (frameTable_entry size within).trans (slotSummary_eq _ _)⟩

end Sys2Proof.Machine
end

section
/-! PROOFS. The loader's move and the units of a run (R19 to R24, R27, R141, R151 to R154). -/

namespace Sys2Proof.Machine

/-! ### Numbers in payloads (R141) -/

/-- Two bytes make up their word. -/
theorem le16_bytes16 (w : Word16) : le16 (w.extractLsb' 0 8) (w.extractLsb' 8 8) = w := by
  rw [le16, BitVec.extractLsb'_append_extractLsb'_eq_extractLsb' (by decide)]
  exact BitVec.extractLsb'_eq_self

/-- Four bytes make up their word. -/
theorem le32_bytes32 (w : Word32) :
    le32 (w.extractLsb' 0 8) (w.extractLsb' 8 8) (w.extractLsb' 16 8) (w.extractLsb' 24 8) = w := by
  rw [le32, BitVec.extractLsb'_append_extractLsb'_eq_extractLsb' (by decide),
    BitVec.extractLsb'_append_extractLsb'_eq_extractLsb' (by decide),
    BitVec.extractLsb'_append_extractLsb'_eq_extractLsb' (by decide)]
  exact BitVec.extractLsb'_eq_self

theorem parsePairs_cons (u v : Word16) (rest : List Byte) :
    parsePairs (bytes16 u ++ bytes16 v ++ rest) = { u := u.toInt, v := v.toInt } :: parsePairs rest := by
  simp only [bytes16, List.cons_append, List.nil_append, parsePairs, le16_bytes16]

/-- The pairs of a row are read back from their bytes. -/
theorem parsePairs_bytes (pairs : List (Word16 × Word16)) :
    parsePairs (pairs.map fun q => bytes16 q.1 ++ bytes16 q.2).flatten =
      pairs.map fun q => { u := q.1.toInt, v := q.2.toInt } := by
  induction pairs with
  | nil => rfl
  | cons q rest ih =>
    rw [List.map_cons, List.flatten_cons, parsePairs_cons, ih]
    rfl

/-! ### The loader's hand-over to the wind part (R152, R153) -/

/-- A loader move of a good head within the grant hands its content on. -/
theorem loaderMove_good {s m : State} {head : IngestUnit} {rest : List IngestUnit} {type_ : Byte} {cost : Nat}
    (running : s.power = .running) (queue : s.ing.queue = head :: rest) (good : head.mark = .none)
    (typed : head.type_ = some type_) (isCost : cost = if type_ = 0x02#8 then 200 else 20) (grant : cost ≤ s.ing.grant)
    (taken : m = headTaken rest cost s) : exec .loaderMove s = .next (loadGood type_ head.payload m) := by
  have costs : moveCost head = cost := by simp [moveCost, good, typed, isCost]
  rw [← costs] at grant taken
  simp [exec, execLoaderMove, running, moveHead_eq queue grant, dealWith, good, typed, taken]

/-- A unit that the wind part takes. -/
theorem afterWind_done {f : Fsw → LoaderOutcome × Fsw} {m : State} {w : Fsw} (h : f m.fsw = (.done, w)) (type_ : Byte)
    (id : Word16) : afterWind type_ id (onWind f m) = { m with fsw := w } := by
  simp [afterWind, onWind, h]

/-- A unit that the wind part refuses. -/
theorem afterWind_error {f : Fsw → LoaderOutcome × Fsw} {m : State} {w : Fsw} {k : LoaderErrorKind}
    (h : f m.fsw = (.error k, w)) (type_ : Byte) (id : Word16) :
    afterWind type_ id (onWind f m) = loaderFailed k type_ id 0 { m with fsw := w } := by
  simp [afterWind, onWind, h, loaderError_eq]

/-! ### CURRENT and NEXT (R17) -/

theorem isCurrent_iff {w : Fsw} {id : Word16} : isCurrent w id = true ↔ ∃ run, w.current = some run ∧ run.id = id := by
  unfold isCurrent
  cases w.current <;> simp

theorem isOpenNext_iff {w : Fsw} {id : Word16} :
    isOpenNext w id = true ↔ ∃ n, w.next = some n ∧ n.state = .opened ∧ n.run.id = id := by
  unfold isOpenNext
  cases w.next <;> simp

theorem isCurrent_eq_false {w : Fsw} {id : Word16} (other : ∀ run, w.current = some run → run.id ≠ id) :
    isCurrent w id = false :=
  Bool.eq_false_iff.mpr fun same => by
    obtain ⟨run, here, eq⟩ := isCurrent_iff.mp same
    exact other run here eq

theorem isOpenNext_eq_false {w : Fsw} {id : Word16}
    (other : ∀ n, w.next = some n → ¬ (n.state = .opened ∧ n.run.id = id)) : isOpenNext w id = false :=
  Bool.eq_false_iff.mpr fun same => by
    obtain ⟨n, here, eq⟩ := isOpenNext_iff.mp same
    exact other n here eq

/-! ### RUN START (R20) -/

theorem clampNat_eq (lo hi n : Nat) : clampNat lo hi n = if n < lo then lo else if hi < n then hi else n := rfl

/-- RUN START opens NEXT with its id, base time and clamped count, abandoning a NEXT that was there (R20, R27). -/
theorem runStart_opens {id : Word16} {w : Fsw} (named : id ≠ 0#16) (other : isCurrent w id = false)
    (fresh : isOpenNext w id = false) (base : Word32) (expected : Nat) : runStart id base expected w = (.done, {
      current := w.current
      next := some { state := .opened, run := { id := id, base := base, expected := clampNat 1 48 expected },
                     sent := 0, short := false }
      abandonment := if w.next.isSome then w.abandonment + 1 else w.abandonment
      slots := if w.next.isSome then onNextFrames (fun _ => none) w.slots else w.slots }) := by
  have zero : ¬ id = 0 := named
  rw [runStart, if_neg zero, other, if_neg Bool.false_ne_true, fresh, if_neg Bool.false_ne_true]
  cases next : w.next with
  | none => simp [abandonNext, next]
  | some n =>
    simp only [abandonNext, next, Option.isSome_some, if_true]
    rfl

theorem runStart_range (base : Word32) (expected : Nat) (w : Fsw) :
    runStart 0#16 base expected w = (.error .range, w) := rfl

theorem runStart_closed {id : Word16} {w : Fsw} (named : id ≠ 0#16) (same : isCurrent w id = true) (base : Word32)
    (expected : Nat) : runStart id base expected w = (.error .closed, w) := by
  have zero : ¬ id = 0 := named
  rw [runStart, if_neg zero, if_pos same]

theorem runStart_again {id : Word16} {w : Fsw} (named : id ≠ 0#16) (other : isCurrent w id = false)
    (same : isOpenNext w id = true) (base : Word32) (expected : Nat) : runStart id base expected w = (.done, w) := by
  have zero : ¬ id = 0 := named
  rw [runStart, if_neg zero, other, if_neg Bool.false_ne_true, if_pos same]

/-! ### WIND ROW (R21, R22) -/

theorem markShort_some {w : Fsw} {n : NextRun} (here : w.next = some n) :
    markShort w = { w with next := some { n with short := true } } := by
  unfold markShort
  rw [here]

theorem onNextFrame_eq (offset : Nat) (f : WindFrame → WindFrame) (slots : List (Option WindFrame)) :
    onNextFrame offset f slots = onNextFrames (fun g => some (if g.offset = offset then f g else g)) slots := by
  refine List.map_congr_left fun slot _ => ?_
  cases slot with
  | none => rfl
  | some g => by_cases own : g.owner = .next <;> by_cases name : g.offset = offset <;> simp [isNextFrame, own, name]

/-- A stored component is the carried one in its range. -/
theorem clampWind_eq (c : Int) : clampWind c = max (-1000) (min 1000 c) := clampInt_eq (by decide) c

/-- A pair is clamped when one of its components is out of range. -/
theorem clampPair_ne_iff (u v : Int) : clampPair { u := u, v := v } ≠ { u := u, v := v } ↔
    u < -1000 ∨ 1000 < u ∨ v < -1000 ∨ 1000 < v := by
  simp only [clampPair, clampWind_eq, ne_eq, WindPair.mk.injEq]
  omega

/-- A row's pairs as carried are stored with their clamps (R22). -/
theorem storeRow_eq (row : Nat) (pairs : List (Word16 × Word16)) (f : WindFrame) :
    storeRow row (pairs.map fun q => { u := q.1.toInt, v := q.2.toInt }) f = { f with
      state := .filling
      mask := f.mask ||| (1#32 <<< row)
      clamped := f.clamped || pairs.any fun q =>
        q.1.toInt < -1000 || 1000 < q.1.toInt || q.2.toInt < -1000 || 1000 < q.2.toInt
      grid := f.grid.set row (pairs.map fun q =>
        { u := max (-1000) (min 1000 q.1.toInt), v := max (-1000) (min 1000 q.2.toInt) }) } := by
  have clamps : rowClamps (pairs.map fun q => { u := q.1.toInt, v := q.2.toInt }) = pairs.any fun q =>
      q.1.toInt < -1000 || 1000 < q.1.toInt || q.2.toInt < -1000 || 1000 < q.2.toInt := by
    rw [rowClamps, List.any_map]
    refine congrArg pairs.any (funext fun q => Bool.eq_iff_iff.mpr ?_)
    simp [clampPair_ne_iff, or_assoc]
  have stored : (pairs.map fun q : Word16 × Word16 => ({ u := q.1.toInt, v := q.2.toInt } : WindPair)).map clampPair =
      pairs.map fun q => { u := max (-1000) (min 1000 q.1.toInt), v := max (-1000) (min 1000 q.2.toInt) } := by
    simp [clampPair, clampWind_eq]
  rw [storeRow, clamps, stored]
  rfl

/-- The id tests of WIND ROW, FRAME END and RUN END (R21, R23, R24). -/
theorem runUnit_closed {w : Fsw} {id : Word16} (same : isCurrent w id = true) :
    (∀ offset row pairs, windRow id offset row pairs w = (.error .closed, w)) ∧
    (∀ offset, frameEnd id offset w = (.error .closed, w)) ∧ ∀ sent, runEnd id sent w = (.error .closed, w) := by
  simp [windRow, frameEnd, runEnd, same]

theorem runUnit_order {w : Fsw} {id : Word16} (other : isCurrent w id = false) (closed : isOpenNext w id = false) :
    (∀ offset row pairs, windRow id offset row pairs w = (.error .order, w)) ∧
    (∀ offset, frameEnd id offset w = (.error .order, w)) ∧ ∀ sent, runEnd id sent w = (.error .order, w) := by
  simp [windRow, frameEnd, runEnd, other, closed]

section OpenNext

variable {w : Fsw} {id : Word16} {offset row : Nat} {pairs : List WindPair} (other : isCurrent w id = false)
  (opened : isOpenNext w id = true)

include other opened

theorem windRow_range (beyond : 4320 < offset ∨ 31 < row) : windRow id offset row pairs w = (.error .range, w) := by
  rcases beyond with beyond | beyond <;> simp [windRow, other, opened, beyond]

/-- WIND ROW for an offset that NEXT holds. -/
theorem windRow_stores (valid : offset ≤ 4320) (inGrid : row ≤ 31)
    (here : ∃ f ∈ heldFrames w, f.owner = .next ∧ f.offset = offset) : windRow id offset row pairs w =
      (.done, { w with slots := onNextFrame offset (storeRow row pairs) w.slots }) := by
  have found : nextFrame offset w.slots ≠ none := fun none_held => by
    obtain ⟨f, hf, name⟩ := here
    exact nextFrame_eq_none.mp none_held f hf name
  obtain ⟨f, isFound⟩ := Option.ne_none_iff_exists'.mp found
  simp [windRow, other, opened, Nat.not_lt.mpr valid, Nat.not_lt.mpr inGrid, isFound]

/-- WIND ROW for an offset that NEXT does not hold, with a FREE slot. -/
theorem windRow_claims (valid : offset ≤ 4320) (inGrid : row ≤ 31)
    (absent : ∀ f ∈ heldFrames w, ¬ (f.owner = .next ∧ f.offset = offset)) {before later : List (Option WindFrame)}
    (free : w.slots = before ++ none :: later) (taken : ∀ x ∈ before, x ≠ none) : windRow id offset row pairs w =
      (.done, { w with slots := before ++ some (storeRow row pairs (newFrame offset)) :: later }) := by
  have missing := nextFrame_eq_none.mpr absent
  simp only [windRow, other, opened, Nat.not_lt.mpr valid, Nat.not_lt.mpr inGrid, missing, Bool.false_eq_true,
    Bool.not_true, if_false]
  rw [free, claimSlot_free _ later before taken]

/-- WIND ROW for an offset that NEXT does not hold, with no FREE slot: NEXT becomes short. -/
theorem windRow_full (valid : offset ≤ 4320) (inGrid : row ≤ 31)
    (absent : ∀ f ∈ heldFrames w, ¬ (f.owner = .next ∧ f.offset = offset)) (full : ∀ x ∈ w.slots, x ≠ none) :
    windRow id offset row pairs w = (.error .full, markShort w) := by
  have missing := nextFrame_eq_none.mpr absent
  simp [windRow, other, opened, Nat.not_lt.mpr valid, Nat.not_lt.mpr inGrid, missing, claimSlot_full _ _ full]

/-! ### FRAME END and RUN END (R23, R24) -/

theorem frameEnd_range (beyond : 4320 < offset) : frameEnd id offset w = (.error .range, w) := by
  simp [frameEnd, other, opened, beyond]

theorem frameEnd_order (valid : offset ≤ 4320)
    (absent : ∀ f ∈ heldFrames w, ¬ (f.owner = .next ∧ f.offset = offset)) :
    frameEnd id offset w = (.error .order, w) := by
  have missing := nextFrame_eq_none.mpr absent
  simp [frameEnd, other, opened, Nat.not_lt.mpr valid, missing]

theorem frameEnd_closes (valid : offset ≤ 4320) (here : ∃ f ∈ heldFrames w, f.owner = .next ∧ f.offset = offset) :
    frameEnd id offset w = (.done, { w with slots := onNextFrame offset closeFrame w.slots }) := by
  have found : nextFrame offset w.slots ≠ none := fun none_held => by
    obtain ⟨f, hf, name⟩ := here
    exact nextFrame_eq_none.mp none_held f hf name
  obtain ⟨f, isFound⟩ := Option.ne_none_iff_exists'.mp found
  simp [frameEnd, other, opened, Nat.not_lt.mpr valid, isFound]

theorem runEnd_ends {n : NextRun} (next : w.next = some n) (sent : Nat) :
    runEnd id sent w = (.done, { w with next := some (endRun sent n w.slots) }) := by
  simp [runEnd, other, opened, next]

end OpenNext

/-- READY: every frame of NEXT is COMPLETE, and their number is the one expected and the one sent (R24). -/
theorem readyTest_iff (w : Fsw) (n : NextRun) {frames : List WindFrame}
    (isFrames : frames = (heldFrames w).filter fun f => f.owner = .next) : readyTest n w.slots = true ↔
      n.short = false ∧ (∀ f ∈ frames, f.state = .complete) ∧ frames.length = n.run.expected ∧
        frames.length = n.sent := by
  have counts : ∀ st, countFrames .next st w.slots = (frames.filter fun f => f.state = st).length := by
    intro st
    rw [countFrames_eq, isFrames, List.filter_filter]
    congr 2
    funext f
    rw [Bool.and_comm]
  have allComplete : (∀ f ∈ frames, f.state = .complete) ↔ (frames.filter fun f => f.state = .filling).length = 0 ∧
      (frames.filter fun f => f.state = .incomplete).length = 0 := by
    simp only [List.length_eq_zero_iff, List.filter_eq_nil_iff, decide_eq_true_eq, ← forall₂_and]
    refine forall₂_congr fun f _ => ?_
    cases f.state <;> decide
  have whole : (∀ f ∈ frames, f.state = .complete) → frames.filter (fun f => f.state = .complete) = frames :=
    fun every => List.filter_eq_self.mpr fun f hf => decide_eq_true (every f hf)
  simp only [readyTest, counts, Bool.and_eq_true, Bool.not_eq_true', decide_eq_true_eq, and_assoc]
  refine and_congr_right fun _ => ?_
  rw [← and_assoc, ← allComplete]
  refine and_congr_right fun every => ?_
  rw [whole every]

/-! ### The units of a run from the loader (R141, R153) -/

theorem loadRunStart_of {pay : List Byte} {i0 i1 b0 b1 b2 b3 n : Byte} (carried : pay = [i0, i1, b0, b1, b2, b3, n])
    (m : State) : loadGood 0x01#8 pay m =
      afterWind 0x01#8 (i1 ++ i0) (onWind (runStart (i1 ++ i0) ((b3 ++ b2) ++ (b1 ++ b0)) n.toNat) m) := by
  subst carried
  rfl

theorem loadWindRow_of {pay rest : List Byte} {i0 i1 o0 o1 row : Byte}
    (carried : pay = i0 :: i1 :: o0 :: o1 :: row :: rest) (size : rest.length = 192) (m : State) : loadGood 0x02#8 pay m =
      afterWind 0x02#8 (i1 ++ i0)
        (onWind (windRow (i1 ++ i0) (o1 ++ o0 : Word16).toNat row.toNat (parsePairs rest)) m) := by
  subst carried
  exact if_pos size

theorem loadFrameEnd_of {pay : List Byte} {i0 i1 o0 o1 : Byte} (carried : pay = [i0, i1, o0, o1]) (m : State) :
    loadGood 0x03#8 pay m =
      afterWind 0x03#8 (i1 ++ i0) (onWind (frameEnd (i1 ++ i0) (o1 ++ o0 : Word16).toNat) m) := by
  subst carried
  rfl

theorem loadRunEnd_of {pay : List Byte} {i0 i1 n : Byte} (carried : pay = [i0, i1, n]) (m : State) :
    loadGood 0x04#8 pay m = afterWind 0x04#8 (i1 ++ i0) (loadRunEnd (i1 ++ i0) n.toNat m) := by
  subst carried
  rfl

theorem loadStationUnit_of_none {pay : List Byte} (misfit : parseStation pay = none) (m : State) :
    loadStationUnit pay m = loaderError .size 0x05#8 0#16 0 m := by
  unfold loadStationUnit
  split
  · rfl
  · next fits => rw [misfit] at fits; cases fits

theorem loadStationUnit_of_some {pay : List Byte} {c : CarriedStation} (fits : parseStation pay = some c) (m : State) :
    loadStationUnit pay m = afterTide c.number (loadTideStation c m) := by
  unfold loadStationUnit
  split
  · next misfit => rw [fits] at misfit; cases misfit
  · next found => rw [Option.some.inj (fits.symm.trans found)]

/-- A payload of a wrong length is a SIZE error (R153). -/
theorem loadGood_size {type_ : Byte} {pay : List Byte}
    (wrong : type_ = 0x01#8 ∧ pay.length ≠ 7 ∨ type_ = 0x02#8 ∧ pay.length ≠ 197 ∨ type_ = 0x03#8 ∧ pay.length ≠ 4 ∨
      type_ = 0x04#8 ∧ pay.length ≠ 3 ∨
      type_ = 0x05#8 ∧ (pay.length < 8 ∨ pay.length ≠ 8 + 8 * (pay.getD 7 0#8).toNat)) (m : State) :
    loadGood type_ pay m = loaderFailed .size type_ 0#16 0 m := by
  rw [← loaderError_eq]
  rcases wrong with ⟨rfl, wrong⟩ | ⟨rfl, wrong⟩ | ⟨rfl, wrong⟩ | ⟨rfl, wrong⟩ | ⟨rfl, wrong⟩
  · show loadRunStart pay m = _
    unfold loadRunStart
    split
    · exact absurd rfl wrong
    · rfl
  · show loadWindRow pay m = _
    unfold loadWindRow
    split
    · next rest => exact if_neg fun size => wrong (by simp [size])
    · rfl
  · show loadFrameEnd pay m = _
    unfold loadFrameEnd
    split
    · exact absurd rfl wrong
    · rfl
  · show loadRunEndUnit pay m = _
    unfold loadRunEndUnit
    split
    · exact absurd rfl wrong
    · rfl
  · show loadStationUnit pay m = _
    have refused : parseStation pay = none := by
      unfold parseStation
      split
      · next rest =>
        refine if_neg fun size => ?_
        simp only [List.length_cons, size, List.getD_cons_succ, List.getD_cons_zero] at wrong
        omega
      · rfl
    exact loadStationUnit_of_none refused m

/-- A type of no unit is a TYPE error (R153). -/
theorem loadGood_type {type_ : Byte} (unknown : type_.toNat = 0 ∨ 5 < type_.toNat) (pay : List Byte) (m : State) :
    loadGood type_ pay m = loaderFailed .type_ type_ 0#16 0 m := by
  have other : ∀ b : Byte, 1 ≤ b.toNat → b.toNat ≤ 5 → type_ ≠ b := by
    rintro b low high rfl
    omega
  rw [← loaderError_eq]
  rw [loadGood, if_neg (other 0x01 (by decide) (by decide)), if_neg (other 0x02 (by decide) (by decide)),
    if_neg (other 0x03 (by decide) (by decide)), if_neg (other 0x04 (by decide) (by decide)),
    if_neg (other 0x05 (by decide) (by decide))]

/-- What the wind part refuses of a run by its id is a loader error that names the run, and leaves the store (R154). -/
theorem loadGood_refused {type_ i0 i1 : Byte} {pay tail : List Byte} (carried : pay = i0 :: i1 :: tail)
    (sized : type_ = 0x02#8 ∧ pay.length = 197 ∨ type_ = 0x03#8 ∧ pay.length = 4 ∨ type_ = 0x04#8 ∧ pay.length = 3)
    {m : State} {k : LoaderErrorKind}
    (refuses : (∀ offset row pairs, windRow (i1 ++ i0) offset row pairs m.fsw = (.error k, m.fsw)) ∧
      (∀ offset, frameEnd (i1 ++ i0) offset m.fsw = (.error k, m.fsw)) ∧
      ∀ sent, runEnd (i1 ++ i0) sent m.fsw = (.error k, m.fsw)) :
    loadGood type_ pay m = loaderFailed k type_ (i1 ++ i0) 0 m := by
  obtain ⟨row, frame, finish⟩ := refuses
  subst carried
  rcases sized with ⟨rfl, size⟩ | ⟨rfl, size⟩ | ⟨rfl, size⟩
  · match tail, size with
    | o0 :: o1 :: r :: rest, size =>
      rw [loadWindRow_of rfl (by simpa using size)]
      exact afterWind_error (row _ _ _) _ _
    | [_, _], size => simp at size
    | [_], size => simp at size
    | [], size => simp at size
  · obtain ⟨o0, o1, rfl⟩ := List.length_eq_two.mp (by simpa using size)
    rw [loadFrameEnd_of rfl]
    exact afterWind_error (frame _) _ _
  · obtain ⟨n, rfl⟩ := List.length_eq_one_iff.mp (by simpa using size)
    rw [loadRunEnd_of rfl, loadRunEnd, finish]
    exact loaderError_eq _ _ _ _ _

/-- RUN END that is taken raises the RUN notice (R24). -/
theorem loadRunEnd_done {id : Word16} {sent : Nat} {m : State} {w : Fsw} (h : runEnd id sent m.fsw = (.done, w))
    (type_ : Byte) : afterWind type_ id (loadRunEnd id sent m) = { m with
      fsw := w
      cnu := { m.cnu with raised :=
        { a := { m.cnu.raised.a with run := true }, b := { m.cnu.raised.b with run := true } } } } := by
  rw [loadRunEnd, h]
  rfl

end Sys2Proof.Machine
end

section
/-! PROOFS. TIDE STATION from the loader (R35 to R37), and the loader's move of every unit: O23. -/

namespace Sys2Proof.Machine

/-! ### Station records in payloads (R35 to R37) -/

/-- A signed number of 16 bits is read back from its bytes. -/
theorem toInt_int16 {z : Int} (low : -32768 ≤ z) (high : z ≤ 32767) :
    (le16 ((BitVec.ofInt 16 z).extractLsb' 0 8) ((BitVec.ofInt 16 z).extractLsb' 8 8)).toInt = z := by
  rw [le16_bytes16]
  exact BitVec.toInt_ofInt_eq_self (by decide) (by omega) (by omega)

theorem toNat_byte {n : Nat} (small : n ≤ 255) : (byte n).toNat = n :=
  Nat.mod_eq_of_lt (by omega)

theorem parseConstituents_cons {c : Constituent} (small : c.amp ≤ 65535) (rest : List Byte) :
    parseConstituents (c.bytes ++ rest) = c :: parseConstituents rest := by
  have amp : (BitVec.ofNat 16 c.amp).toNat = c.amp := Nat.mod_eq_of_lt (by omega)
  simp only [Constituent.bytes, bytes32, nat16, bytes16, List.cons_append, List.nil_append, parseConstituents,
    le16_bytes16, le32_bytes32, amp]

theorem parseConstituents_bytes (l : List Constituent) (small : ∀ c ∈ l, c.amp ≤ 65535) :
    parseConstituents (l.map Constituent.bytes).flatten = l := by
  induction l with
  | nil => rfl
  | cons c rest ih =>
    obtain ⟨first, others⟩ := List.forall_mem_cons.mp small
    rw [List.map_cons, List.flatten_cons, parseConstituents_cons first, ih others]

/-- What a TIDE STATION carries of a record. -/
def Station.carried (c : Station) : CarriedStation where
  number := c.number
  z0 := c.z0
  hmin := c.hmin
  hmax := c.hmax
  k := c.constituents.length
  constituents := c.constituents

/-- The values of a record fit the record format. -/
structure Station.Fits (c : Station) : Prop where
  number : c.number ≤ 255
  z0 : -32768 ≤ c.z0 ∧ c.z0 ≤ 32767
  hmin : -32768 ≤ c.hmin ∧ c.hmin ≤ 32767
  hmax : -32768 ≤ c.hmax ∧ c.hmax ≤ 32767
  terms : c.constituents.length ≤ 255
  amps : ∀ x ∈ c.constituents, x.amp ≤ 65535

/-- A record that fits the format is read back from its bytes. -/
theorem parseStation_bytes {c : Station} (fits : c.Fits) : parseStation c.bytes = some c.carried := by
  have size : (c.constituents.map Constituent.bytes).flatten.length = 8 * c.constituents.length :=
    length_flatten_uniform (f := Constituent.bytes) (fun _ => rfl) c.constituents
  simp only [Station.bytes, int16, bytes16, List.cons_append, List.nil_append, parseStation, size, if_true,
    toInt_int16 fits.z0.1 fits.z0.2, toInt_int16 fits.hmin.1 fits.hmin.2, toInt_int16 fits.hmax.1 fits.hmax.2,
    toNat_byte fits.number, toNat_byte fits.terms, parseConstituents_bytes _ fits.amps]
  rfl

/-- The record a carried one makes (R35). -/
theorem storedStation_eq {c st : Station} {source : Source} (number : st.number = c.number)
    (z0 : st.z0 = max (-2000) (min 8000 c.z0)) (hmin : st.hmin = max (-3000) (min 12000 c.hmin))
    (hmax : st.hmax = max (-3000) (min 12000 c.hmax))
    (terms : st.constituents = c.constituents.map (fun x => { x with amp := min 8000 x.amp }))
    (isSource : st.source = source)
    (clamped : st.clamped = true ↔ ¬ (st.z0 = c.z0 ∧ st.hmin = c.hmin ∧ st.hmax = c.hmax ∧
      st.constituents = c.constituents)) : storedStation source c.carried = st := by
  have amps : c.constituents.map clampAmp = st.constituents := by
    rw [terms]
    refine List.map_congr_left fun x _ => ?_
    rw [clampAmp, clampNat_eq]
    congr 1
    split
    · omega
    · split <;> omega
  have flag : (st.z0 ≠ c.z0 || st.hmin ≠ c.hmin || st.hmax ≠ c.hmax || st.constituents ≠ c.constituents) =
      st.clamped := by
    refine Bool.eq_iff_iff.mpr ?_
    rw [clamped]
    simp only [Bool.or_eq_true, decide_eq_true_eq]
    tauto
  simp only [storedStation, Station.carried, clampInt_eq (show (-2000 : Int) ≤ 8000 by decide),
    clampInt_eq (show (-3000 : Int) ≤ 12000 by decide), ← z0, ← hmin, ← hmax, amps, flag, ← number, ← isSource]

/-! ### The station table (R34, R37) -/

/-- An element put into an ascending list replaces the one of its key: the list holds it and the others, ascending. -/
theorem insertByKey_spec {α : Type} (key : α → Nat) (x : α) (l : List α) (asc : (l.map key).Pairwise (· < ·)) :
    (insertByKey key x l).Perm (x :: l.filter fun y => key y ≠ key x) ∧
      ((insertByKey key x l).map key).Pairwise (· < ·) := by
  induction l with
  | nil => exact ⟨.refl _, by simp [insertByKey]⟩
  | cons y rest ih =>
    obtain ⟨first, others⟩ := List.pairwise_cons.mp asc
    have above : ∀ z ∈ rest, key y < key z := fun z hz => first _ (List.mem_map_of_mem hz)
    have keeps : key x ≤ key y → rest.filter (fun z => key z ≠ key x) = rest := fun low =>
      List.filter_eq_self.mpr fun z hz => decide_eq_true (by have := above z hz; omega)
    rcases Nat.lt_trichotomy (key x) (key y) with below | same | beyond
    · have differ : key y ≠ key x := by omega
      rw [insertByKey, if_pos below, List.filter_cons_of_pos (by simpa using differ), keeps (by omega)]
      refine ⟨.refl _, List.pairwise_cons.mpr ⟨fun k hk => ?_, asc⟩⟩
      obtain ⟨z, hz, rfl⟩ := List.mem_map.mp hk
      rcases List.mem_cons.mp hz with rfl | later
      · exact below
      · exact below.trans (above z later)
    · rw [insertByKey, if_neg (by omega), if_pos same, List.filter_cons_of_neg (by simp [same]), keeps (by omega)]
      refine ⟨.refl _, List.pairwise_cons.mpr ⟨fun k hk => ?_, others⟩⟩
      rw [same]
      exact first k hk
    · obtain ⟨perm, sorted⟩ := ih others
      have differ : key y ≠ key x := by omega
      rw [insertByKey, if_neg (by omega), if_neg (by omega), List.filter_cons_of_pos (by simpa using differ)]
      refine ⟨(perm.cons y).trans (.swap _ _ _), List.pairwise_cons.mpr ⟨fun k hk => ?_, sorted⟩⟩
      obtain ⟨z, hz, rfl⟩ := List.mem_map.mp hk
      rcases List.mem_cons.mp (perm.mem_iff.mp hz) with rfl | later
      · exact beyond
      · exact above z (List.mem_of_mem_filter later)

/-- A carried record is structurally impossible by the values its stored one would have (R36). -/
theorem impossible_iff {c st : Station} (hmin : st.hmin = max (-3000) (min 12000 c.hmin))
    (hmax : st.hmax = max (-3000) (min 12000 c.hmax)) : impossible c.carried = true ↔
      c.number = 0 ∨ c.constituents = [] ∨ 16 < c.constituents.length ∨ st.hmax ≤ st.hmin := by
  simp only [impossible, Bool.or_eq_true, decide_eq_true_eq, or_assoc]
  simp only [Station.carried, clampInt_eq (show (-3000 : Int) ≤ 12000 by decide), ← hmin, ← hmax,
    List.length_eq_zero_iff]

/-- The table is full for a number when the others alone fill it (R34, R37). -/
theorem stationFull_iff {number : Nat} {l : List Station} (few : l.length ≤ 32) :
    stationFull number l = true ↔ (l.filter fun x => x.number ≠ number).length = 32 := by
  have absent : hasStation number l = false ↔ (l.filter fun x => x.number ≠ number).length = l.length := by
    simp [hasStation, findStation, List.length_filter_eq_length_iff]
  have shorter : (l.filter fun x => x.number ≠ number).length ≤ l.length := List.length_filter_le _ _
  simp only [stationFull, Bool.and_eq_true, Bool.not_eq_true', decide_eq_true_eq, absent]
  simp only [Config.maxStations]
  omega

/-- A record within its ranges is not structurally impossible (R36). -/
theorem possible_of_law {c st : Station} (stored : storedStation .loader c.carried = st) (law : RecordLaw st)
    (impossible_ : impossible c.carried = true ↔
      c.number = 0 ∨ c.constituents = [] ∨ 16 < c.constituents.length ∨ st.hmax ≤ st.hmin) :
    impossible c.carried = false := by
  obtain ⟨low, -, -, -, -, scale, -, held, few, -⟩ := law
  have number : st.number = c.number := by rw [← stored]; rfl
  have terms : st.constituents.length = c.constituents.length := by rw [← stored]; exact List.length_map _
  refine Bool.eq_false_iff.mpr fun bad => ?_
  rcases impossible_.mp bad with zero | empty | many | flat
  · omega
  · rw [terms, empty] at held
    cases held
  · omega
  · omega

/-- A TIDE STATION of a record that fits the format is dealt with by its carried values (R37, R153). -/
theorem loadStation_of {c : Station} (fits : c.Fits) (m : State) :
    loadGood 0x05#8 c.bytes m = afterTide c.number (loadTideStation c.carried m) :=
  loadStationUnit_of_some (parseStation_bytes fits) m

/-- A structurally impossible record is a RANGE error (R36). -/
theorem loadStation_range {c : Station} (fits : c.Fits) (bad : impossible c.carried = true) (m : State) :
    loadGood 0x05#8 c.bytes m = loaderFailed .range 0x05#8 0#16 c.number m := by
  rw [loadStation_of fits, loadTideStation, if_pos bad]
  exact loaderError_eq _ _ _ _ _

/-- A record without room in the table is a FULL error (R37). -/
theorem loadStation_full {c : Station} (fits : c.Fits) (good : impossible c.carried = false) {m : State}
    (full : stationFull c.number m.fst.stations = true) :
    loadGood 0x05#8 c.bytes m = loaderFailed .full 0x05#8 0#16 c.number m := by
  rw [loadStation_of fits, loadTideStation, good, if_neg Bool.false_ne_true]
  exact (congrArg (afterTide c.number) (if_pos full)).trans (loaderError_eq _ _ _ _ _)

/-- Any other record is stored in its place (R34, R37). -/
theorem loadStation_stores {c : Station} (fits : c.Fits) (good : impossible c.carried = false) {m : State}
    (room : stationFull c.number m.fst.stations = false) :
    loadGood 0x05#8 c.bytes m = { m with fst := putStation (storedStation .loader c.carried) m.fst } := by
  have free : ¬ stationFull c.carried.number m.fst.stations = true := Bool.eq_false_iff.mp room
  rw [loadStation_of fits, loadTideStation, good, if_neg Bool.false_ne_true, if_neg free]
  rfl

/-- Settles O23: a head that is moved is paid and handed on by `loaderMove_good`, and each unit acts as stated above. -/
theorem loaderMovesTheHeadForItsCost : Obligations.LoaderMovesTheHeadForItsCost := by
  intro s running
  have moves : exec .loaderMove s = .next (moveHead s) := by simp [exec, execLoaderMove, running]
  refine ⟨fun empty => by rw [moves, moveHead, empty], fun head rest queue => ⟨?_, ?_, ?_⟩⟩
  · intro cost isCost beyond
    have costs : moveCost head = cost := isCost.symm
    rw [moves, moveHead, queue]
    exact congrArg Host.Outcome.next (if_neg (by omega))
  · rintro m rfl marked grant
    have costs : moveCost head = 5 := if_pos marked
    rw [moves, moveHead_eq queue (by omega), costs, dealWith, if_pos marked, increase_eq]
    rfl
  · intro cost type_ pay m good typed isPay isCost grant taken
    have handed := loaderMove_good running queue good typed isCost grant taken
    have store : m.fsw = s.fsw := by rw [taken]; rfl
    have tides : m.fst = s.fst := by rw [taken]; rfl
    have ports : m.cnu = s.cnu := by rw [taken]; rfl
    rw [handed, isPay, ← store, ← tides, ← ports]
    clear handed store tides ports taken
    simp only [Host.Outcome.next.injEq]
    refine ⟨fun unknown => loadGood_type unknown _ _, fun wrong => loadGood_size wrong _, ?_, ?_, ?_, ?_, ?_, ?_⟩
    · -- RUN START (R20)
      rintro i0 i1 b0 b1 b2 b3 n rfl carried id isId
      rw [loadRunStart_of carried, ← isId]
      refine ⟨?_, fun named same => ?_, fun named other => ⟨fun same => ?_, fun fresh => ?_⟩⟩
      · rintro rfl
        exact afterWind_error (runStart_range _ _ _) _ _
      · exact afterWind_error (runStart_closed named (isCurrent_iff.mpr same) _ _) _ _
      · exact afterWind_done (runStart_again named (isCurrent_eq_false other) (isOpenNext_iff.mpr same) _ _) _ _
      · have notOpen := isOpenNext_eq_false fun next here both => fresh next here both.1 both.2
        rw [afterWind_done (runStart_opens named (isCurrent_eq_false other) notOpen _ _), clampNat_eq]
    · -- WIND ROW, FRAME END and RUN END by their run's id (R21, R23, R24)
      rintro i0 i1 tail carried id rfl sized
      refine ⟨fun same => ?_, fun other notOpen => ?_⟩
      · exact loadGood_refused carried sized (runUnit_closed (isCurrent_iff.mpr same))
      · exact loadGood_refused carried sized (runUnit_order (isCurrent_eq_false other) (isOpenNext_eq_false notOpen))
    · -- WIND ROW of an OPEN NEXT (R21, R22)
      rintro i0 i1 o0 o1 row pairs next rfl size carried here opened named other offset isOffset
      have bytes : (pairs.map fun q => bytes16 q.1 ++ bytes16 q.2).flatten.length = 192 := by
        rw [length_flatten_uniform (n := 4) (fun _ => rfl), size]
      have notCurrent := isCurrent_eq_false other
      have isOpen : isOpenNext m.fsw (i1 ++ i0) = true := isOpenNext_iff.mpr ⟨next, here, opened, named⟩
      rw [loadWindRow_of (rest := (pairs.map fun q => bytes16 q.1 ++ bytes16 q.2).flatten) carried bytes, ← isOffset,
        parsePairs_bytes]
      refine ⟨fun beyond => afterWind_error (windRow_range notCurrent isOpen beyond) _ _, ?_⟩
      intro store isStore valid inGrid
      have stores : storeRow row.toNat (pairs.map fun q => { u := q.1.toInt, v := q.2.toInt }) = store :=
        funext fun f => (storeRow_eq row.toNat pairs f).trans (isStore f).symm
      refine ⟨fun held => ?_, fun absent => ⟨fun before later free taken => ?_, fun full => ?_⟩⟩
      · rw [afterWind_done (windRow_stores notCurrent isOpen valid inGrid held), stores, onNextFrame_eq]
      · rw [afterWind_done (windRow_claims notCurrent isOpen valid inGrid absent free taken), stores]
        rfl
      · rw [afterWind_error (windRow_full notCurrent isOpen valid inGrid absent full), markShort_some here]
    · -- FRAME END of an OPEN NEXT (R23)
      rintro i0 i1 o0 o1 next rfl carried here opened named other offset isOffset
      have notCurrent := isCurrent_eq_false other
      have isOpen : isOpenNext m.fsw (i1 ++ i0) = true := isOpenNext_iff.mpr ⟨next, here, opened, named⟩
      rw [loadFrameEnd_of carried, ← isOffset]
      refine ⟨fun beyond => ?_, fun valid => ⟨fun absent => ?_, fun held => ?_⟩⟩
      · exact afterWind_error (frameEnd_range notCurrent isOpen beyond) _ _
      · exact afterWind_error (frameEnd_order notCurrent isOpen valid absent) _ _
      · rw [afterWind_done (frameEnd_closes notCurrent isOpen valid held), onNextFrame_eq]
        rfl
    · -- RUN END of an OPEN NEXT (R24)
      rintro i0 i1 n next rfl carried here opened named other frames isFrames
      have isOpen : isOpenNext m.fsw (i1 ++ i0) = true := isOpenNext_iff.mpr ⟨next, here, opened, named⟩
      rw [loadRunEnd_of carried, loadRunEnd_done (runEnd_ends (isCurrent_eq_false other) isOpen here _), endRun]
      simp only [readyTest_iff m.fsw { next with sent := n.toNat } isFrames]
    · -- TIDE STATION (R35 to R37)
      rintro c st rfl rfl number zLow zHigh minLow minHigh maxLow maxHigh terms amps isNumber isZ isMin isMax isTerms
        source clamped law
      have fits : c.Fits := ⟨number, ⟨zLow, zHigh⟩, ⟨minLow, minHigh⟩, ⟨maxLow, maxHigh⟩, terms, amps⟩
      have stored := storedStation_eq isNumber isZ isMin isMax isTerms source clamped
      refine ⟨fun bad => loadStation_range fits ((impossible_iff isMin isMax).mpr bad) m, ?_⟩
      intro others recordLaw isOthers
      have possible := possible_of_law stored recordLaw (impossible_iff isMin isMax)
      have full := stationFull_iff (number := st.number) law.1
      rw [← isOthers, isNumber] at full
      refine ⟨fun whole => loadStation_full fits possible (full.mpr whole), fun room => ?_⟩
      have free := Bool.eq_false_iff.mpr (mt full.mp (Nat.ne_of_lt room))
      obtain ⟨perm, asc⟩ := insertByKey_spec Station.number st m.fst.stations law.2.1
      rw [← isOthers] at perm
      exact ⟨putStation st m.fst, rfl, perm, asc, by rw [loadStation_stores fits possible free, stored]⟩

end Sys2Proof.Machine
end

section
/-! PROOFS. What a step can do to the tide and coast store, said once as `FstWrite`, and the laws of the station table
and the segment list, which each write keeps (R34 to R36, R43): O54. -/

namespace Sys2Proof.Machine

/-! ### Records and segments as they come from a link or a port (R35, R36, R43, R45) -/

/-- Eight bytes make a constituent (R35). -/
theorem parseConstituents_length (l : List Byte) : (parseConstituents l).length = l.length / 8 := by
  induction l using parseConstituents.induct with
  | case1 o0 o1 o2 o3 a0 a1 p0 p1 rest ih =>
    simp only [parseConstituents, List.length_cons, ih]
    omega
  | case2 l short =>
    have few : l.length < 8 := by
      by_contra many
      match l, many with
      | _ :: _ :: _ :: _ :: _ :: _ :: _ :: _ :: _, _ => exact short _ _ _ _ _ _ _ _ _ rfl
      | [], many | [_], many | [_, _], many | [_, _, _], many | [_, _, _, _], many | [_, _, _, _, _], many
      | [_, _, _, _, _, _], many | [_, _, _, _, _, _, _], many => simp at many
    rw [parseConstituents, Nat.div_eq_of_lt few]
    · rfl
    · exact short

/-- Four bytes make a point (R45). -/
theorem parsePoints_length (l : List Byte) : (parsePoints l).length = l.length / 4 := by
  induction l using parsePoints.induct with
  | case1 x0 x1 y0 y1 rest ih =>
    simp only [parsePoints, List.length_cons, ih]
    omega
  | case2 l short =>
    have few : l.length < 4 := by
      by_contra many
      match l, many with
      | _ :: _ :: _ :: _ :: _, _ => exact short _ _ _ _ _ rfl
      | [], many | [_], many | [_, _], many | [_, _, _], many => simp at many
    rw [parsePoints, Nat.div_eq_of_lt few]
    · rfl
    · exact short

/-- A carried record has a number of one byte and as many constituents as its count says (R37, R38). -/
theorem parseStation_carries {params : List Byte} {c : CarriedStation} (parsed : parseStation params = some c) :
    c.number ≤ 255 ∧ c.constituents.length = c.k := by
  unfold parseStation at parsed
  split at parsed
  · next n _ _ _ _ _ _ k rest =>
    split at parsed
    · next size =>
      cases parsed
      exact ⟨Nat.le_of_lt_succ n.isLt, by simp [parseConstituents_length, size]⟩
    · cases parsed
  · cases parsed

/-- The points of LOAD SEGMENT are as many as its count says (R45). -/
theorem parseSegment_carries {params : List Byte} {id code n : Nat} {pts : List Point}
    (parsed : parseSegment params = some (id, code, n, pts)) : pts.length = n := by
  unfold parseSegment at parsed
  split at parsed
  · split at parsed
    · next size =>
      cases parsed
      simp [parsePoints_length, size]
    · cases parsed
  · cases parsed

/-- A record that is not structurally impossible is stored within its ranges (R35, R36). -/
theorem storedStation_law (source : Source) {c : CarriedStation}
    (carries : c.number ≤ 255 ∧ c.constituents.length = c.k) (possible : impossible c = false) : RecordLaw (storedStation source c) := by
  obtain ⟨number, terms⟩ := carries
  simp only [impossible, Bool.or_eq_false_iff, decide_eq_false_iff_not,
    clampInt_eq (show (-3000 : Int) ≤ 12000 by decide)] at possible
  obtain ⟨⟨⟨named, held⟩, few⟩, scale⟩ := possible
  have amps : ∀ x ∈ c.constituents.map clampAmp, x.amp ≤ 8000 := by
    intro x hx
    obtain ⟨y, -, rfl⟩ := List.mem_map.mp hx
    show clampNat 0 8000 y.amp ≤ 8000
    rw [clampNat_eq]
    split
    · exact Nat.zero_le _
    · split <;> omega
  simp only [RecordLaw, storedStation, clampInt_eq (show (-3000 : Int) ≤ 12000 by decide),
    clampInt_eq (show (-2000 : Int) ≤ 8000 by decide), List.length_map, terms]
  exact ⟨by omega, number, by omega, by omega, by omega, by omega, by omega, by omega, by omega, amps⟩

/-! ### Bounding boxes (R43) -/

theorem leastOf_le {n : Nat} {l : List Nat} (top : Nat) (mem : n ∈ l) : leastOf l top ≤ n := by
  induction l with
  | nil => cases mem
  | cons m rest ih =>
    rcases List.mem_cons.mp mem with rfl | later
    · exact Nat.min_le_left _ _
    · exact (Nat.min_le_right _ _).trans (ih later)

theorem le_greatestOf {n : Nat} {l : List Nat} (mem : n ∈ l) : n ≤ greatestOf l := by
  induction l with
  | nil => cases mem
  | cons m rest ih =>
    rcases List.mem_cons.mp mem with rfl | later
    · exact Nat.le_max_left _ _
    · exact (ih later).trans (Nat.le_max_right _ _)

/-- A segment with its bounding box (R43). -/
def segmentOf (id : Nat) (cls : SegClass) (pts : List Point) : Segment where
  id := id
  cls := cls
  points := pts
  box := boxOf pts

/-- A segment that passes LOAD SEGMENT's range tests lies within its ranges and in its box (R43, R45). -/
theorem segmentOf_law {id : Nat} {pts : List Point} (cls : SegClass) (low : 1 ≤ id) (high : id ≤ 4095)
    (several : 2 ≤ pts.length) (few : pts.length ≤ 60) : OneSegmentLaw (segmentOf id cls pts) :=
  ⟨low, high, several, few, fun _ hq =>
    ⟨leastOf_le _ (List.mem_map_of_mem hq), le_greatestOf (List.mem_map_of_mem hq),
      leastOf_le _ (List.mem_map_of_mem hq), le_greatestOf (List.mem_map_of_mem hq)⟩⟩

/-! ### The station table written (R34) -/

/-- The table holds no record of a number when the others are all of it. -/
theorem hasStation_eq_false {number : Nat} {l : List Station} :
    hasStation number l = false ↔ (l.filter fun x => x.number ≠ number).length = l.length := by
  simp [hasStation, findStation, List.length_filter_eq_length_iff]

/-- A record put into a table with room for it joins the others. -/
theorem StationLaw.put {f : Fst} {st : Station} (h : StationLaw f) (law : RecordLaw st)
    (room : stationFull st.number f.stations = false) : StationLaw (putStation st f) := by
  obtain ⟨few, asc, each⟩ := h
  obtain ⟨perm, sorted⟩ := insertByKey_spec Station.number st f.stations asc
  have others : (f.stations.filter fun x => x.number ≠ st.number).length ≤ f.stations.length :=
    List.length_filter_le _ _
  have notWhole := mt (stationFull_iff few).mpr (Bool.eq_false_iff.mp room)
  refine ⟨?_, sorted, fun x hx => ?_⟩
  · calc (putStation st f).stations.length = (f.stations.filter fun x => x.number ≠ st.number).length + 1 :=
          perm.length_eq
      _ ≤ 32 := by omega
  · rcases List.mem_cons.mp (perm.mem_iff.mp hx) with rfl | old
    · exact law
    · exact each x (List.mem_of_mem_filter old)

theorem StationLaw.remove {f : Fst} (h : StationLaw f) (number : Nat) : StationLaw (removeStation number f) := by
  obtain ⟨few, asc, each⟩ := h
  exact ⟨(List.length_filter_le _ _).trans few, asc.sublist (List.filter_sublist.map _),
    fun x hx => each x (List.mem_of_mem_filter hx)⟩

/-! ### The segment list written (R43, R44) -/

theorem poolUse_eq (l : List Segment) : poolUse l = (l.map fun g => g.points.length).sum := rfl

/-- The list holds no segment of an id when the others are all of it. -/
theorem isNone_findSegment_iff {id : Nat} {l : List Segment} :
    (findSegment id l).isNone = true ↔ (l.filter fun g => g.id ≠ id).length = l.length := by
  simp [findSegment, List.length_filter_eq_length_iff]

/-- The pool is used by the segment of an id and by the others. -/
theorem poolUse_split (id : Nat) {l : List Segment} (asc : (l.map Segment.id).Pairwise (· < ·)) :
    poolUse l = poolUse (l.filter fun g => g.id ≠ id) + oldPoints id l := by
  induction l with
  | nil => rfl
  | cons g rest ih =>
    obtain ⟨first, others⟩ := List.pairwise_cons.mp asc
    have whole : poolUse (g :: rest) = g.points.length + poolUse rest := rfl
    by_cases same : g.id = id
    · have kept : rest.filter (fun x => x.id ≠ id) = rest := List.filter_eq_self.mpr fun x hx =>
        decide_eq_true (by have := first _ (List.mem_map_of_mem hx); omega)
      have old : oldPoints id (g :: rest) = g.points.length := by simp [oldPoints, findSegment, same]
      rw [List.filter_cons_of_neg (by simp [same]), kept, whole, old, Nat.add_comm]
    · have old : oldPoints id (g :: rest) = oldPoints id rest := by simp [oldPoints, findSegment, same]
      have kept : poolUse (g :: rest.filter fun x => x.id ≠ id) =
          g.points.length + poolUse (rest.filter fun x => x.id ≠ id) := rfl
      rw [List.filter_cons_of_pos (by simpa using same), kept, whole, old, ih others, Nat.add_assoc]

/-- Writing a segment breaks a limit of R44 when the others leave no room for its points or for one more segment. -/
theorem segmentFull_iff {f : Fst} (h : SegmentLaw f) (id n : Nat) : segmentFull id n f.segments = true ↔
    16384 < ((f.segments.filter fun g => g.id ≠ id).map fun g => g.points.length).sum + n ∨
      512 ≤ (f.segments.filter fun g => g.id ≠ id).length := by
  obtain ⟨few, asc, -, -⟩ := h
  have split := poolUse_split id asc
  have shorter : (f.segments.filter fun g => g.id ≠ id).length ≤ f.segments.length := List.length_filter_le _ _
  simp only [segmentFull, Bool.or_eq_true, Bool.and_eq_true, decide_eq_true_eq, isNone_findSegment_iff, ← poolUse_eq]
  simp only [Config.poolSize, Config.maxSegments]
  omega

/-- What a list with a segment put into it holds: the segment and the others, ascending (R44). -/
theorem putSegment_spec {f : Fst} (g : Segment) (asc : (f.segments.map Segment.id).Pairwise (· < ·)) :
    (putSegment g f).segments.Perm (g :: f.segments.filter fun x => x.id ≠ g.id) ∧
      ((putSegment g f).segments.map Segment.id).Pairwise (· < ·) :=
  insertByKey_spec Segment.id g f.segments asc

theorem SegmentLaw.put {f : Fst} {g : Segment} (h : SegmentLaw f) (law : OneSegmentLaw g)
    (room : segmentFull g.id g.points.length f.segments = false) : SegmentLaw (putSegment g f) := by
  obtain ⟨perm, sorted⟩ := putSegment_spec g h.2.1
  have fits := mt (segmentFull_iff h g.id g.points.length).mpr (Bool.eq_false_iff.mp room)
  have count := perm.length_eq
  have points := (perm.map fun x => x.points.length).sum_eq
  simp only [List.length_cons] at count
  simp only [List.map_cons, List.sum_cons] at points
  refine ⟨by omega, sorted, by omega, fun x hx => ?_⟩
  rcases List.mem_cons.mp (perm.mem_iff.mp hx) with rfl | old
  · exact law
  · exact h.2.2.2 x (List.mem_of_mem_filter old)

theorem SegmentLaw.remove {f : Fst} (h : SegmentLaw f) (id : Nat) : SegmentLaw (removeSegment id f) := by
  obtain ⟨few, asc, points, each⟩ := h
  have fewer : ((f.segments.filter fun g => g.id ≠ id).map fun g => g.points.length).sum ≤
      (f.segments.map fun g => g.points.length).sum :=
    (List.filter_sublist.map _).sum_le_sum fun _ _ => Nat.zero_le _
  exact ⟨(List.length_filter_le _ _).trans few, asc.sublist (List.filter_sublist.map _), fewer.trans points,
    fun g hg => each g (List.mem_of_mem_filter hg)⟩

/-! ### What can happen to the tide and coast store -/

/-- The writes of the tide and coast store: a record or a segment within its ranges that there is room for, a removal,
and hard reset (R34, R37, R38, R40, R44 to R46, R49). -/
inductive FstWrite (f : Fst) : Fst → Prop
  | stands : FstWrite f f
  | putStation {st : Station} (law : RecordLaw st) (room : stationFull st.number f.stations = false) :
      FstWrite f (putStation st f)
  | removeStation (number : Nat) : FstWrite f (removeStation number f)
  | putSegment {g : Segment} (law : OneSegmentLaw g) (room : segmentFull g.id g.points.length f.segments = false) :
      FstWrite f (putSegment g f)
  | removeSegment (id : Nat) : FstWrite f (removeSegment id f)
  | reset : FstWrite f Fst.reset

/-- Every write keeps both laws: a station write leaves the segments, and a segment write the stations. -/
theorem FstWrite.laws {f f' : Fst} (w : FstWrite f f') (stations : StationLaw f) (segments : SegmentLaw f) :
    StationLaw f' ∧ SegmentLaw f' := by
  cases w with
  | stands => exact ⟨stations, segments⟩
  | putStation law room => exact ⟨stations.put law room, segments⟩
  | removeStation number => exact ⟨stations.remove number, segments⟩
  | putSegment law room => exact ⟨stations, segments.put law room⟩
  | removeSegment id => exact ⟨stations, segments.remove id⟩
  | reset => exact fstReset_laws

/-- A part whose store stands. -/
theorem FstWrite.of_eq {f f' : Fst} (same : f' = f) : FstWrite f f' := same ▸ .stands

/-! ### Requests -/

/-- LOAD STATION writes a record that passed the tests of R36 and R38. -/
theorem reqLoadStation_write (p : Port) (params : List Byte) (s : State) :
    FstWrite s.fst (reqLoadStation p params s).state.fst := by
  unfold reqLoadStation
  split
  · exact .stands
  split
  · exact .stands
  next c parsed =>
  split
  · exact .stands
  next possible =>
  split
  · exact .stands
  split
  · exact .stands
  next room =>
  exact .putStation (storedStation_law _ (parseStation_carries parsed) (Bool.eq_false_iff.mpr possible))
    (Bool.eq_false_iff.mpr room)

theorem reqDeleteStation_write (p : Port) (params : List Byte) (s : State) :
    FstWrite s.fst (reqDeleteStation p params s).state.fst := by
  unfold reqDeleteStation
  split
  · exact .stands
  split
  · split
    · exact .stands
    split
    · exact .stands
    split
    · exact .stands
    · exact .removeStation _
  · exact .stands

/-- LOAD SEGMENT writes a segment that passed the tests of R45. -/
theorem reqLoadSegment_write (p : Port) (params : List Byte) (s : State) :
    FstWrite s.fst (reqLoadSegment p params s).state.fst := by
  unfold reqLoadSegment
  split
  · exact .stands
  split
  · exact .stands
  next id code n pts parsed =>
  split
  · exact .stands
  next cls _ =>
  split
  · exact .stands
  next ranges =>
  split
  · exact .stands
  split
  · exact .stands
  next room =>
  obtain rfl := parseSegment_carries parsed
  simp only [Bool.or_eq_true, decide_eq_true_eq, not_or] at ranges
  obtain ⟨⟨⟨low, high⟩, several⟩, few⟩ := ranges
  have law := segmentOf_law cls (show 1 ≤ id by omega) (show id ≤ 4095 by omega) (Nat.le_of_not_lt several)
    (Nat.le_of_not_lt few)
  exact .putSegment law (Bool.eq_false_iff.mpr room)

theorem reqDeleteSegment_write (p : Port) (params : List Byte) (s : State) :
    FstWrite s.fst (reqDeleteSegment p params s).state.fst := by
  unfold reqDeleteSegment
  split
  · exact .stands
  split
  · simp only []
    split
    · exact .stands
    split
    · exact .stands
    split
    · exact .stands
    · exact .removeSegment _
  · exact .stands

/-- No request but these four touches the tide and coast store. -/
theorem handler_fstWrite : ∀ h ∈ handlers, ∀ (p : Port) (params : List Byte) (s : State),
    FstWrite s.fst (h p params s).state.fst := by
  simp [handlers, FstWrite.stands, reqLoadStation_write, reqDeleteStation_write, reqLoadSegment_write,
    reqDeleteSegment_write]

/-! ### The loader -/

@[simp] theorem loaderError_fst (k : LoaderErrorKind) (type_ : Byte) (runId : Word16) (station : Nat) (s : State) :
    (loaderError k type_ runId station s).fst = s.fst := by
  simp [loaderError]

@[simp] theorem afterWind_fst (type_ : Byte) (runId : Word16) (r : LoaderOutcome × State) :
    (afterWind type_ runId r).fst = r.2.fst := by
  unfold afterWind
  split <;> simp

@[simp] theorem afterTide_fst (station : Nat) (r : LoaderOutcome × State) : (afterTide station r).fst = r.2.fst := by
  unfold afterTide
  split <;> simp

@[simp] theorem onWind_fst (f : Fsw → LoaderOutcome × Fsw) (s : State) : (onWind f s).2.fst = s.fst := rfl

@[simp] theorem loadRunEnd_fst (id : Word16) (sent : Nat) (s : State) : (loadRunEnd id sent s).2.fst = s.fst := by
  unfold loadRunEnd
  split <;> simp

/-- TIDE STATION writes a record that passed the tests of R36 and R37. -/
theorem loadStationUnit_write (payload : List Byte) (s : State) : FstWrite s.fst (loadStationUnit payload s).fst := by
  unfold loadStationUnit
  split
  · exact .of_eq (loaderError_fst ..)
  next c parsed =>
  rw [afterTide_fst]
  unfold loadTideStation
  split
  · exact .stands
  next possible =>
  split
  · exact .stands
  next room =>
  exact .putStation (storedStation_law _ (parseStation_carries parsed) (Bool.eq_false_iff.mpr possible))
    (Bool.eq_false_iff.mpr room)

/-- No unit but TIDE STATION touches the tide and coast store (R153). -/
theorem loadGood_fstWrite (type_ : Byte) (payload : List Byte) (s : State) :
    FstWrite s.fst (loadGood type_ payload s).fst := by
  unfold loadGood
  split
  · refine .of_eq ?_
    unfold loadRunStart
    split <;> simp
  split
  · refine .of_eq ?_
    unfold loadWindRow
    split
    · split <;> simp
    · simp
  split
  · refine .of_eq ?_
    unfold loadFrameEnd
    split <;> simp
  split
  · refine .of_eq ?_
    unfold loadRunEndUnit
    split <;> simp
  split
  · exact loadStationUnit_write payload s
  · exact .of_eq (loaderError_fst ..)

theorem moveHead_fstWrite (s : State) : FstWrite s.fst (moveHead s).fst := by
  unfold moveHead
  split
  · exact .stands
  split
  · unfold dealWith
    split
    · exact .of_eq (by simp)
    · exact loadGood_fstWrite _ _ (s.onIng _)
  · exact .stands

/-! ### The other operations -/

/-- The ingest receiver leaves the tide and coast store (R140 to R147). -/
theorem ingestCharacter_fst (c : Character) (s : State) : (ingestCharacter c s).fst = s.fst := by
  unfold ingestCharacter takeBytes
  repeat' split
  all_goals simp

/-- A report of the partner leaves the tide and coast store (R163). -/
theorem receiveReport_fst (r : Report) (s : State) : (receiveReport r s).fst = s.fst := by
  have acted : ∀ u : State, (actOnSwapWord r u).fst = u.fst := by
    intro u
    unfold actOnSwapWord receiveOffer receiveRequest receiveRelease
    repeat' split
    all_goals simp
  have noted : (noteMain r s).fst = s.fst := by
    unfold noteMain
    split <;> simp
  unfold receiveReport
  simp only []
  split
  · simp [acted, takeInHand, noted]
  · exact noted

/-- A pulse or an expiry leaves the tide and coast store (R42, R47). -/
theorem pulseEvent_fst (e : PulseEvent) (s : State) : (pulseEvent e s).fst = s.fst :=
  pulseEvent_induct (P := fun t => t.fst = s.fst) (fun _ _ h => h) (fun t palarm u h => by simpa using h)
    (fun c u h => by simpa using h) (fun add u h => by simpa using h) e rfl

theorem effect_fstWrite {s t : State} (e : Effect s t) : FstWrite s.fst t.fst := by
  cases e with
  | stands => exact .stands
  | halted power _ => exact .stands
  | released t straps => exact .reset
  | acted running act =>
    cases act with
    | stands => exact .stands
    | pulse e => exact .of_eq (pulseEvent_fst e s)
    | regainExpiry => obtain ⟨f, eq⟩ := regainExpiry_fcy s; rw [eq]; exact .stands
    | complete => obtain ⟨_, _, eq⟩ := complete_fcy s; rw [eq]; exact .stands
    | spend => obtain ⟨_, eq⟩ := spend_fcy s; rw [eq]; exact .stands
    | report r _ => exact .of_eq (receiveReport_fst r _)
    | link l _ => exact .stands
    | ingest c => exact .of_eq (ingestCharacter_fst c s)
    | symbol => exact .stands
    | loader => exact moveHead_fstWrite s
    | request p r params palarm known =>
      simp only [sendReply_keeps]
      exact handler_fstWrite _ known p params (endFrame p (sampleAlarm palarm s))
    | ports palarm receiver reply waiting => exact .stands

/-- Settles O54: a step is one of the effects, each of which makes one of the writes of the store at most. -/
theorem stepKeepsTheStoreLaws : Obligations.StepKeepsTheStoreLaws := by
  intro s t h stations segments
  obtain ⟨q, e⟩ := step_effect h
  exact (effect_fstWrite e).laws stations segments

end Sys2Proof.Machine
end

section
/-! PROOFS. LOAD SEGMENT, DELETE SEGMENT and READ SEGMENTS (R43 to R47): O36. -/

namespace Sys2Proof.Machine

/-! ### The hold (R64) -/

/-- The port holds, so the first test of a write is passed. -/
theorem not_holds_of {s : State} {p : Port} (hold : s.pln.hold = some p) : ¬ (!holds s p) = true := by
  simp [holds, hold]

/-- The port does not hold. -/
theorem not_holds_of_ne {s : State} {p : Port} (other : s.pln.hold ≠ some p) : (!holds s p) = true := by
  simp [holds, other]

/-! ### Requests on a ready port (R177 to R179) -/

/-- A command whose rule refuses it. -/
theorem next_of_refused {p : Port} {s : State} (ready : Ready p s) {code : Byte} {params : List Byte} {f : Handler}
    {status : Status} (rule : f p params (endFrame p s) = refuse status (endFrame p s)) :
    (.next (request p code params f s) : Result) = .next (answered p code status [] s) :=
  congrArg Host.Outcome.next (request_refused ready rule)

/-- A command whose rule carries it out. -/
theorem next_of_done {p : Port} {s t : State} (ready : Ready p s) {code : Byte} {params data : List Byte} {f : Handler}
    (rule : f p params (endFrame p s) = done data (endFrame p t)) :
    (.next (request p code params f s) : Result) = .next (answered p code .done data t) :=
  congrArg Host.Outcome.next (request_done ready rule)

/-! ### Bounding boxes (R43) -/

/-- The least of a list that is not empty stands in it. -/
theorem leastOf_mem {top : Nat} {l : List Nat} (several : l ≠ []) (bounded : ∀ n ∈ l, n ≤ top) : leastOf l top ∈ l := by
  induction l with
  | nil => exact absurd rfl several
  | cons m rest ih =>
    obtain ⟨first, others⟩ := List.forall_mem_cons.mp bounded
    cases rest with
    | nil => exact List.mem_singleton.mpr (Nat.min_eq_left first)
    | cons k later =>
      have below : leastOf (k :: later) top ∈ k :: later := ih nofun others
      rcases Nat.le_total m (leastOf (k :: later) top) with small | large
      · exact List.mem_cons.mpr (.inl (Nat.min_eq_left small))
      · have least : leastOf (m :: k :: later) top = leastOf (k :: later) top := Nat.min_eq_right large
        rw [least]
        exact .tail _ below

/-- The greatest of a list that is not empty stands in it. -/
theorem greatestOf_mem {l : List Nat} (several : l ≠ []) : greatestOf l ∈ l := by
  induction l with
  | nil => exact absurd rfl several
  | cons m rest ih =>
    cases rest with
    | nil => exact List.mem_singleton.mpr (Nat.max_eq_left (Nat.zero_le m))
    | cons k later =>
      have above : greatestOf (k :: later) ∈ k :: later := ih nofun
      rcases Nat.le_total (greatestOf (k :: later)) m with small | large
      · exact List.mem_cons.mpr (.inl (Nat.max_eq_left small))
      · have greatest : greatestOf (m :: k :: later) = greatestOf (k :: later) := Nat.max_eq_right large
        rw [greatest]
        exact .tail _ above

/-- A point lies on each side of the box: its bounds are the least and the greatest coordinates (R43). -/
theorem boxOf_tight {pts : List Point} (several : pts ≠ []) (small : ∀ q ∈ pts, q.x ≤ 65535 ∧ q.y ≤ 65535) :
    (∃ q ∈ pts, q.x = (boxOf pts).xmin) ∧ (∃ q ∈ pts, q.y = (boxOf pts).ymin) ∧
      (∃ q ∈ pts, q.x = (boxOf pts).xmax) ∧ ∃ q ∈ pts, q.y = (boxOf pts).ymax := by
  have some_of : ∀ {f : Point → Nat}, pts.map f ≠ [] := fun {f} => mt List.map_eq_nil_iff.mp several
  have bounded : ∀ {f : Point → Nat}, (∀ q ∈ pts, f q ≤ 65535) → ∀ n ∈ pts.map f, n ≤ 65535 := by
    intro f low n hn
    obtain ⟨q, hq, rfl⟩ := List.mem_map.mp hn
    exact low q hq
  exact ⟨List.mem_map.mp (leastOf_mem some_of (bounded fun q hq => (small q hq).1)),
    List.mem_map.mp (leastOf_mem some_of (bounded fun q hq => (small q hq).2)),
    List.mem_map.mp (greatestOf_mem some_of), List.mem_map.mp (greatestOf_mem some_of)⟩

/-! ### Parameters (R45 to R47) -/

/-- The point of two carried coordinates. -/
def pointOf (q : Word16 × Word16) : Point := ⟨q.1.toNat, q.2.toNat⟩

theorem pointOf_range (q : Word16 × Word16) : (pointOf q).x ≤ 65535 ∧ (pointOf q).y ≤ 65535 :=
  ⟨Nat.le_of_lt_succ q.1.isLt, Nat.le_of_lt_succ q.2.isLt⟩

theorem parsePoints_cons (q : Word16 × Word16) (rest : List Byte) :
    parsePoints (bytes16 q.1 ++ bytes16 q.2 ++ rest) = pointOf q :: parsePoints rest := by
  simp only [bytes16, List.cons_append, List.nil_append, parsePoints, le16_bytes16, pointOf]

/-- The points of a segment are read back from their bytes. -/
theorem parsePoints_bytes (points : List (Word16 × Word16)) :
    parsePoints (points.map fun q => bytes16 q.1 ++ bytes16 q.2).flatten = points.map pointOf := by
  induction points with
  | nil => rfl
  | cons q rest ih => rw [List.map_cons, List.flatten_cons, parsePoints_cons, ih, List.map_cons]

/-- LOAD SEGMENT's parameters are read back from their bytes. -/
theorem parseSegment_bytes (id : Word16) (cls : Byte) {points : List (Word16 × Word16)} (few : points.length ≤ 255) :
    parseSegment (bytes16 id ++ [cls, BitVec.ofNat 8 points.length] ++
      (points.map fun q => bytes16 q.1 ++ bytes16 q.2).flatten) =
      some (id.toNat, cls.toNat, points.length, points.map pointOf) := by
  have size : (points.map fun q => bytes16 q.1 ++ bytes16 q.2).flatten.length = 4 * points.length :=
    length_flatten_uniform (f := fun q : Word16 × Word16 => bytes16 q.1 ++ bytes16 q.2) (fun _ => rfl) points
  have count : (BitVec.ofNat 8 points.length).toNat = points.length := toNat_byte few
  simp only [bytes16, List.cons_append, List.nil_append, parseSegment] at size ⊢
  rw [count, if_pos size, le16_bytes16]
  exact congrArg (fun l => some (id.toNat, cls.toNat, points.length, l)) (parsePoints_bytes points)

/-- Parameters whose length is not that of their count name no segment (R45). -/
theorem parseSegment_misfit {params : List Byte}
    (misfit : params.length < 4 ∨ params.length ≠ 4 + 4 * (params.getD 3 0#8).toNat) : parseSegment params = none := by
  unfold parseSegment
  split
  · refine if_neg fun size => ?_
    simp only [List.length_cons, List.getD_cons_succ, List.getD_cons_zero] at misfit
    omega
  · rfl

theorem SegClass.ofCode_code (c : SegClass) : SegClass.ofCode c.code.toNat = some c := by
  cases c <;> rfl

theorem SegClass.ofCode_above {n : Nat} (above : 3 < n) : SegClass.ofCode n = none := by
  obtain ⟨k, rfl⟩ := Nat.exists_eq_add_of_le' (show 4 ≤ n from above)
  rfl

/-! ### LOAD SEGMENT (R43 to R45) -/

theorem reqLoadSegment_notHolder {s : State} {p : Port} (other : s.pln.hold ≠ some p) (params : List Byte) :
    reqLoadSegment p params s = refuse .notHolder s := if_pos (not_holds_of_ne other)

theorem reqLoadSegment_misfit {s : State} {p : Port} (hold : s.pln.hold = some p) {params : List Byte}
    (misfit : parseSegment params = none) : reqLoadSegment p params s = refuse .range s := by
  rw [reqLoadSegment, if_neg (not_holds_of hold), misfit]

section LoadSegment
variable {s : State} {p : Port} {params : List Byte} {id code n : Nat} {pts : List Point}
  (hold : s.pln.hold = some p) (parsed : parseSegment params = some (id, code, n, pts))
include hold parsed

/-- The first test: an id, a class or a count outside its range (R45). -/
theorem reqLoadSegment_range (bad : id = 0 ∨ 4095 < id ∨ 3 < code ∨ n < 2 ∨ 60 < n) :
    reqLoadSegment p params s = refuse .range s := by
  cases known : SegClass.ofCode code with
  | none => simp only [reqLoadSegment, if_neg (not_holds_of hold), parsed, known]
  | some cls =>
    have within : ¬ 3 < code := fun above => nomatch known.symm.trans (SegClass.ofCode_above above)
    have out : (id = 0 || 4095 < id || n < 2 || 60 < n) = true := by
      simp only [Bool.or_eq_true, decide_eq_true_eq]
      omega
    simp only [reqLoadSegment, if_neg (not_holds_of hold), parsed, known, if_pos out]

variable {cls : SegClass} (known : SegClass.ofCode code = some cls) (low : 1 ≤ id) (high : id ≤ 4095)
  (several : 2 ≤ n) (few : n ≤ 60)
include known low high several few

/-- The tests after the ranges, and the write (R45). -/
theorem reqLoadSegment_eq : reqLoadSegment p params s =
    if s.pln.lock.isSome then refuse .locked s
    else if segmentFull id n s.fst.segments then refuse .full s
    else done (flagByte [(findSegment id s.fst.segments).isSome] ::
      segmentTotals (putSegment (segmentOf id cls pts) s.fst).segments)
      (s.onFst (putSegment (segmentOf id cls pts))) := by
  have inRange : ¬ (id = 0 || 4095 < id || n < 2 || 60 < n) = true := by
    simp only [Bool.or_eq_true, decide_eq_true_eq]
    omega
  simp only [reqLoadSegment, if_neg (not_holds_of hold), parsed, known, if_neg inRange]
  rfl

theorem reqLoadSegment_locked (locked : s.pln.lock.isSome) : reqLoadSegment p params s = refuse .locked s := by
  rw [reqLoadSegment_eq hold parsed known low high several few, if_pos locked]

theorem reqLoadSegment_full (free : s.pln.lock = none) (full : segmentFull id n s.fst.segments = true) :
    reqLoadSegment p params s = refuse .full s := by
  rw [reqLoadSegment_eq hold parsed known low high several few, free, full]
  rfl

theorem reqLoadSegment_stores (free : s.pln.lock = none) (room : segmentFull id n s.fst.segments = false) :
    reqLoadSegment p params s = done (flagByte [(findSegment id s.fst.segments).isSome] ::
      segmentTotals (putSegment (segmentOf id cls pts) s.fst).segments)
      (s.onFst (putSegment (segmentOf id cls pts))) := by
  rw [reqLoadSegment_eq hold parsed known low high several few, free, room]
  rfl

end LoadSegment

/-- The reply's flag says whether a segment was replaced (R45). -/
theorem replacedFlag_eq (id : Nat) (l : List Segment) : flagByte [(findSegment id l).isSome] =
    if (l.filter fun g => g.id ≠ id).length = l.length then 0#8 else 1#8 := by
  have absent := isNone_findSegment_iff (id := id) (l := l)
  cases found : findSegment id l with
  | none =>
    rw [found] at absent
    rw [if_pos (absent.mp rfl)]
    rfl
  | some g =>
    rw [found] at absent
    rw [if_neg fun whole => Bool.false_ne_true (absent.mpr whole)]
    rfl

/-- The reply's totals after a write: the segment and the others (R45). -/
theorem segmentTotals_put {f : Fst} (g : Segment) (asc : (f.segments.map Segment.id).Pairwise (· < ·)) :
    segmentTotals (putSegment g f).segments = nat16 ((f.segments.filter fun x => x.id ≠ g.id).length + 1) ++
      nat16 (((f.segments.filter fun x => x.id ≠ g.id).map fun x => x.points.length).sum + g.points.length) := by
  obtain ⟨perm, -⟩ := putSegment_spec g asc
  have points : poolUse (putSegment g f).segments =
      ((f.segments.filter fun x => x.id ≠ g.id).map fun x => x.points.length).sum + g.points.length := by
    rw [poolUse_eq, (perm.map fun x => x.points.length).sum_eq, List.map_cons, List.sum_cons, Nat.add_comm]
  rw [segmentTotals, perm.length_eq, points]
  rfl

/-! ### DELETE SEGMENT (R46) -/

theorem reqDeleteSegment_notHolder {s : State} {p : Port} (other : s.pln.hold ≠ some p) (params : List Byte) :
    reqDeleteSegment p params s = refuse .notHolder s := if_pos (not_holds_of_ne other)

theorem reqDeleteSegment_misfit {s : State} {p : Port} (hold : s.pln.hold = some p) {params : List Byte}
    (misfit : params.length ≠ 2) : reqDeleteSegment p params s = refuse .range s := by
  unfold reqDeleteSegment
  rw [if_neg (not_holds_of hold)]
  split
  · exact absurd rfl misfit
  · rfl

section DeleteSegment
variable {s : State} {p : Port} (hold : s.pln.hold = some p) (id : Word16)
include hold

/-- The tests of DELETE SEGMENT, and the removal. -/
theorem reqDeleteSegment_eq : reqDeleteSegment p (bytes16 id) s =
    if id.toNat = 0 ∨ 4095 < id.toNat then refuse .range s
    else if s.pln.lock.isSome then refuse .locked s
    else if (findSegment id.toNat s.fst.segments).isNone then refuse .notFound s
    else done (segmentTotals (s.fst.segments.filter fun g => g.id ≠ id.toNat)) (s.onFst (removeSegment id.toNat)) := by
  simp only [reqDeleteSegment, if_neg (not_holds_of hold), bytes16, le16_bytes16, Bool.or_eq_true, decide_eq_true_eq]
  rfl

theorem reqDeleteSegment_range (bad : id.toNat = 0 ∨ 4095 < id.toNat) :
    reqDeleteSegment p (bytes16 id) s = refuse .range s := by
  rw [reqDeleteSegment_eq hold, if_pos bad]

variable {id} (low : 1 ≤ id.toNat) (high : id.toNat ≤ 4095)
include low high

theorem reqDeleteSegment_locked (locked : s.pln.lock.isSome) :
    reqDeleteSegment p (bytes16 id) s = refuse .locked s := by
  rw [reqDeleteSegment_eq hold, if_neg (by omega), if_pos locked]

theorem reqDeleteSegment_notFound (free : s.pln.lock = none) (absent : ∀ g ∈ s.fst.segments, g.id ≠ id.toNat) :
    reqDeleteSegment p (bytes16 id) s = refuse .notFound s := by
  have none_found : (findSegment id.toNat s.fst.segments).isNone = true := by simpa [findSegment] using absent
  rw [reqDeleteSegment_eq hold, if_neg (by omega), free, none_found]
  rfl

theorem reqDeleteSegment_removes (free : s.pln.lock = none) (held : ∃ g ∈ s.fst.segments, g.id = id.toNat) :
    reqDeleteSegment p (bytes16 id) s = done (segmentTotals (s.fst.segments.filter fun g => g.id ≠ id.toNat))
      (s.onFst (removeSegment id.toNat)) := by
  have found : (findSegment id.toNat s.fst.segments).isNone = false := by simpa [findSegment] using held
  rw [reqDeleteSegment_eq hold, if_neg (by omega), free, found]
  rfl

end DeleteSegment

/-! ### READ SEGMENTS (R47) -/

theorem reqReadSegments_misfit (p : Port) {params : List Byte} (s : State) (misfit : params.length ≠ 2) :
    reqReadSegments p params s = refuse .range s := by
  unfold reqReadSegments
  split
  · exact absurd rfl misfit
  · rfl

theorem reqReadSegments_range (p : Port) {start : Word16} (s : State) (beyond : 4095 < start.toNat) :
    reqReadSegments p (bytes16 start) s = refuse .range s := by
  simp only [reqReadSegments, bytes16, le16_bytes16]
  exact if_pos beyond

theorem reqReadSegments_done (p : Port) {start : Word16} (s : State) (within : start.toNat ≤ 4095)
    {shown : List Segment} (isShown : shown = (s.fst.segments.filter fun g => start.toNat ≤ g.id).take 20) :
    reqReadSegments p (bytes16 start) s = done (segmentTotals s.fst.segments ++
      byte shown.length :: (shown.map Segment.summary).flatten) s := by
  simp only [reqReadSegments, bytes16, le16_bytes16, isShown]
  exact if_neg (Nat.not_lt.mpr within)

/-- Settles O36: each clause is one of the rules above, said of the state with the port HUNTING. -/
theorem segmentCommandsFollowTheirTests : Obligations.SegmentCommandsFollowTheirTests := by
  intro p s ready law
  refine ⟨fun params other => ⟨?_, ?_⟩, ?_, ?_, fun params hold misfit => ?_, fun params hold misfit => ?_,
    fun params => ⟨fun misfit => ?_, ?_⟩⟩
  · exact next_of_refused ready (reqLoadSegment_notHolder (s := endFrame p s) other params)
  · exact next_of_refused ready (reqDeleteSegment_notHolder (s := endFrame p s) other params)
  · -- LOAD SEGMENT of parameters in their format
    rintro id cls points params hold short rfl
    have parsed := parseSegment_bytes id cls short
    refine ⟨fun bad => next_of_refused ready (reqLoadSegment_range (s := endFrame p s) hold parsed bad), ?_⟩
    rintro c low high rfl several few
    have known := SegClass.ofCode_code c
    refine ⟨fun locked => next_of_refused ready ?_, ?_⟩
    · exact reqLoadSegment_locked (s := endFrame p s) hold parsed known low high several few locked
    rintro others rfl free
    have full := segmentFull_iff law id.toNat points.length
    refine ⟨fun whole => next_of_refused ready ?_, fun pool room => ?_⟩
    · exact reqLoadSegment_full (s := endFrame p s) hold parsed known low high several few free (full.mpr whole)
    have fits : segmentFull id.toNat points.length s.fst.segments = false :=
      Bool.eq_false_iff.mpr (mt full.mp (by omega))
    have count : (points.map pointOf).length = points.length := List.length_map _
    have small : ∀ q ∈ points.map pointOf, q.x ≤ 65535 ∧ q.y ≤ 65535 :=
      List.forall_mem_map.mpr fun w _ => pointOf_range w
    have some_point : points.map pointOf ≠ [] := List.ne_nil_of_length_pos (by omega)
    obtain ⟨west, south, east, north⟩ := boxOf_tight some_point small
    obtain ⟨perm, asc⟩ := putSegment_spec (segmentOf id.toNat c (points.map pointOf)) law.2.1
    refine ⟨putSegment (segmentOf id.toNat c (points.map pointOf)) s.fst, segmentOf id.toNat c (points.map pointOf),
      rfl, rfl, rfl, segmentOf_law c low high (by omega) (by omega), west, south, east, north, rfl, perm, asc,
      next_of_done ready ?_⟩
    rw [reqLoadSegment_stores (s := endFrame p s) hold parsed known low high several few free fits]
    have totals := segmentTotals_put (segmentOf id.toNat c (points.map pointOf)) law.2.1
    rw [show (segmentOf id.toNat c (points.map pointOf)).points.length = points.length from count] at totals
    exact congrArg₂ (fun flag data => done (flag :: data) _) (replacedFlag_eq id.toNat s.fst.segments) totals
  · -- DELETE SEGMENT of an id
    rintro id params hold rfl
    refine ⟨fun bad => next_of_refused ready (reqDeleteSegment_range (s := endFrame p s) hold id bad), fun low high =>
      ⟨fun locked => ?_, fun free absent => ?_, ?_⟩⟩
    · exact next_of_refused ready (reqDeleteSegment_locked (s := endFrame p s) hold low high locked)
    · exact next_of_refused ready (reqDeleteSegment_notFound (s := endFrame p s) hold low high free absent)
    · rintro others rfl free held
      exact next_of_done ready (reqDeleteSegment_removes (s := endFrame p s) hold low high free held)
  · exact next_of_refused ready (reqLoadSegment_misfit (s := endFrame p s) hold (parseSegment_misfit misfit))
  · exact next_of_refused ready (reqDeleteSegment_misfit (s := endFrame p s) hold misfit)
  · exact next_of_refused ready (reqReadSegments_misfit p _ misfit)
  · rintro start rfl
    exact ⟨fun beyond => next_of_refused ready (reqReadSegments_range p _ beyond), fun within shown isShown =>
      next_of_done ready (reqReadSegments_done p (endFrame p s) within isShown)⟩

end Sys2Proof.Machine
end

section
/-! PROOFS. LOAD STATION, DELETE STATION and READ STATION (R34 to R41): O37. -/

namespace Sys2Proof.Machine

/-! ### Parameters and the table (R34 to R39) -/

/-- Parameters whose length is not that of their count carry no record (R38). -/
theorem parseStation_misfit {params : List Byte}
    (misfit : params.length < 8 ∨ params.length ≠ 8 + 8 * (params.getD 7 0#8).toNat) : parseStation params = none := by
  unfold parseStation
  split
  · refine if_neg fun size => ?_
    simp only [List.length_cons, List.getD_cons_succ, List.getD_cons_zero] at misfit
    omega
  · rfl

/-- A station is protected while the air lock is set and a gauge of the air plan names it (R39). -/
theorem stationLocked_iff {s : State} {number : Nat} : stationLocked s number = true ↔
    s.pln.lock.isSome ∧ ∃ g, some g ∈ s.pln.air.gauges ∧ g.station = number := by
  have named : onAir s number = true ↔ ∃ g, some g ∈ s.pln.air.gauges ∧ g.station = number := by
    rw [onAir, List.any_eq_true]
    constructor
    · rintro ⟨slot, mem, names⟩
      cases slot with
      | none => cases names
      | some g => exact ⟨g, mem, of_decide_eq_true names⟩
    · rintro ⟨g, mem, names⟩
      exact ⟨some g, mem, decide_eq_true names⟩
  rw [stationLocked, Bool.and_eq_true, named]

/-- The record of a number in a table is the only one of that number (R34). -/
theorem findStation_of_mem {l : List Station} (asc : (l.map Station.number).Pairwise (· < ·)) {st : Station}
    (mem : st ∈ l) : findStation st.number l = some st := by
  induction l with
  | nil => cases mem
  | cons x rest ih =>
    obtain ⟨first, others⟩ := List.pairwise_cons.mp asc
    rcases List.mem_cons.mp mem with rfl | later
    · exact List.find?_cons_of_pos (decide_eq_true rfl)
    · have below : x.number < st.number := first _ (List.mem_map_of_mem later)
      exact (List.find?_cons_of_neg (by simpa using Nat.ne_of_lt below)).trans (ih others later)

/-- The reply's flags say whether a record was replaced, and whether a value was clamped (R38). -/
theorem loadedFlags_eq (number : Nat) (l : List Station) (clamped : Bool) :
    flagByte [hasStation number l, clamped] = BitVec.ofNat 8
      ((if (l.filter fun x => x.number ≠ number).length = l.length then 0 else 1) + if clamped then 2 else 0) := by
  have absent := hasStation_eq_false (number := number) (l := l)
  rw [flagByte_pair]
  cases held : hasStation number l with
  | false =>
    rw [if_pos (absent.mp held)]
    rfl
  | true =>
    rw [if_neg fun whole => Bool.false_ne_true ((absent.mpr whole).symm.trans held)]
    rfl

/-! ### LOAD STATION (R38) -/

theorem reqLoadStation_notHolder {s : State} {p : Port} (other : s.pln.hold ≠ some p) (params : List Byte) :
    reqLoadStation p params s = refuse .notHolder s := if_pos (not_holds_of_ne other)

theorem reqLoadStation_misfit {s : State} {p : Port} (hold : s.pln.hold = some p) {params : List Byte}
    (misfit : parseStation params = none) : reqLoadStation p params s = refuse .range s := by
  rw [reqLoadStation, if_neg (not_holds_of hold), misfit]

section LoadStation
variable {s : State} {p : Port} {params : List Byte} {c : CarriedStation} (hold : s.pln.hold = some p)
  (parsed : parseStation params = some c)
include hold parsed

theorem reqLoadStation_range (bad : impossible c = true) : reqLoadStation p params s = refuse .range s := by
  simp only [reqLoadStation, if_neg (not_holds_of hold), parsed, if_pos bad]

variable (possible : impossible c = false)
include possible

/-- The tests after the ranges, and the write (R38). -/
theorem reqLoadStation_eq : reqLoadStation p params s =
    if stationLocked s c.number then refuse .locked s
    else if stationFull c.number s.fst.stations then refuse .full s
    else done [flagByte [hasStation c.number s.fst.stations, (storedStation (Source.ofPort p) c).clamped],
      byte (putStation (storedStation (Source.ofPort p) c) s.fst).stations.length]
      (s.onFst (putStation (storedStation (Source.ofPort p) c))) := by
  simp only [reqLoadStation, if_neg (not_holds_of hold), parsed, if_neg (Bool.eq_false_iff.mp possible)]
  rfl

theorem reqLoadStation_locked (locked : stationLocked s c.number = true) :
    reqLoadStation p params s = refuse .locked s := by
  rw [reqLoadStation_eq hold parsed possible, if_pos locked]

variable (free : stationLocked s c.number = false)
include free

theorem reqLoadStation_full (full : stationFull c.number s.fst.stations = true) :
    reqLoadStation p params s = refuse .full s := by
  rw [reqLoadStation_eq hold parsed possible, if_neg (Bool.eq_false_iff.mp free), if_pos full]

theorem reqLoadStation_stores (room : stationFull c.number s.fst.stations = false) : reqLoadStation p params s =
    done [flagByte [hasStation c.number s.fst.stations, (storedStation (Source.ofPort p) c).clamped],
      byte (putStation (storedStation (Source.ofPort p) c) s.fst).stations.length]
      (s.onFst (putStation (storedStation (Source.ofPort p) c))) := by
  rw [reqLoadStation_eq hold parsed possible, if_neg (Bool.eq_false_iff.mp free), if_neg (Bool.eq_false_iff.mp room)]

end LoadStation

/-! ### DELETE STATION (R40) -/

theorem reqDeleteStation_notHolder {s : State} {p : Port} (other : s.pln.hold ≠ some p) (params : List Byte) :
    reqDeleteStation p params s = refuse .notHolder s := if_pos (not_holds_of_ne other)

theorem reqDeleteStation_misfit {s : State} {p : Port} (hold : s.pln.hold = some p) {params : List Byte}
    (misfit : params.length ≠ 1) : reqDeleteStation p params s = refuse .range s := by
  unfold reqDeleteStation
  rw [if_neg (not_holds_of hold)]
  split
  · exact absurd rfl misfit
  · rfl

section DeleteStation
variable {s : State} {p : Port} (hold : s.pln.hold = some p)
include hold

theorem reqDeleteStation_range : reqDeleteStation p [0#8] s = refuse .range s :=
  if_neg (not_holds_of hold)

variable {n : Byte} (named : n ≠ 0#8)
include named

/-- The tests after the range, and the removal (R40). -/
theorem reqDeleteStation_eq : reqDeleteStation p [n] s =
    if stationLocked s n.toNat then refuse .locked s
    else if !hasStation n.toNat s.fst.stations then refuse .notFound s
    else done [byte (s.fst.stations.filter fun x => x.number ≠ n.toNat).length] (s.onFst (removeStation n.toNat)) :=
  (if_neg (not_holds_of hold)).trans (if_neg named)

theorem reqDeleteStation_locked (locked : stationLocked s n.toNat = true) :
    reqDeleteStation p [n] s = refuse .locked s := by
  rw [reqDeleteStation_eq hold named, if_pos locked]

/-- A record that is there is removed; the others are then fewer than the table (R40). -/
theorem reqDeleteStation_removes (free : stationLocked s n.toNat = false) : reqDeleteStation p [n] s =
    if (s.fst.stations.filter fun x => x.number ≠ n.toNat).length = s.fst.stations.length then refuse .notFound s
    else done [byte (s.fst.stations.filter fun x => x.number ≠ n.toNat).length] (s.onFst (removeStation n.toNat)) := by
  rw [reqDeleteStation_eq hold named, if_neg (Bool.eq_false_iff.mp free)]
  simp only [Bool.not_eq_true', hasStation_eq_false]

end DeleteStation

/-! ### READ STATION (R41) -/

theorem reqReadStation_misfit (p : Port) {params : List Byte} (s : State) (misfit : params.length ≠ 1) :
    reqReadStation p params s = refuse .range s := by
  unfold reqReadStation
  split
  · exact absurd rfl misfit
  · rfl

theorem reqReadStation_notFound (p : Port) {n : Byte} (s : State) (named : n ≠ 0#8)
    (absent : ∀ st ∈ s.fst.stations, st.number ≠ n.toNat) : reqReadStation p [n] s = refuse .notFound s := by
  have none_found : findStation n.toNat s.fst.stations = none := by simpa [findStation] using absent
  simp only [reqReadStation, none_found]
  exact if_neg named

/-- The record read is the one of the number, with its source and its clamped flag (R41). -/
theorem reqReadStation_record (p : Port) {n : Byte} {s : State} (law : StationLaw s.fst) {st : Station}
    (mem : st ∈ s.fst.stations) (number : st.number = n.toNat) :
    reqReadStation p [n] s = done (byte (st.source.code + 4 * bit st.clamped) :: st.bytes) s := by
  obtain ⟨-, asc, each⟩ := law
  have found : findStation n.toNat s.fst.stations = some st := number ▸ findStation_of_mem asc mem
  have named : n ≠ 0#8 := by
    rintro rfl
    exact absurd (each st mem).1 (by rw [number]; decide)
  simp only [reqReadStation, found]
  exact if_neg named

/-- Settles O37: each clause is one of the rules above, said of the state with the port HUNTING. -/
theorem stationCommandsFollowTheirTests : Obligations.StationCommandsFollowTheirTests := by
  intro p s ready law
  have protects : ∀ {number}, s.pln.lock.isSome → (∃ g, some g ∈ s.pln.air.gauges ∧ g.station = number) →
      stationLocked (endFrame p s) number = true := fun lock named => stationLocked_iff.mpr ⟨lock, named⟩
  have unprotected : ∀ {number}, ¬ (s.pln.lock.isSome ∧ ∃ g, some g ∈ s.pln.air.gauges ∧ g.station = number) →
      stationLocked (endFrame p s) number = false := fun free => Bool.eq_false_iff.mpr (mt stationLocked_iff.mp free)
  refine ⟨fun params other => ⟨?_, ?_⟩, fun params hold misfit => ?_, ?_, fun params hold misfit => ?_,
    fun n hold => ⟨?_, fun named lock onAir => ?_, ?_⟩, fun params misfit => ?_,
    fun n => ⟨?_, fun named absent => ?_, fun st mem number => ?_⟩⟩
  · exact next_of_refused ready (reqLoadStation_notHolder (s := endFrame p s) other params)
  · exact next_of_refused ready (reqDeleteStation_notHolder (s := endFrame p s) other params)
  · exact next_of_refused ready (reqLoadStation_misfit (s := endFrame p s) hold (parseStation_misfit misfit))
  · -- LOAD STATION of a record in the record format
    rintro c st hold number zLow zHigh minLow minHigh maxLow maxHigh terms amps isNumber isZ isMin isMax isTerms source
      clamped
    have fits : c.Fits := ⟨number, ⟨zLow, zHigh⟩, ⟨minLow, minHigh⟩, ⟨maxLow, maxHigh⟩, terms, amps⟩
    have parsed := parseStation_bytes fits
    have isSource : st.source = Source.ofPort p := by rw [source]; cases p <;> rfl
    have stored := storedStation_eq isNumber isZ isMin isMax isTerms isSource clamped
    have lawful : RecordLaw st → impossible c.carried = false := by
      intro within
      rw [← stored] at within
      refine possible_of_law (st := storedStation .loader c.carried) rfl within (impossible_iff ?_ ?_)
      · exact clampInt_eq (by decide) _
      · exact clampInt_eq (by decide) _
    refine ⟨fun bad => next_of_refused ready ?_, fun within lock onAir => ?_, ?_⟩
    · exact reqLoadStation_range (s := endFrame p s) hold parsed ((impossible_iff isMin isMax).mpr bad)
    · rw [isNumber] at onAir
      exact next_of_refused ready (reqLoadStation_locked hold parsed (lawful within) (protects lock onAir))
    · rintro others within isOthers free
      rw [isNumber] at isOthers free
      have full := stationFull_iff (number := c.number) law.1
      rw [← isOthers] at full
      refine ⟨fun whole => next_of_refused ready ?_, fun room => ?_⟩
      · exact reqLoadStation_full hold parsed (lawful within) (unprotected free) (full.mpr whole)
      have fitsIn : stationFull c.number s.fst.stations = false :=
        Bool.eq_false_iff.mpr (mt full.mp (Nat.ne_of_lt room))
      obtain ⟨perm, asc⟩ := insertByKey_spec Station.number st s.fst.stations law.2.1
      rw [isNumber, ← isOthers] at perm
      refine ⟨putStation st s.fst, rfl, perm, asc, next_of_done ready ?_⟩
      rw [reqLoadStation_stores (s := endFrame p s) hold parsed (lawful within) (unprotected free) fitsIn, stored]
      have flags := loadedFlags_eq c.number s.fst.stations st.clamped
      rw [← isOthers] at flags
      exact congrArg₂ (fun flags count => done [flags, byte count] _) flags perm.length_eq
  · exact next_of_refused ready (reqDeleteStation_misfit (s := endFrame p s) hold misfit)
  · rintro rfl
    exact next_of_refused ready (reqDeleteStation_range (s := endFrame p s) hold)
  · exact next_of_refused ready (reqDeleteStation_locked (s := endFrame p s) hold named (protects lock onAir))
  · rintro named free others rfl
    have rule := reqDeleteStation_removes (s := endFrame p s) hold named (unprotected free)
    split
    · next whole => exact next_of_refused ready (rule.trans (if_pos whole))
    · next fewer => exact next_of_done ready (rule.trans (if_neg fewer))
  · exact next_of_refused ready (reqReadStation_misfit p _ misfit)
  · rintro rfl
    exact next_of_done ready rfl
  · exact next_of_refused ready (reqReadStation_notFound p (endFrame p s) named absent)
  · refine next_of_done ready ((reqReadStation_record p (s := endFrame p s) law mem number).trans ?_)
    cases st.source <;> cases st.clamped <;> rfl

end Sys2Proof.Machine
end

section
/-! PROOFS. What a step can do to the plan unit: the plans' ranges and the law of the edit hold, kept by every step (R51,
R52, R64): O55. -/

namespace Sys2Proof.Machine

/-! ### Plans within their ranges (R51, R52) -/

/-- Any view comes out of the clamps within its ranges (R52). -/
theorem PlanLaw.steppedView {p : Plan} (law : PlanLaw p) (x y w : Int) : PlanLaw (steppedView x y w p) := by
  obtain ⟨-, -, -, -, rest⟩ := law
  unfold Machine.steppedView
  exact ⟨by dsimp only; omega, by dsimp only; omega, by dsimp only; omega, by dsimp only; omega, rest⟩

/-- A step of a sweep writes the cursor and a clamped view (R55, R82). -/
theorem PlanLaw.steppedAir {p : Plan} (law : PlanLaw p) (r : SweepRecord) : PlanLaw (steppedAir r p) := by
  unfold Machine.steppedAir
  split
  · exact law
  · exact PlanLaw.steppedView (p := { p with cursor := _ }) law _ _ _

/-- The content of a publish comes from the draft (R53, R54). -/
theorem PlanLaw.publishContent {d a : Plan} (draft : PlanLaw d) (air : PlanLaw a) : PlanLaw (publishContent d a) := by
  obtain ⟨-, -, -, -, content⟩ := draft
  obtain ⟨wLow, wHigh, xFits, yFits, -⟩ := air
  exact ⟨wLow, wHigh, xFits, yFits, content⟩

/-- What the take engine writes to air at one entry, and whether it publishes (R53 to R55, R82). -/
inductive AirWrite (draft air : Plan) : Bool → Plan → Prop
  | stands : AirWrite draft air false air
  | step (r : SweepRecord) : AirWrite draft air false (steppedAir r air)
  | cut : AirWrite draft air true (publishCut draft air)
  | swept (r : SweepRecord) : AirWrite draft air true (steppedAir r (publishContent draft air))

theorem AirWrite.law {draft air air' : Plan} {published : Bool} (w : AirWrite draft air published air')
    (onDraft : PlanLaw draft) (onAir : PlanLaw air) : PlanLaw air' := by
  cases w with
  | stands => exact onAir
  | step r => exact onAir.steppedAir r
  | cut =>
    rw [publishCut_of_law onDraft]
    exact onDraft
  | swept r => exact (onDraft.publishContent onAir).steppedAir r

/-- A publish that is due and not held back goes to air (R77, R80). -/
def goesToAir (e : TakeEntry) (s : State) : Bool := e.kind.sort = .publish && !heldBack e s

/-- What a deal of the first pass writes to air. -/
theorem applyEntry_airWrite (acc : State × Nat) (e : TakeEntry) :
    AirWrite acc.1.pln.draft acc.1.pln.air (goesToAir e acc.1) (applyEntry acc e).1.pln.air := by
  have stands : ∀ {l : Pln}, l = acc.1.pln → goesToAir e acc.1 = false →
      AirWrite acc.1.pln.draft acc.1.pln.air (goesToAir e acc.1) l.air := by
    rintro l rfl kept
    rw [kept]
    exact .stands
  have other : e.kind.sort ≠ .publish → goesToAir e acc.1 = false := fun sort => by simp [goesToAir, sort]
  unfold applyEntry
  simp only []
  split
  · next n kind =>
    split
    · next held =>
      have kept : goesToAir e acc.1 = false := by simp [goesToAir, held]
      split
      · exact stands (by simp) kept
      · exact stands (by simp) kept
    · next free =>
      have goes : goesToAir e acc.1 = true := by simp [goesToAir, kind, TakeKind.sort, free]
      rw [goes]
      split
      · simpa [applyCut, onAirPlan] using AirWrite.cut
      · simp only [applySwept, takeStep_pln, writeStep_eq, onAirPlan, State.pln_onPln, supersede_keeps, publishSwept]
        exact .swept _
  · next n target kind =>
    rw [other (by rw [kind]; exact nofun)]
    simp only [applySweep, takeStep_pln, writeStep_eq, supersede_keeps]
    exact .step _
  · next kind =>
    have kept := other (by rw [kind]; exact nofun)
    split
    · exact stands (by simp) kept
    · exact stands (by simp) kept
  · next mode kind => exact stands (by simp) (other (by rw [kind]; exact nofun))
  · next kind => exact stands rfl (other (by rw [kind]; exact nofun))

/-- The second pass steps a sweep at most (R83). -/
theorem stepSweep_airWrite (before : Option TakeEntry) (s : State) :
    AirWrite s.pln.draft s.pln.air false (stepSweep before s).pln.air := by
  unfold stepSweep
  split
  · exact .stands
  · split
    · exact .stands
    · split
      · rw [takeStep_pln, writeStep_eq]
        exact .step _
      all_goals exact .stands

/-! ### Both laws from one plan unit to the next -/

/-- From one plan unit to the next both plans stay within their ranges and the law of the hold is kept. -/
structure KeepsPlnLaws (l l' : Pln) : Prop where
  plans : PlansLaw l → PlansLaw l'
  hold : HoldLaw l → HoldLaw l'

namespace KeepsPlnLaws

theorem refl (l : Pln) : KeepsPlnLaws l l := ⟨id, id⟩

theorem of_eq {l l' : Pln} (same : l' = l) : KeepsPlnLaws l l' := same ▸ refl l

theorem trans {l m k : Pln} (h : KeepsPlnLaws l m) (h' : KeepsPlnLaws m k) : KeepsPlnLaws l k :=
  ⟨h'.plans ∘ h.plans, h'.hold ∘ h.hold⟩

/-- The draft is written. -/
theorem of_draft {l : Pln} {d : Plan} (law : PlansLaw l → PlanLaw d) : KeepsPlnLaws l { l with draft := d } :=
  ⟨fun plans => ⟨law plans, plans.2⟩, id⟩

/-- The air plan is written by the take engine. -/
theorem of_airWrite {l l' : Pln} {published : Bool} (only : OnlyAirPlan l l')
    (write : AirWrite l.draft l.air published l'.air) : KeepsPlnLaws l l' := by
  obtain ⟨air, rfl⟩ := only
  exact ⟨fun plans => ⟨plans.1, write.law plans.1 plans.2⟩, id⟩

/-- The arbiter writes the hold, the pending flags and the events. -/
theorem of_arbiter {l : Pln} {hold : Option Port} {waiting : PerPort Bool} {event : PerPort HoldEvent}
    (law : HoldLaw l → HoldLaw { l with hold := hold, waiting := waiting, event := event }) :
    KeepsPlnLaws l { l with hold := hold, waiting := waiting, event := event } :=
  ⟨id, law⟩

/-- The lock is written. -/
theorem of_lock (l : Pln) (lock : Option Port) : KeepsPlnLaws l { l with lock := lock } := ⟨id, id⟩

end KeepsPlnLaws

/-! ### The take engine (R53 to R55) -/

theorem applyTakes_keepsPlnLaws (s : State) (n : Nat) : KeepsPlnLaws s.pln (applyTakes s n).1.pln :=
  (foldl_applyEntry (P := fun t => KeepsPlnLaws s.pln t.pln)
    (fun acc e kept => kept.trans (.of_airWrite (applyEntry_pln acc e) (applyEntry_airWrite acc e)))
    (dueEntries s) (s, n) (.refl _)).trans (.of_airWrite (stepSweep_pln _ _) (stepSweep_airWrite _ _))

/-- A serving pulse touches the plan unit in the take engine's passes alone. -/
theorem servingPulse_keepsPlnLaws (t : Time) (palarm : Bool) (s : State) :
    KeepsPlnLaws s.pln (servingPulse t palarm s).pln := by
  have before : (pairDone t palarm s).1.pln = s.pln := by simp [pairDone, periodEnded]
  rw [(servingPulse_takes t palarm s _ rfl).1, ← before]
  exact applyTakes_keepsPlnLaws _ _

theorem pulseEvent_keepsPlnLaws (e : PulseEvent) (s : State) : KeepsPlnLaws s.pln (pulseEvent e s).pln :=
  pulseEvent_induct (P := fun t => KeepsPlnLaws s.pln t.pln) (fun _ _ h => h)
    (fun t palarm u h => h.trans (servingPulse_keepsPlnLaws t palarm u)) (fun c u h => by simpa using h)
    (fun add u h => by simpa using h) e (.refl _)

/-! ### The edit hold (R64 to R67) -/

theorem Port.eq_other_of_ne {p q : Port} (differ : q ≠ p) : q = p.other := by
  match p, q with
  | .a, .b => rfl
  | .b, .a => rfl
  | .a, .a => exact absurd rfl differ
  | .b, .b => exact absurd rfl differ

/-- No request is pending. -/
theorem holdLaw_of_none_waits {l : Pln} (idle : ∀ q, l.waiting.get q = false) : HoldLaw l := by
  intro q waits
  rw [idle q] at waits
  cases waits

/-- A FREE hold has no request pending behind it. -/
theorem HoldLaw.idle_of_free {l : Pln} (law : HoldLaw l) (free : l.hold = none) (q : Port) :
    l.waiting.get q = false := by
  by_contra waits
  have held := law q (by simpa using waits)
  rw [free] at held
  cases held

/-- The holder has no request pending. -/
theorem HoldLaw.idle_of_holder {l : Pln} (law : HoldLaw l) {p : Port} (hold : l.hold = some p) :
    l.waiting.get p = false := by
  by_contra waits
  have held := law p (by simpa using waits)
  rw [hold] at held
  exact Port.ne_other p (Option.some.inj held)

/-- Once the holder and the other port have no request pending, none is. -/
theorem idle_of_both {w : PerPort Bool} {p : Port} (own : w.get p = false) (other : w.get p.other = false) (q : Port) :
    w.get q = false := by
  by_cases same : q = p
  · rw [same, own]
  · rw [Port.eq_other_of_ne same, other]

theorem reqRequestHold_keepsPlnLaws (p : Port) (params : List Byte) (s : State) :
    KeepsPlnLaws s.pln (reqRequestHold p params s).state.pln := by
  unfold reqRequestHold
  split
  · next flags =>
    split
    · next free => exact .of_arbiter fun law => holdLaw_of_none_waits (law.idle_of_free free)
    · next q held =>
      split
      · exact .refl _
      · next differ =>
        have isOther : q = p.other := Port.eq_other_of_ne differ
        split
        · next reclaims =>
          obtain rfl : p = .a := by simp only [Bool.and_eq_true, decide_eq_true_eq] at reclaims; exact reclaims.1
          refine .of_arbiter fun law => holdLaw_of_none_waits ?_
          have lost : s.pln.waiting.get .b = false := law.idle_of_holder (held.trans (by rw [isOther]; rfl))
          exact idle_of_both (w := s.pln.waiting.set .a false) (p := .a) rfl lost
        · refine .of_arbiter fun law r waits => ?_
          by_cases own : r = p
          · rw [own, held, isOther]
          · refine law r ?_
            rwa [PerPort.get_set, if_neg (Ne.symm own)] at waits
  · exact .refl _

theorem reqReleaseHold_keepsPlnLaws (p : Port) (params : List Byte) (s : State) :
    KeepsPlnLaws s.pln (reqReleaseHold p params s).state.pln := by
  unfold reqReleaseHold
  split
  · split
    · next holder =>
      have held : s.pln.hold = some p := by simpa [holds] using holder
      simp only [done_state]
      unfold releaseHold
      split
      · refine .of_arbiter fun law => holdLaw_of_none_waits (idle_of_both (p := p) ?_ (PerPort.get_set_same _ _ _))
        simpa [PerPort.get_set] using law.idle_of_holder held
      · next idle =>
        exact .of_arbiter fun law => holdLaw_of_none_waits (idle_of_both (law.idle_of_holder held) (by simpa using idle))
    · split
      · refine .of_arbiter fun law r waits => law r ?_
        simp only [PerPort.get_set] at waits
        split at waits
        · cases waits
        · exact waits
      · exact .refl _
  · exact .refl _

/-! ### The draft (R56 to R62) -/

theorem reqSetView_keepsPlnLaws (p : Port) (params : List Byte) (s : State) :
    KeepsPlnLaws s.pln (reqSetView p params s).state.pln := by
  unfold reqSetView
  split
  · exact .refl _
  · split
    · refine .of_draft fun plans => ?_
      rw [writeView_eq]
      exact plans.1.steppedView _ _ _
    · exact .refl _

theorem reqSetCursor_keepsPlnLaws (p : Port) (params : List Byte) (s : State) :
    KeepsPlnLaws s.pln (reqSetCursor p params s).state.pln := by
  unfold reqSetCursor
  split
  · exact .refl _
  · split
    · exact .of_draft fun plans => plans.1
    · exact .refl _

/-- A clamp between ordered bounds, as the nearest value within them. -/
theorem clampNat_eq_min_max {lo hi : Nat} (ordered : lo ≤ hi) (v : Nat) : clampNat lo hi v = min hi (max lo v) := by
  unfold clampNat
  split
  · omega
  · split <;> omega

theorem reqSetLayers_keepsPlnLaws (p : Port) (params : List Byte) (s : State) :
    KeepsPlnLaws s.pln (reqSetLayers p params s).state.pln := by
  unfold reqSetLayers
  split
  · exact .refl _
  · split
    · refine .of_draft fun plans => ?_
      obtain ⟨wLow, wHigh, xFits, yFits, -, -, rest⟩ := plans.1
      simp only [clampNat_eq_min_max (show 1 ≤ 4 by decide)]
      exact ⟨wLow, wHigh, xFits, yFits, by dsimp only; omega, by dsimp only; omega, rest⟩
    · exact .refl _

/-- One gauge slot is written with a station in range, or emptied (R60). -/
theorem PlanLaw.setGauge {d : Plan} (law : PlanLaw d) (slot : Nat) {g : Option Gauge}
    (named : ∀ h, g = some h → 1 ≤ h.station ∧ h.station ≤ 255) :
    PlanLaw { d with gauges := setAt d.gauges slot g } := by
  obtain ⟨wLow, wHigh, xFits, yFits, sLow, sHigh, slots, stations, rest⟩ := law
  refine ⟨wLow, wHigh, xFits, yFits, sLow, sHigh, (List.length_set ..).trans slots, fun h mem => ?_, rest⟩
  rcases List.mem_or_eq_of_mem_set mem with old | new
  · exact stations h old
  · exact named h new.symm

theorem reqSetGauge_keepsPlnLaws (p : Port) (params : List Byte) (s : State) :
    KeepsPlnLaws s.pln (reqSetGauge p params s).state.pln := by
  unfold reqSetGauge
  split
  · exact .refl _
  · split
    · next slot station flags =>
      split
      · exact .refl _
      · next allowed =>
        refine .of_draft fun plans => plans.1.setGauge _ ?_
        rintro h ⟨⟩
        simp only [Bool.or_eq_true, decide_eq_true_eq, not_or] at allowed
        have named : station.toNat ≠ 0 := fun zero => allowed.2 (BitVec.eq_of_toNat_eq zero)
        exact ⟨Nat.one_le_iff_ne_zero.mpr named, Nat.lt_succ_iff.mp station.isLt⟩
    · exact .refl _

theorem reqClearGauge_keepsPlnLaws (p : Port) (params : List Byte) (s : State) :
    KeepsPlnLaws s.pln (reqClearGauge p params s).state.pln := by
  unfold reqClearGauge
  split
  · exact .refl _
  · split
    · split
      · exact .refl _
      · exact .of_draft fun plans => plans.1.setGauge _ nofun
    · exact .refl _

/-- No id is kept twice, and none that is not carried (R61). -/
theorem keepFirst_spec (ids : List Nat) : ∀ kept : List Nat, kept.Nodup →
    (keepFirst kept ids).Nodup ∧ (keepFirst kept ids).length ≤ kept.length + ids.length ∧
      ∀ x ∈ keepFirst kept ids, x ∈ kept ∨ x ∈ ids := by
  induction ids with
  | nil => exact fun kept distinct => ⟨distinct, Nat.le_refl _, fun x mem => .inl mem⟩
  | cons id rest ih =>
    intro kept distinct
    unfold keepFirst
    split
    · obtain ⟨nodup, few, source⟩ := ih kept distinct
      exact ⟨nodup, by rw [List.length_cons]; omega, fun x mem => (source x mem).imp_right (List.mem_cons_of_mem _)⟩
    · next fresh =>
      have new : (kept ++ [id]).Nodup := by
        rw [List.nodup_append_comm]
        exact List.nodup_cons.mpr ⟨by simpa using fresh, distinct⟩
      obtain ⟨nodup, few, source⟩ := ih _ new
      refine ⟨nodup, by simp only [List.length_append, List.length_cons, List.length_nil] at few ⊢; omega, fun x mem => ?_⟩
      have := source x mem
      simp only [List.mem_append, List.mem_cons, List.not_mem_nil, or_false] at this ⊢
      tauto

/-- What SET AREAS stores: no more than eight ids, each once and within range (R61). -/
theorem PlanLaw.setAreas {d : Plan} (law : PlanLaw d) {ids : List Nat} (few : ids.length ≤ 8)
    (named : ∀ id ∈ ids, badId id = false) : PlanLaw { d with areas := keepFirst [] ids } := by
  obtain ⟨wLow, wHigh, xFits, yFits, sLow, sHigh, slots, stations, -⟩ := law
  obtain ⟨distinct, length, carried⟩ := keepFirst_spec ids [] .nil
  refine ⟨wLow, wHigh, xFits, yFits, sLow, sHigh, slots, stations, ?_, distinct, fun id mem => ?_⟩
  · simp only [List.length_nil] at length
    dsimp only
    omega
  · have good := named id ((carried id mem).resolve_left List.not_mem_nil)
    simp only [badId, Bool.or_eq_false_iff, decide_eq_false_iff_not] at good
    omega

theorem reqSetAreas_keepsPlnLaws (p : Port) (params : List Byte) (s : State) :
    KeepsPlnLaws s.pln (reqSetAreas p params s).state.pln := by
  unfold reqSetAreas
  split
  · exact .refl _
  · split
    · exact .refl _
    · simp only []
      split
      · exact .refl _
      · split
        · exact .refl _
        · next good =>
          refine .of_draft fun plans => plans.1.setAreas (List.length_take_le _ _) fun id mem => ?_
          simp only [List.any_eq_true, not_exists, not_and, Bool.not_eq_true] at good
          exact good id mem

theorem reqCopyAirToDraft_keepsPlnLaws (p : Port) (params : List Byte) (s : State) :
    KeepsPlnLaws s.pln (reqCopyAirToDraft p params s).state.pln := by
  unfold reqCopyAirToDraft
  split
  · exact .refl _
  · split
    · exact .of_draft fun plans => plans.2
    · exact .refl _

/-! ### The air lock and RESTART (R69, R70, R72) -/

theorem reqSetAirLock_keepsPlnLaws (p : Port) (params : List Byte) (s : State) :
    KeepsPlnLaws s.pln (reqSetAirLock p params s).state.pln := by
  unfold reqSetAirLock
  split
  · split
    · exact .of_lock _ _
    · split <;> exact .refl _
  · exact .refl _

theorem reqClearAirLock_keepsPlnLaws (p : Port) (params : List Byte) (s : State) :
    KeepsPlnLaws s.pln (reqClearAirLock p params s).state.pln := by
  unfold reqClearAirLock
  split
  · split
    · exact .refl _
    · split
      · exact .of_lock _ _
      · exact .refl _
  · exact .refl _

/-- Default plans with no request pending keep both laws (R71, R72). -/
theorem keepsPlnLaws_of_default {l l' : Pln} (draft : l'.draft = Plan.default) (air : l'.air = Plan.default)
    (idle : l'.waiting = .both false) : KeepsPlnLaws l l' := by
  refine ⟨fun _ => ?_, fun _ => holdLaw_of_none_waits fun q => by rw [idle, PerPort.get_both]⟩
  unfold PlansLaw
  rw [draft, air]
  exact ⟨defaultPlan_planLaw, defaultPlan_planLaw⟩

theorem reqRestart_keepsPlnLaws (p : Port) (params : List Byte) (s : State) :
    KeepsPlnLaws s.pln (reqRestart p params s).state.pln := by
  unfold reqRestart
  split
  · split
    · exact .refl _
    · exact keepsPlnLaws_of_default rfl rfl rfl
  · exact .refl _

/-- Every request: the twelve above write the plan unit, no other does. -/
theorem handler_keepsPlnLaws : ∀ h ∈ handlers, ∀ (p : Port) (params : List Byte) (s : State),
    KeepsPlnLaws s.pln (h p params s).state.pln := by
  simp only [handlers, List.forall_mem_cons]
  refine ⟨reqRequestHold_keepsPlnLaws, reqReleaseHold_keepsPlnLaws, reqSetView_keepsPlnLaws, reqSetCursor_keepsPlnLaws,
    reqSetLayers_keepsPlnLaws, reqSetGauge_keepsPlnLaws, reqClearGauge_keepsPlnLaws, reqSetAreas_keepsPlnLaws,
    reqCopyAirToDraft_keepsPlnLaws, ?_, reqSetAirLock_keepsPlnLaws, reqClearAirLock_keepsPlnLaws, ?_, ?_, ?_, ?_, ?_, ?_,
    ?_, ?_, ?_, ?_, ?_, ?_, ?_, ?_, ?_, ?_, ?_, ?_, ?_, ?_, ?_, ?_, ?_, ?_, ?_, ?_, reqRestart_keepsPlnLaws, nofun⟩
  all_goals exact fun p params s => .of_eq (by simp)

/-! ### The other operations -/

/-- A report of the partner leaves the plan unit (R163). -/
theorem receiveReport_pln (r : Report) (s : State) : (receiveReport r s).pln = s.pln := by
  have acted : ∀ u : State, (actOnSwapWord r u).pln = u.pln := by
    intro u
    unfold actOnSwapWord receiveOffer receiveRequest receiveRelease
    repeat' split
    all_goals simp
  have noted : (noteMain r s).pln = s.pln := by
    unfold noteMain
    split <;> simp
  unfold receiveReport
  simp only []
  split
  · simp [acted, takeInHand, noted]
  · exact noted

theorem effect_keepsPlnLaws {s t : State} (e : Effect s t) : KeepsPlnLaws s.pln t.pln := by
  cases e with
  | stands => exact .refl _
  | halted power _ => exact .refl _
  | released t straps => exact keepsPlnLaws_of_default rfl rfl rfl
  | acted running act =>
    cases act with
    | stands => exact .refl _
    | pulse e => exact pulseEvent_keepsPlnLaws e s
    | regainExpiry => obtain ⟨f, eq⟩ := regainExpiry_fcy s; rw [eq]; exact .refl _
    | complete => obtain ⟨_, _, eq⟩ := complete_fcy s; rw [eq]; exact .refl _
    | spend => obtain ⟨_, eq⟩ := spend_fcy s; rw [eq]; exact .refl _
    | report r _ => exact .of_eq (receiveReport_pln r _)
    | link l _ => exact .refl _
    | ingest c => exact .of_eq (IngestLeaves.ingestCharacter c s).pln
    | symbol => exact .refl _
    | loader => exact .of_eq (IngestLeaves.moveHead s).pln
    | request p r params palarm known =>
      simp only [sendReply_keeps]
      exact handler_keepsPlnLaws _ known p params (endFrame p (sampleAlarm palarm s))
    | ports palarm receiver reply waiting => exact .refl _

/-- Settles O55: a step is one of the effects, each of which keeps the ranges of the plans and the law of the hold. -/
theorem stepKeepsPlansAndHold : Obligations.StepKeepsPlansAndHold := by
  intro s t h
  obtain ⟨q, e⟩ := step_effect h
  have kept := effect_keepsPlnLaws e
  exact ⟨kept.plans, kept.hold⟩

end Sys2Proof.Machine
end

section
/-! PROOFS. A due PUBLISH at a pulse: held back, deferred, expired, cut or swept (R53, R54, R77 to R84, R88, R90): O15. -/

namespace Sys2Proof.Machine

/-! ### How far the take engine goes on -/

/-- From s to t the take engine has let no entry in, dropped no record, left the flush mark and logged at most n records
(R76, R88, R90). -/
structure TakesGoOn (n : Nat) (s t : State) : Prop where
  entries : ∀ a, ∀ x ∈ t.tke.queue, ∃ y ∈ s.tke.queue, sameTake a x = sameTake a y
  records : ∀ p c, c ∈ s.tke.completions.get p → c ∈ t.tke.completions.get p
  flush : t.tke.flushMark = s.tke.flushMark
  logged : ∃ made : List Completion, made.length ≤ n ∧ t.tke.log = made.foldl appendLog s.tke.log

/-- A completion with another status than DONE is logged (R88). -/
theorem completeTake_log {status : TakeStatus} (kept : status ≠ .done) (e : TakeEntry) (applied : Word32) (s : State) :
    (completeTake e status applied s).tke.log = appendLog s.tke.log (completionOf e status applied) := if_neg kept

namespace TakesGoOn

variable {n m : Nat} {s t u : State}

theorem of_same (n : Nat) (same : t.tke = s.tke) : TakesGoOn n s t := by
  refine ⟨?_, ?_, ?_, [], Nat.zero_le n, ?_⟩ <;> rw [same]
  · exact fun a x mem => ⟨x, mem, rfl⟩
  · exact fun p c mem => mem
  · rfl

theorem trans (h : TakesGoOn n s t) (k : TakesGoOn m t u) : TakesGoOn (n + m) s u := by
  obtain ⟨made, few, log⟩ := h.logged
  obtain ⟨made', few', log'⟩ := k.logged
  refine ⟨fun a x mem => ?_, fun p c mem => k.records p c (h.records p c mem), k.flush.trans h.flush, made ++ made',
    by rw [List.length_append]; omega, by rw [log', log, List.foldl_append]⟩
  obtain ⟨y, memY, sameY⟩ := k.entries a x mem
  obtain ⟨z, memZ, sameZ⟩ := h.entries a y memY
  exact ⟨z, memZ, sameY.trans sameZ⟩

theorem weaken (h : TakesGoOn n s t) (le : n ≤ m) : TakesGoOn m s t := by
  obtain ⟨made, few, log⟩ := h.logged
  exact ⟨h.entries, h.records, h.flush, made, Nat.le_trans few le, log⟩

/-- What has finished stays so. -/
theorem finished (h : TakesGoOn n s t) {e : TakeEntry} {status : TakeStatus} {applied : Word32}
    (done : Finished e status applied s) : Finished e status applied t :=
  done.of_shrink (h.entries e) h.records

/-- A take that completes logs one record at most (R88). -/
theorem completeTake (e : TakeEntry) (status : TakeStatus) (applied : Word32) (s : State) :
    TakesGoOn 1 s (completeTake e status applied s) := by
  refine ⟨fun a x mem => ⟨x, ?_, rfl⟩, fun p c mem => mem_completions_completeTake mem e status applied, rfl, ?_⟩
  · rw [completeTake_queue] at mem
    exact List.mem_of_mem_filter mem
  · by_cases done : status = .done
    · exact ⟨[], Nat.zero_le 1, if_pos done⟩
    · exact ⟨[completionOf e status applied], Nat.le_refl 1, completeTake_log done e applied s⟩

/-- An entry that changes its state stays the same take. -/
theorem markEntry (e : TakeEntry) (st : EntryState) (s : State) : TakesGoOn 0 s (markEntry e st s) := by
  refine ⟨fun a x mem => ?_, fun p c mem => mem, rfl, [], Nat.le_refl 0, rfl⟩
  obtain ⟨y, hy, rfl⟩ := List.mem_map.mp mem
  refine ⟨y, hy, ?_⟩
  split <;> rfl

theorem takeStep (e : TakeEntry) (r : SweepRecord) (status : TakeStatus) (applied : Word32) (s : State) :
    TakesGoOn 1 s (takeStep e r status applied s) := by
  have written : TakesGoOn 0 s (onAirPlan (writeStep r) s) := of_same 0 (by simp)
  unfold Machine.takeStep
  simp only []
  split
  · exact written.trans (completeTake _ _ _ _)
  · exact (written.trans (markEntry _ _ _)).weaken (Nat.zero_le 1)

/-- A superseded sweep is one record (R84). -/
theorem supersede (s : State) : TakesGoOn 1 s (supersede s) := by
  unfold Machine.supersede
  split
  · exact of_same 1 rfl
  · unfold supersedeEntry
    split
    · exact completeTake _ _ _ s
    all_goals exact of_same 1 rfl

/-- After a supersession a publish by cut completes (R78). -/
theorem applyCut (e : TakeEntry) (s : State) : TakesGoOn 1 (Machine.supersede s) (applyCut e s) :=
  (of_same 0 (by simp)).trans (completeTake _ _ _ _)

/-- After a supersession the first step of a swept publish is made (R79). -/
theorem applySwept (n : Nat) (e : TakeEntry) (s : State) : TakesGoOn 1 (Machine.supersede s) (applySwept n e s) :=
  (of_same 0 (by simp)).trans (takeStep _ _ _ _ _)

/-- A deal of the first pass logs the entry's own record and that of a superseded sweep at most. -/
theorem applyEntry (acc : State × Nat) (e : TakeEntry) : TakesGoOn 2 acc.1 (applyEntry acc e).1 := by
  have completes : ∀ {t : State} (status applied), t.tke = acc.1.tke →
      TakesGoOn 2 acc.1 (Machine.completeTake e status applied t) :=
    fun status applied same => ((of_same 0 same).trans (completeTake e status applied _)).weaken (by decide)
  unfold Machine.applyEntry
  simp only []
  split
  · split
    · split
      · exact completes _ _ rfl
      · exact (markEntry _ _ _).weaken (by decide)
    · split
      · exact (supersede _).trans (applyCut _ _)
      · exact (supersede _).trans (applySwept _ _ _)
  · exact (supersede _).trans (takeStep _ _ _ _ _)
  · split
    · exact completes _ _ rfl
    · exact completes _ _ rfl
  · exact completes _ _ rfl
  · exact of_same 2 rfl

theorem foldl_applyEntry (l : List TakeEntry) :
    ∀ acc : State × Nat, TakesGoOn (2 * l.length) acc.1 (l.foldl Machine.applyEntry acc).1 := by
  induction l with
  | nil => exact fun acc => of_same 0 rfl
  | cons e rest ih =>
    exact fun acc => ((applyEntry acc e).trans (ih _)).weaken (by rw [List.length_cons]; omega)

/-- The second pass logs a record at most, and only where a sweep was running before (R83). -/
theorem stepSweep (q : List TakeEntry) (s : State) :
    TakesGoOn (q.countP isSweeping) s (stepSweep (q.find? isSweeping) s) := by
  unfold Machine.stepSweep
  split
  · exact of_same _ rfl
  · next b found =>
    have runs : 1 ≤ q.countP isSweeping :=
      List.countP_pos_iff.mpr ⟨b, List.mem_of_find?_eq_some found, List.find?_some found⟩
    split
    · exact of_same _ rfl
    · split
      · exact (takeStep _ _ _ _ s).weaken runs
      all_goals exact of_same _ rfl

end TakesGoOn

/-! ### What the passes leave -/

/-- A write to air leaves the take engine. -/
theorem onAirPlan_tke (f : Plan → Plan) (s : State) : (onAirPlan f s).tke = s.tke := rfl

theorem applyEntry_hold (acc : State × Nat) (e : TakeEntry) : (applyEntry acc e).1.pln.hold = acc.1.pln.hold := by
  obtain ⟨air, eq⟩ := applyEntry_pln acc e
  rw [eq]

/-- The first pass leaves the hold and the count. -/
theorem foldl_applyEntry_hold (l : List TakeEntry) (acc : State × Nat) :
    (l.foldl applyEntry acc).1.pln.hold = acc.1.pln.hold ∧ (l.foldl applyEntry acc).1.fcy = acc.1.fcy :=
  foldl_applyEntry (P := fun t => t.pln.hold = acc.1.pln.hold ∧ t.fcy = acc.1.fcy)
    (fun b e ⟨hold, fcy⟩ => ⟨(applyEntry_hold b e).trans hold, by simpa using fcy⟩) l acc ⟨rfl, rfl⟩

/-! ### The expiry (R80) -/

/-- Whether an entry is held back follows from the hold alone. -/
theorem heldBack_congr {s t : State} (hold : t.pln.hold = s.pln.hold) (e : TakeEntry) : heldBack e t = heldBack e s := by
  rw [heldBack, heldBack, heldByOther, heldByOther, hold]

theorem heldBack_of {e : TakeEntry} {s : State} (waits : e.urgent = false) (held : s.pln.hold = some e.port.other) :
    heldBack e s = true := by
  simp [heldBack, heldByOther, waits, held]

/-- A held back PUBLISH at frame D + 50 or later completes EXPIRED (R80). -/
theorem applyEntry_of_expiry {acc : State × Nat} {e : TakeEntry} {n : Nat} (kind : e.kind = .publish n)
    (held : heldBack e acc.1 = true) (due : expires e acc.1 = true) :
    applyEntry acc e = (completeTake e .expired (acc.1.fcy.count + 1) acc.1, acc.2) := by
  simp [applyEntry, kind, held, due]

/-- A held back PUBLISH before frame D + 50 becomes DEFERRED (R80). -/
theorem applyEntry_of_deferral {acc : State × Nat} {e : TakeEntry} {n : Nat} (kind : e.kind = .publish n)
    (held : heldBack e acc.1 = true) (early : expires e acc.1 = false) :
    applyEntry acc e = (markEntry e .deferred acc.1, acc.2) := by
  simp [applyEntry, kind, held, early]

/-- The passes over a queue with a PUBLISH that expires: its record stands in its list and, among those that the entries
before and after it and the running sweep add, in the log (R77, R80, R88, R90). -/
theorem applyTakes_of_expiry {s v : State} {k : Nat} {e : TakeEntry} {n : Nat} {first rest : List TakeEntry}
    (tke : v.tke = s.tke) (kind : e.kind = .publish n) (held : heldBack e v = true) (ends : expires e v = true)
    (split : dueEntries v = first ++ e :: rest) (short : s.tke.log.length ≤ 8) :
    Finished e .expired (v.fcy.count + 1) (applyTakes v k).1 ∧ ∃ made later log, made.length ≤ 2 * first.length ∧
      later.length ≤ 2 * rest.length + s.tke.queue.countP isSweeping ∧
      log = s.tke.log ++ made ++ completionOf e .expired (v.fcy.count + 1) :: later ∧
      (applyTakes v k).1.tke.log = log.drop (log.length - 8) := by
  obtain ⟨a, isA⟩ : ∃ a, a = first.foldl applyEntry (v, k) := ⟨_, rfl⟩
  have before : TakesGoOn (2 * first.length) v a.1 := isA ▸ .foldl_applyEntry first (v, k)
  obtain ⟨hold, fcy⟩ := foldl_applyEntry_hold first (v, k)
  rw [← isA] at hold fcy
  have held' : heldBack e a.1 = true := (heldBack_congr hold e).trans held
  have ends' : expires e a.1 = true := by rw [← ends, expires, expires, fcy]
  obtain ⟨b, isB⟩ : ∃ b, b = completeTake e .expired (v.fcy.count + 1) a.1 := ⟨_, rfl⟩
  have passes : (applyTakes v k).1 =
      stepSweep (s.tke.queue.find? isSweeping) (rest.foldl applyEntry (b, a.2)).1 := by
    rw [applyTakes, split, List.foldl_append, List.foldl_cons, ← isA, applyEntry_of_expiry kind held' ends', fcy, ← isB,
      tke]
  have after : TakesGoOn (2 * rest.length + s.tke.queue.countP isSweeping) b (applyTakes v k).1 :=
    passes ▸ (TakesGoOn.foldl_applyEntry rest (b, a.2)).trans (.stepSweep s.tke.queue _)
  obtain ⟨made, few, logMade⟩ := before.logged
  obtain ⟨later, few', logLater⟩ := after.logged
  refine ⟨after.finished (isB ▸ completeTake_finished _ _ _ _), made, later, _, few, few', rfl, ?_⟩
  have logB : b.tke.log = appendLog a.1.tke.log (completionOf e .expired (v.fcy.count + 1)) :=
    isB ▸ completeTake_log (by decide) e _ a.1
  rw [logLater, logB, logMade, tke, ← List.foldl_cons, ← List.foldl_append, foldl_appendLog _ _ short]
  simp only [List.append_assoc]

/-! ### A part without a negotiation record (R167) -/

/-- Any negotiation record is without joined entries, so that its end completes no take (R167). -/
def NoJoined (s : State) : Prop := ∀ n, s.opr.negotiation = some n → n.entries = []

/-- The take engine stands and no take is joined to a negotiation. -/
structure Unjoined (s t : State) : Prop where
  tke : t.tke = s.tke
  none_joined : NoJoined t

theorem Unjoined.trans {s t u : State} (h : Unjoined s t) (k : Unjoined t u) : Unjoined s u :=
  ⟨k.tke.trans h.tke, k.none_joined⟩

theorem Unjoined.of_same {s t : State} (idle : NoJoined s) (tke : t.tke = s.tke)
    (record : t.opr.negotiation = s.opr.negotiation) : Unjoined s t :=
  ⟨tke, fun n known => idle n (record ▸ known)⟩

/-- A role change outside a negotiation that no take has joined completes none (R167). -/
theorem Unjoined.forceRole (r : Role) {s : State} (idle : NoJoined s) : Unjoined s (forceRole r s) := by
  have ended : Unjoined s (endNegotiation .swapFailed (setRole r s)) := by
    unfold endNegotiation
    split
    · exact .of_same idle rfl rfl
    · next n known =>
      rw [idle n known]
      exact ⟨rfl, nofun⟩
  exact ended.trans (.of_same ended.none_joined (by simp [Machine.forceRole]) (by simp [Machine.forceRole]))

/-- A role change that is made or not. -/
theorem Unjoined.forced {s u : State} (h : Unjoined s u) (c : Prop) [Decidable c] (r : Role) :
    Unjoined s (if c then Machine.forceRole r u else u) := by
  split
  · exact h.trans (.forceRole r h.none_joined)
  · exact h

/-- Without a record the role changes of a pulse leave the takes: a record made at the pulse has no entries (R170). -/
theorem roleChanges_tke (before : Word32) {s : State} (free : s.opr.negotiation = none) :
    (roleChanges before s).1.tke = s.tke := by
  have stages : (negotiationStages s).1 = s := by
    simp [negotiationStages, standbyCheck, stageStep, free]
  have auto : Unjoined s (autoNegotiate s) := by
    unfold autoNegotiate
    split
    · refine ⟨rfl, ?_⟩
      rintro n ⟨⟩
      rfl
    · exact .of_same (fun n known => nomatch free.symm.trans known) rfl rfl
  have changed : Unjoined s (contention before (selfRelease (forcedTakeover (autoNegotiate s)))) :=
    ((auto.forced _ .main).forced _ .standby).forced _ .standby
  simp only [roleChanges, stages]
  exact changed.tke

/-- Without a negotiation record a pulse comes to the take engine's passes with the takes as they were. -/
theorem pairDone_of_no_record (t : Time) (palarm : Bool) {s : State} (free : s.opr.negotiation = none) :
    (pairDone t palarm s).1.tke = s.tke := by
  have tke : (periodEnded t palarm s).tke = s.tke := by simp [periodEnded]
  have record : (periodEnded t palarm s).opr.negotiation = none := by simp [periodEnded, advance, sampleAlarm, free]
  unfold pairDone pairChanges
  split
  · rw [roleChanges_tke _ record, tke]
  · exact tke

/-- A pulse comes to the take engine's passes with the plan unit as it was and with its own count. -/
theorem pairDone_pln_count (t : Time) (palarm : Bool) (s : State) :
    (pairDone t palarm s).1.pln = s.pln ∧ (pairDone t palarm s).1.fcy.count = (servingPulse t palarm s).fcy.count := by
  obtain ⟨-, -, -, -, -, -, -, -, count⟩ := servingPulse_pair t palarm s
  exact ⟨by simp [pairDone, periodEnded], count.symm⟩

/-- TAKE_EXPIRY with an internal pulse at which a waiting, held back PUBLISH completes EXPIRED is that pulse (log 1). -/
theorem exec_takeExpiry {s : State} {e : TakeEntry} {n : Nat} {applied : Word32} (palarm : Bool)
    (running : s.power = .running) (queued : e ∈ s.tke.queue) (kind : e.kind = .publish n) (waits : isWaiting e = true)
    (held : heldBack e s = true) (ends : expires e (internalPulse palarm s) = true)
    (finished : Finished e .expired applied (internalPulse palarm s)) :
    exec (.takeExpiry (.internal palarm)) s = .next (internalPulse palarm s) := by
  have gone : findEntry e.port e.tag (internalPulse palarm s).tke.queue = none :=
    List.find?_eq_none.mpr fun x mem named => Bool.false_ne_true ((finished.1 x mem).symm.trans named)
  have expired : takeExpired s (pulseEvent (.internal palarm) s) = true := by
    refine List.any_eq_true.mpr ⟨e, queued, ?_⟩
    simp [kind, TakeKind.sort, waits, held, pulseEvent, ends, gone]
  simp only [exec, execTakeExpiry, whileRunning_running _ running, comingAbout, expired, if_true]
  rfl

/-- The expiry of R80, at the internal pulse that begins frame D + 50. -/
theorem deferredPublish_expires (palarm : Bool) {s : State} {t : Time} {e : TakeEntry} {n : Nat}
    (running : s.power = .running) (timer : s.fcy.timer = some t) (law : TakeLaw s.tke) (queued : e ∈ s.tke.queue)
    (kind : e.kind = .publish n) (patient : e.urgent = false) (state : e.state = .queued ∨ e.state = .deferred)
    (hold : s.pln.hold = some e.port.other) (noSync : s.opr.role ≠ .standby ∨ s.opr.inHand = none)
    (frame : e.due + 50 = s.fcy.count + 2) (free : s.opr.negotiation = none) :
    ∃ u, exec (.takeExpiry (.internal palarm)) s = .next u ∧ u.fcy.count = s.fcy.count + 1 ∧
      Finished e .expired (s.fcy.count + 2) u ∧
      ∃ first rest made later log, dueNext s = first ++ e :: rest ∧ made.length ≤ 2 * first.length ∧
        later.length ≤ 2 * rest.length + s.tke.queue.countP isSweeping ∧
        log = s.tke.log ++ made ++ completionOf e .expired (s.fcy.count + 2) :: later ∧
        u.tke.log = log.drop (log.length - 8) := by
  obtain ⟨-, -, short, -⟩ := law
  have waits : isWaiting e = true := by simpa [isWaiting] using state
  have held := heldBack_of patient hold
  obtain ⟨v, isV⟩ : ∃ v, v = s.onFcy fun f => { f with timer := some (t + Config.nominal f.rate) } := ⟨_, rfl⟩
  obtain ⟨w, isW⟩ : ∃ w, w = (pairDone t palarm v).1 := ⟨_, rfl⟩
  have pulse : internalPulse palarm s = servingPulse t palarm v := by rw [isV, internalPulse, timer]
  have count : (servingPulse t palarm v).fcy.count = s.fcy.count + 1 := by
    rw [servingPulse_count t palarm (by rw [isV]; exact noSync), isV]
    rfl
  have tke : w.tke = s.tke := by rw [isW, pairDone_of_no_record t palarm (by rw [isV]; exact free), isV]; rfl
  obtain ⟨pln, countW⟩ := pairDone_pln_count t palarm v
  rw [← isW] at pln countW
  rw [count] at countW
  have frameW : w.fcy.count + 1 = s.fcy.count + 2 := by rw [countW]; bv_omega
  have ends : ∀ x : State, x.fcy.count = s.fcy.count + 1 → expires e x = true := by
    intro x isCount
    simp only [expires, reached, Config.deferralFrames, isCount, decide_eq_true_eq]
    bv_omega
  have due : e ∈ dueNext s := by
    simp only [dueNext, List.mem_filter, Bool.and_eq_true, Bool.or_eq_true, decide_eq_true_eq, reached]
    exact ⟨queued, state, by bv_omega⟩
  obtain ⟨first, rest, split⟩ := List.append_of_mem due
  obtain ⟨finished, made, later, log, few, few', isLog, lastEight⟩ :=
    applyTakes_of_expiry (k := (pairDone t palarm v).2) tke kind
      ((heldBack_congr (by rw [pln, isV]; rfl) e).trans held) (ends w countW) ((dueEntries_eq tke countW).trans split) short
  rw [frameW] at finished isLog
  obtain ⟨-, -, -, after⟩ := servingPulse_takes t palarm v _ rfl
  rw [← isW] at after
  have done : Finished e .expired (s.fcy.count + 2) (servingPulse t palarm v) :=
    finished.of_same (by rw [after]) (by rw [after])
  refine ⟨servingPulse t palarm v, ?_, count, done, first, rest, made, later, log, split, few, few', isLog, ?_⟩
  · rw [← pulse]
    rw [← pulse] at done count
    exact exec_takeExpiry palarm running queued kind waits held (ends _ count) done
  · rw [after, ← lastEight]

/-! ### The air sequence (R53) -/

theorem goesToAir_eq (e : TakeEntry) (s : State) : goesToAir e s =
    (e.kind.sort = .publish && (e.urgent || s.pln.hold ≠ some e.port.other)) := by
  simp [goesToAir, heldBack, heldByOther]

/-- Of what the take engine writes to air a publish alone moves the sequence number, by one (R53, R55). -/
theorem AirWrite.seq {draft air air' : Plan} {published : Bool} (w : AirWrite draft air published air') :
    air'.seq = air.seq + BitVec.ofNat 16 (bit published) := by
  have stepped : ∀ (r : SweepRecord) (p : Plan), (steppedAir r p).seq = p.seq := by
    intro r p
    unfold steppedAir
    cases r.view <;> rfl
  cases w with
  | stands => simp [bit]
  | step r => simp [bit, stepped]
  | cut => simp [bit, publishCut, writeView_eq, steppedView, publishContent]
  | swept r => simp [bit, stepped, publishContent]

/-- The first pass raises the sequence number once for each entry that goes to air (R53, R77). -/
theorem foldl_applyEntry_seq (l : List TakeEntry) : ∀ acc : State × Nat, (l.foldl applyEntry acc).1.pln.air.seq =
    acc.1.pln.air.seq + BitVec.ofNat 16 (l.countP fun e => goesToAir e acc.1) := by
  induction l with
  | nil => exact fun acc => (BitVec.add_zero _).symm
  | cons e rest ih =>
    intro acc
    have same : ∀ x, goesToAir x (applyEntry acc e).1 = goesToAir x acc.1 :=
      fun x => by rw [goesToAir_eq, goesToAir_eq, applyEntry_hold]
    rw [List.foldl_cons, ih, (applyEntry_airWrite acc e).seq, List.countP_cons]
    simp only [same]
    cases goesToAir e acc.1 <;> simp [bit, BitVec.ofNat_add, BitVec.add_assoc, BitVec.add_comm]

/-! ### One PUBLISH due (R78, R79, R84) -/

theorem publishStatus_eq (e : TakeEntry) (s : State) : publishStatus e s =
    if e.past then .doneLate else if e.urgent = true ∧ s.pln.hold = some e.port.other then .doneHeld else .done := by
  simp [publishStatus, heldByOther]

/-- An entry due at the next pulse stands in the queue and is not SWEEPING (R77). -/
theorem waits_of_due {s : State} {e : TakeEntry} (due : e ∈ dueNext s) : e ∈ s.tke.queue ∧ isSweeping e = false := by
  simp only [dueNext, List.mem_filter, Bool.and_eq_true, Bool.or_eq_true, decide_eq_true_eq] at due
  obtain ⟨queued, state | state, -⟩ := due <;> exact ⟨queued, by simp [isSweeping, state]⟩

namespace TakesRun

variable {s v u : State}

/-- An entry is held back in the passes as it was before the pulse. -/
theorem heldBack (run : TakesRun s v u) (e : TakeEntry) : Machine.heldBack e v = Machine.heldBack e s :=
  heldBack_congr (by rw [run.pln]) e

/-- At a pulse of a SOLE part the air sequence rises by the publishes that go to air (R53). -/
theorem seq (run : TakesRun s v u) : u.pln.air.seq =
    s.pln.air.seq + BitVec.ofNat 16 ((dueNext s).countP fun e => goesToAir e s) := by
  have same : ∀ x, goesToAir x v = goesToAir x s := fun x => by rw [goesToAir_eq, goesToAir_eq, run.pln]
  obtain ⟨a, isA⟩ : ∃ a, a = (dueNext s).foldl applyEntry (v, 0) := ⟨_, rfl⟩
  have first : a.1.pln.air.seq = s.pln.air.seq + BitVec.ofNat 16 ((dueNext s).countP fun e => goesToAir e s) := by
    rw [isA, foldl_applyEntry_seq]
    simp only [same, run.pln]
  have second := (stepSweep_airWrite (s.tke.queue.find? isSweeping) a.1).seq
  rw [run.plnAfter, run.passes, ← isA, second, first]
  exact BitVec.add_zero _

/-- A PUBLISH that waits under the other port's hold becomes DEFERRED, and nothing goes to air (R80). -/
theorem of_deferred_due (run : TakesRun s v u) {e : TakeEntry} (due : dueNext s = [e]) {n : Nat}
    (kind : e.kind = .publish n) (patient : e.urgent = false) (hold : s.pln.hold = some e.port.other)
    (early : reached (e.due + 50) (s.fcy.count + 2) = false) (quiet : ∀ x ∈ s.tke.queue, isSweeping x = false) :
    u.tke.queue = s.tke.queue.map (fun x => if sameTake e x then { x with state := .deferred } else x) ∧
    u.tke.completions = s.tke.completions ∧ u.pln = s.pln ∧ u.tke.ts = tsFor s.tke.flushMark 0 := by
  have held : Machine.heldBack e v = true := (run.heldBack e).trans (heldBack_of patient hold)
  have notYet : expires e v = false := by rw [expires, run.count]; exact early
  have deal : applyEntry (v, 0) e = (markEntry e .deferred v, 0) := applyEntry_of_deferral kind held notYet
  have deferred : applyTakes v 0 = (markEntry e .deferred v, 0) := by
    rw [run.passes, due, List.foldl_cons, List.foldl_nil, deal, List.find?_eq_none.mpr fun x mem => by simp [quiet x mem]]
    rfl
  have ts := run.ts (by rw [deferred, ← run.tke]; rfl)
  refine ⟨?_, ?_, ?_, by rwa [deferred] at ts⟩
  · rw [run.queueAfter, deferred, ← run.tke]
    rfl
  · rw [run.completionsAfter, deferred, ← run.tke]
    rfl
  · rw [run.plnAfter, deferred, ← run.pln]
    simp

/-- The one due entry that is applied after superseding a running sweep: the sweep is not stepped, its record is made and
one take is counted (R77, R84, R92). -/
theorem of_superseding_due (run : TakesRun s v u) (law : TakeLaw s.tke) {e : TakeEntry} (due : dueNext s = [e])
    {w : State} {m : Nat} (deal : applyEntry (v, 0) e = (w, 1)) (after : TakesGoOn m (supersede v) w) :
    applyTakes v 0 = (w, 1) ∧ Superseded s u ∧ u.tke.ts = tsFor s.tke.flushMark 1 := by
  obtain ⟨queue, -, -, flush, -, superseded⟩ := supersede_spec (v := v) (by rw [run.tke]; exact law)
  have applied : applyTakes v 0 = (w, 1) := by
    rw [run.passes, due, List.foldl_cons, List.foldl_nil, deal]
    refine congrArg (·, 1) (stepSweep_of_superseded law (fun y mem => ?_) after.entries)
    rw [queue, run.tke] at mem
    simpa using List.mem_filter.mp mem
  have ts := run.ts (by rw [applied, after.flush, flush, run.tke])
  refine ⟨applied, fun x mem r status frame state => ?_, by rwa [applied] at ts⟩
  rw [run.completionsAfter, applied]
  exact after.records _ _ (superseded x (by rw [run.tke]; exact mem) r status frame state)

/-- A PUBLISH by cut (R53, R78). -/
theorem of_cut_due (run : TakesRun s v u) (law : TakeLaw s.tke) {e : TakeEntry} (due : dueNext s = [e])
    (kind : e.kind = .publish 0) (free : Machine.heldBack e s = false) :
    Superseded s u ∧ u.tke.ts = tsFor s.tke.flushMark 1 ∧
    u.pln = { s.pln with air := publishCut s.pln.draft s.pln.air } ∧
    Finished e (publishStatus e s) (s.fcy.count + 2) u ∧
    u.tke.queue = s.tke.queue.filter fun x => !sameTake e x && !isSweeping x := by
  obtain ⟨queue, -⟩ := supersede_spec (v := v) (by rw [run.tke]; exact law)
  have deal : applyEntry (v, 0) e = (applyCut e v, 1) := by
    simp [applyEntry, kind, run.heldBack e, free]
  have cut : applyCut e v = completeTake e (publishStatus e s) (s.fcy.count + 2)
      (onAirPlan (publishCut s.pln.draft) (supersede v)) := by
    simp only [applyCut, run.count, supersede_keeps, publishStatus_eq, run.pln]
  obtain ⟨applied, superseded, ts⟩ := run.of_superseding_due law due deal (.applyCut e v)
  refine ⟨superseded, ts, ?_, run.finished ?_, ?_⟩
  · rw [run.plnAfter, applied, cut, ← run.pln]
    simp [onAirPlan]
  · rw [applied, cut]
    exact completeTake_finished _ _ _ _
  · rw [run.queueAfter, applied, cut, completeTake_queue, onAirPlan_tke, queue, run.tke,
      List.filter_filter]

/-- A swept PUBLISH (R54, R79, R82). -/
theorem of_swept_due (run : TakesRun s v u) (law : TakeLaw s.tke) {e : TakeEntry} (due : dueNext s = [e]) {n : Nat}
    (kind : e.kind = .publish n) (more : 1 ≤ n) (free : Machine.heldBack e s = false) {r : SweepRecord}
    (isFirst : r = { n := n, k := 1, cursorStart := s.pln.air.cursor, cursorTarget := s.pln.draft.cursor,
                     view := some { x0Start := s.pln.air.x0, x0Target := s.pln.draft.x0, y0Start := s.pln.air.y0,
                                    y0Target := s.pln.draft.y0, wStart := s.pln.air.w, wTarget := s.pln.draft.w } }) :
    Superseded s u ∧ u.tke.ts = tsFor s.tke.flushMark 1 ∧
    u.pln = { s.pln with air := steppedAir r (publishContent s.pln.draft s.pln.air) } ∧
    Swept e r (publishStatus e s) (s.fcy.count + 2) s u := by
  obtain ⟨queue, -⟩ := supersede_spec (v := v) (by rw [run.tke]; exact law)
  have deal : applyEntry (v, 0) e = (applySwept n e v, 1) := by
    simp [applyEntry, kind, Nat.one_le_iff_ne_zero.mp more, run.heldBack e, free]
  have swept : applySwept n e v = takeStep e r (publishStatus e s) (s.fcy.count + 2)
      (onAirPlan (publishSwept s.pln.draft) (supersede v)) := by
    simp only [applySwept, run.count, supersede_keeps, publishStatus_eq, run.pln, isFirst, onAirPlan, State.pln_onPln,
      publishSwept, publishContent]
  have alone : (onAirPlan (publishSwept s.pln.draft) (supersede v)).tke.queue =
      s.tke.queue.filter fun x => sameTake e x || !isSweeping x := by
    rw [onAirPlan_tke, queue, run.tke]
    obtain ⟨queued, still⟩ := waits_of_due (s := s) (e := e) (by rw [due]; exact List.mem_singleton_self e)
    refine List.filter_congr fun x mem => ?_
    by_cases same : sameTake e x = true
    · rw [← take_unique law queued mem same]
      simp [still]
    · simp [same]
  obtain ⟨applied, superseded, ts⟩ := run.of_superseding_due law due deal (.applySwept n e v)
  refine ⟨superseded, ts, ?_, ?_⟩
  · rw [run.plnAfter, applied, swept, takeStep_pln, writeStep_eq, ← run.pln]
    simp [onAirPlan, publishSwept]
  · exact (takeStep_swept (r := r) (publishStatus e s) (s.fcy.count + 2) alone).of_same
      (by rw [run.queueAfter, applied, swept]) (by rw [run.completionsAfter, applied, swept])

end TakesRun

/-- Settles O15: the expiry is the lemma above; at the pulse of a SOLE part each clause is one of the runs of the take
engine. -/
theorem deferredPublishExpires : Obligations.DeferredPublishExpires := by
  refine ⟨fun palarm s t e n running timer law queued kind patient state hold noSync frame free => ?_,
    fun palarm s t frame sole isFrame => ?_⟩
  · obtain ⟨u, eq, count, finished, first, rest, made, later, log, split, few, few', isLog, lastEight⟩ :=
      deferredPublish_expires palarm running timer law queued kind patient state hold noSync frame free
    have record : completionOf e .expired (s.fcy.count + 2) =
        { port := e.port, tag := e.tag, sort := .publish, status := .expired, applied := s.fcy.count + 2,
          due := e.due } := by
      rw [completionOf, kind]
      rfl
    rw [record] at isLog
    refine ⟨u, eq, count, fun x mem => ?_, record ▸ finished.2, first, rest, made, later, log, split, few, few', isLog,
      lastEight⟩
    simpa [sameTake] using finished.1 x mem
  · obtain ⟨v, u, eq, run⟩ := exists_takesRun sole palarm
    have law := sole.takes
    subst isFrame
    refine ⟨u, eq, by simpa only [goesToAir_eq] using run.seq, fun e n due kind => ⟨fun patient hold early quiet =>
      run.of_deferred_due due kind patient hold early quiet, fun applies status isStatus => ?_⟩⟩
    have free : heldBack e s = false := by
      rcases applies with urgent | other
      · simp [heldBack, urgent]
      · simp [heldBack, heldByOther, other]
    obtain rfl : status = publishStatus e s := by rw [isStatus, publishStatus_eq]
    rcases Nat.eq_zero_or_pos n with cut | more
    · subst cut
      obtain ⟨superseded, ts, air, finished, queue⟩ := run.of_cut_due law due kind free
      refine ⟨superseded, ts, fun _ onDraft => ⟨?_, finished, queue⟩, fun more => absurd more (by decide)⟩
      rw [air, publishCut_of_law onDraft]
    · have swept := fun r isFirst => run.of_swept_due (r := r) law due kind more free isFirst
      obtain ⟨superseded, ts, -⟩ := swept _ rfl
      exact ⟨superseded, ts, fun cut => absurd cut (by omega), fun _ r isFirst => (swept r isFirst).2.2⟩

end Sys2Proof.Machine
end

section
/-! PROOFS. The edit hold and the air lock (R64 to R70): O28, O29 and O30. -/

namespace Sys2Proof.Machine

/-! ### Requests on a ready port (R177 to R179) -/

/-- A command whose rule answers with a status and data of its own. -/
theorem next_of_answer {p : Port} {s t : State} (ready : Ready p s) {code : Byte} {params data : List Byte} {f : Handler}
    {status : Status}
    (rule : f p params (endFrame p s) = { status := status, data := data, state := endFrame p t }) :
    (.next (request p code params f s) : Result) = .next (answered p code status data t) := by
  rw [request_of_ready ready, rule]
  rfl

/-- A rule that takes no parameter answers RANGE to any. -/
theorem next_of_parameters {p : Port} {s : State} (ready : Ready p s) {code : Byte} {params : List Byte} {f : Handler}
    (given : params ≠ []) (rule : ∀ b rest t, f p (b :: rest) t = refuse .range t) :
    (.next (request p code params f s) : Result) = .next (answered p code .range [] s) := by
  obtain ⟨b, rest, rfl⟩ := List.exists_cons_of_ne_nil given
  exact next_of_refused ready (rule b rest _)

/-! ### REQUEST HOLD and RECLAIM (R65, R66, R68) -/

theorem reqRequestHold_misfit (p : Port) {params : List Byte} (misfit : params.length ≠ 1) (s : State) :
    reqRequestHold p params s = refuse .range s := by
  unfold reqRequestHold
  split
  · exact absurd rfl misfit
  · rfl

theorem reqRequestHold_free (p : Port) (flags : Byte) {s : State} (free : s.pln.hold = none) :
    reqRequestHold p [flags] s = done [portCode (some p)] (s.onPln fun l => { l with hold := some p }) := by
  simp [reqRequestHold, free]

theorem reqRequestHold_holder (p : Port) (flags : Byte) {s : State} (hold : s.pln.hold = some p) :
    reqRequestHold p [flags] s = done [portCode (some p)] s := by
  simp [reqRequestHold, hold]

/-- Behind the other port a plain request becomes PENDING (R65). -/
theorem reqRequestHold_pending {p : Port} {flags : Byte} {s : State} (hold : s.pln.hold = some p.other)
    (plain : ¬ (p = .a ∧ flags.getLsbD 0 = true)) : reqRequestHold p [flags] s =
      { status := .pending, data := [portCode (some p.other)],
        state := s.onPln fun l => { l with waiting := l.waiting.set p true } } := by
  have kept : ¬ (p = .a && flags.getLsbD 0) = true := by
    rw [Bool.and_eq_true, decide_eq_true_eq]
    exact plain
  simp only [reqRequestHold, hold, if_neg (Port.other_ne p), if_neg kept]

/-- A reclaim takes the hold from port B (R66). -/
theorem reqRequestHold_reclaims {flags : Byte} {s : State} (hold : s.pln.hold = some .b)
    (reclaim : flags.getLsbD 0 = true) :
    reqRequestHold .a [flags] s = done [portCode (some .a)] (reclaimHold s) := by
  simp [reqRequestHold, hold, reclaim]

/-- The parameter byte of a reclaim has bit 0 set (R66). -/
theorem reclaim_flag (ignored : BitVec 7) : (ignored ++ 1#1 : Byte).getLsbD 0 = true :=
  BitVec.getLsbD_append.trans rfl

/-- Settles O28: each case of the holder is one equation of the rule. -/
theorem requestHoldGrantsQueuesOrReclaims : Obligations.RequestHoldGrantsQueuesOrReclaims := by
  intro p s ready
  refine ⟨fun params misfit => next_of_refused ready (reqRequestHold_misfit p misfit _),
    fun flags free => next_of_done ready (reqRequestHold_free p flags free),
    fun flags hold => next_of_done ready (reqRequestHold_holder p flags hold),
    fun flags hold plain => next_of_answer ready (reqRequestHold_pending hold plain), ?_, ?_⟩
  · rintro rfl hold ignored flags rfl
    exact ⟨rfl, next_of_done ready (reqRequestHold_reclaims hold (reclaim_flag ignored))⟩
  · rintro rfl notB ignored
    cases hold : s.pln.hold with
    | none => exact next_of_done ready (reqRequestHold_free .a _ hold)
    | some q =>
      cases q with
      | a =>
        have same : { s with pln := { s.pln with hold := some .a } } = s := by rw [← hold]
        rw [same]
        exact next_of_done ready (reqRequestHold_holder .a _ hold)
      | b => exact absurd hold notB

/-! ### RELEASE HOLD (R67, R68) -/

section ReleaseHold
variable {p : Port} {s : State}

/-- The holder passes the hold to a pending other port (R67). -/
theorem reqReleaseHold_passes (hold : s.pln.hold = some p) (waits : s.pln.waiting.get p.other = true) :
    reqReleaseHold p [] s = done [portCode (some p.other)] (tellHold p.other .granted
      (s.onPln fun l => { l with hold := some p.other, waiting := l.waiting.set p.other false })) := by
  simp [reqReleaseHold, holds, hold, releaseHold, waits, tellHold, raiseHold]

/-- Without a pending request the hold becomes FREE (R67). -/
theorem reqReleaseHold_frees (hold : s.pln.hold = some p) (idle : s.pln.waiting.get p.other = false) :
    reqReleaseHold p [] s = done [portCode none] (s.onPln fun l => { l with hold := none }) := by
  simp [reqReleaseHold, holds, hold, releaseHold, idle]

/-- A pending port withdraws its request (R67). -/
theorem reqReleaseHold_withdraws (other : s.pln.hold ≠ some p) (waits : s.pln.waiting.get p = true) :
    reqReleaseHold p [] s =
      done [portCode s.pln.hold] (s.onPln fun l => { l with waiting := l.waiting.set p false }) := by
  simp [reqReleaseHold, holds, other, waits]

theorem reqReleaseHold_notHolder (other : s.pln.hold ≠ some p) (idle : s.pln.waiting.get p = false) :
    reqReleaseHold p [] s = { status := .notHolder, data := [portCode s.pln.hold], state := s } := by
  simp [reqReleaseHold, holds, other, idle]

end ReleaseHold

/-- Settles O29: each case of the holder and the pending flags is one equation of the rule. -/
theorem releaseHoldPassesFreesOrWithdraws : Obligations.ReleaseHoldPassesFreesOrWithdraws := by
  intro p s ready
  exact ⟨fun params given => next_of_parameters ready given fun _ _ _ => rfl,
    fun hold waits => next_of_done ready (reqReleaseHold_passes (s := endFrame p s) hold waits),
    fun hold idle => next_of_done ready (reqReleaseHold_frees (s := endFrame p s) hold idle),
    fun other waits => next_of_done ready (reqReleaseHold_withdraws (s := endFrame p s) other waits),
    fun other idle => next_of_answer ready (reqReleaseHold_notHolder (s := endFrame p s) other idle)⟩

/-! ### The air lock (R69, R70) -/

section AirLock
variable (p : Port) {s : State}

theorem airLock_free (free : s.pln.lock = none) :
    reqSetAirLock p [] s = done [portCode (some p)] (s.onPln fun l => { l with lock := some p }) ∧
    reqClearAirLock p [] s = done [portCode none] s := by
  simp [reqSetAirLock, reqClearAirLock, free]

/-- The port that has set the lock sets it again, or clears it (R69, R70). -/
theorem airLock_own (own : s.pln.lock = some p) :
    reqSetAirLock p [] s = done [portCode (some p)] s ∧
    reqClearAirLock p [] s = done [portCode none] (s.onPln fun l => { l with lock := none }) := by
  simp [reqSetAirLock, reqClearAirLock, own]

/-- The other port is refused LOCKED (R69, R70). -/
theorem airLock_other (other : s.pln.lock = some p.other) :
    reqSetAirLock p [] s = { status := .locked, data := [portCode (some p.other)], state := s } ∧
    reqClearAirLock p [] s = { status := .locked, data := [portCode (some p.other)], state := s } := by
  simp [reqSetAirLock, reqClearAirLock, other]

end AirLock

/-- Settles O30: each case of the lock's owner is one equation of the two rules. -/
theorem airLockBelongsToItsSetter : Obligations.AirLockBelongsToItsSetter := by
  intro p s ready
  refine ⟨fun params given => ⟨next_of_parameters ready given fun _ _ _ => rfl,
    next_of_parameters ready given fun _ _ _ => rfl⟩, fun free => ?_, fun own => ?_, fun other => ?_⟩
  · obtain ⟨sets, clears⟩ := airLock_free (s := endFrame p s) p free
    exact ⟨next_of_done ready sets, next_of_done ready clears⟩
  · obtain ⟨sets, clears⟩ := airLock_own (s := endFrame p s) p own
    exact ⟨next_of_done ready sets, next_of_done ready clears⟩
  · obtain ⟨sets, clears⟩ := airLock_other (s := endFrame p s) p other
    exact ⟨next_of_answer ready sets, next_of_answer ready clears⟩

end Sys2Proof.Machine
end

section
/-! PROOFS. The draft edit commands (R56 to R62): O31, O32 and O33. -/

namespace Sys2Proof.Machine

section Draft
variable {s : State} {p : Port}

/-- Every rule of the draft first asks for the hold (R56). -/
theorem draftRules_notHolder (other : s.pln.hold ≠ some p) (params : List Byte) :
    reqSetView p params s = refuse .notHolder s ∧ reqSetCursor p params s = refuse .notHolder s ∧
    reqSetLayers p params s = refuse .notHolder s ∧ reqSetGauge p params s = refuse .notHolder s ∧
    reqClearGauge p params s = refuse .notHolder s ∧ reqSetAreas p params s = refuse .notHolder s ∧
    reqCopyAirToDraft p params s = refuse .notHolder s := by
  have first : (!holds s p) = true := not_holds_of_ne other
  exact ⟨if_pos first, if_pos first, if_pos first, if_pos first, if_pos first, if_pos first, if_pos first⟩

/-- Parameters of another length than a rule's are RANGE (R57 to R60, R62). -/
theorem draftRules_misfit (hold : s.pln.hold = some p) (params : List Byte) :
    (params.length ≠ 6 → reqSetView p params s = refuse .range s) ∧
    (params.length ≠ 4 → reqSetCursor p params s = refuse .range s) ∧
    (params.length ≠ 2 → reqSetLayers p params s = refuse .range s) ∧
    (params.length ≠ 3 → reqSetGauge p params s = refuse .range s) ∧
    (params.length ≠ 1 → reqClearGauge p params s = refuse .range s) ∧
    (params.length ≠ 0 → reqCopyAirToDraft p params s = refuse .range s) := by
  simp only [reqSetView, reqSetCursor, reqSetLayers, reqSetGauge, reqClearGauge, reqCopyAirToDraft,
    if_neg (not_holds_of hold)]
  refine ⟨?_, ?_, ?_, ?_, ?_, ?_⟩
  all_goals
    intro misfit
    split
    · exact absurd rfl misfit
    · rfl

/-! ### SET VIEW (R52, R57) -/

/-- A carried view under the clamps, in natural numbers (R52). -/
theorem steppedView_carried (x y w : Nat) (small : w ≤ 65535) (d : Plan) : steppedView x y w d =
    { d with
      w := max 1024 w
      x0 := min (65536 - max 1024 w) x
      y0 := min (65536 - max 1024 w * 9 / 16) y } := by
  unfold steppedView
  have width : max 1024 (min 65535 (w : Int)) = (max 1024 w : Nat) := by omega
  rw [width]
  congr 1 <;> omega

theorem reqSetView_stores (hold : s.pln.hold = some p) (x0 x1 y0 y1 w0 w1 : Byte) {x y w h : Nat}
    (isW : w = max 1024 (le16 w0 w1).toNat) (isH : h = w * 9 / 16) (isX : x = min (65536 - w) (le16 x0 x1).toNat)
    (isY : y = min (65536 - h) (le16 y0 y1).toNat) :
    reqSetView p [x0, x1, y0, y1, w0, w1] s = done (nat16 x ++ nat16 y ++ nat16 w ++ nat16 h)
      (onDraft (fun d => { d with x0 := x, y0 := y, w := w }) s) := by
  have small : (le16 w0 w1).toNat ≤ 65535 := Nat.lt_succ_iff.mp (le16 w0 w1).isLt
  subst isH isX isY isW
  simp only [reqSetView, if_neg (not_holds_of hold), writeView_eq, onDraft, steppedView_carried _ _ _ small]
  rfl

/-! ### SET CURSOR and SET LAYERS (R58, R59) -/

theorem reqSetCursor_stores (hold : s.pln.hold = some p) (c0 c1 c2 c3 : Byte) :
    reqSetCursor p [c0, c1, c2, c3] s = done [] (onDraft (fun d => { d with cursor := le32 c0 c1 c2 c3 }) s) := by
  rw [reqSetCursor, if_neg (not_holds_of hold)]

/-- The layer set read back is bits 0 to 3 of the byte carried (R59). -/
theorem layers_byte_ofByte (b : Byte) : (Layers.ofByte b).byte = b &&& 0x0F#8 := by
  revert b
  decide

theorem reqSetLayers_stores (hold : s.pln.hold = some p) (layers stride : Byte) :
    reqSetLayers p [layers, stride] s = done [layers &&& 0x0F#8, byte (min 4 (max 1 stride.toNat))]
      (onDraft (fun d => { d with layers := Layers.ofByte layers, stride := min 4 (max 1 stride.toNat) }) s) := by
  simp only [reqSetLayers, if_neg (not_holds_of hold), clampNat_eq_min_max (show 1 ≤ 4 by decide), onDraft,
    State.pln_onPln, layers_byte_ofByte]

/-! ### SET GAUGE and CLEAR GAUGE (R60) -/

theorem reqSetGauge_eq (hold : s.pln.hold = some p) (slot station flags : Byte) :
    reqSetGauge p [slot, station, flags] s =
      if 11 < slot.toNat ∨ station = 0#8 then refuse .range s
      else done [] (onDraft (fun d => { d with
        gauges := d.gauges.set slot.toNat (some { station := station.toNat, curve := flags.getLsbD 0 }) }) s) := by
  simp only [reqSetGauge, if_neg (not_holds_of hold), Bool.or_eq_true, decide_eq_true_eq, setAt]
  rfl

theorem reqClearGauge_eq (hold : s.pln.hold = some p) (slot : Byte) :
    reqClearGauge p [slot] s =
      if 11 < slot.toNat then refuse .range s
      else done [] (onDraft (fun d => { d with gauges := d.gauges.set slot.toNat none }) s) := by
  simp only [reqClearGauge, if_neg (not_holds_of hold), setAt]

/-! ### SET AREAS and COPY AIR TO DRAFT (R61, R62) -/

/-- The ids kept are those of a list without its repeats, after those kept already (R61). -/
theorem keepFirst_eq (ids : List Nat) : ∀ kept : List Nat,
    keepFirst kept ids = kept ++ (ids.filter fun x => !kept.contains x).eraseDups := by
  induction ids with
  | nil => exact fun kept => (List.append_nil kept).symm
  | cons x rest ih =>
    intro kept
    unfold keepFirst
    split
    · next known => rw [ih, List.filter_cons_of_neg (by rw [known]; decide)]
    · next fresh =>
      have later : (rest.filter fun y => !(kept ++ [x]).contains y) =
          (rest.filter fun y => !kept.contains y).filter fun y => !y == x := by
        rw [List.filter_filter]
        refine List.filter_congr fun y _ => ?_
        simp only [List.contains_append, List.contains_cons, List.contains_nil, Bool.or_false, Bool.not_or]
        exact Bool.and_comm _ _
      rw [ih, List.filter_cons_of_pos (by simpa using fresh), List.eraseDups_cons, later, List.append_assoc]
      rfl

theorem keepFirst_nil (ids : List Nat) : keepFirst [] ids = ids.eraseDups := by
  simp [keepFirst_eq]

/-- The ids of a list of words, as they are carried (R61). -/
theorem parseIds_bytes (ids : List Word16) : parseIds (ids.map bytes16).flatten = ids.map BitVec.toNat := by
  induction ids with
  | nil => rfl
  | cons id rest ih => simp only [List.map_cons, List.flatten_cons, bytes16, List.cons_append, List.nil_append, parseIds,
      le16_bytes16, ih]

theorem reqSetAreas_empty (hold : s.pln.hold = some p) : reqSetAreas p [] s = refuse .range s := by
  rw [reqSetAreas, if_neg (not_holds_of hold)]

theorem reqSetAreas_misfit (hold : s.pln.hold = some p) {count : Byte} {rest : List Byte}
    (misfit : rest.length ≠ 2 * count.toNat ∨ 124 < count.toNat) :
    reqSetAreas p (count :: rest) s = refuse .range s := by
  rw [reqSetAreas, if_neg (not_holds_of hold)]
  exact if_pos (by simpa using misfit)

/-- A list of ids with its own count, tested and stored (R61). -/
theorem reqSetAreas_eq (hold : s.pln.hold = some p) {ids : List Word16} (few : ids.length ≤ 124) :
    reqSetAreas p (BitVec.ofNat 8 ids.length :: (ids.map bytes16).flatten) s =
      if ((ids.take 8).map BitVec.toNat).any badId then refuse .range s
      else done [byte ((ids.take 8).map BitVec.toNat).eraseDups.length]
        (onDraft (fun d => { d with areas := ((ids.take 8).map BitVec.toNat).eraseDups }) s) := by
  have count : (BitVec.ofNat 8 ids.length).toNat = ids.length := by
    rw [BitVec.toNat_ofNat]
    omega
  have fits : ¬ (((ids.map bytes16).flatten.length ≠ 2 * ids.length || 124 < ids.length) = true) := by
    rw [length_flatten_uniform (n := 2) (fun _ => rfl)]
    simpa using few
  simp only [reqSetAreas, if_neg (not_holds_of hold), count, if_neg fits, parseIds_bytes, List.map_take, keepFirst_nil]
  rfl

/-- An id is refused when it is 0 or above 4,095 (R61). -/
theorem any_badId_iff (ids : List Word16) :
    (ids.map BitVec.toNat).any badId = true ↔ ∃ id ∈ ids, id.toNat = 0 ∨ 4095 < id.toNat := by
  simp [badId]

theorem reqCopyAirToDraft_copies (hold : s.pln.hold = some p) :
    reqCopyAirToDraft p [] s = done (bytes16 s.pln.air.seq) (s.onPln fun l => { l with draft := l.air }) := by
  rw [reqCopyAirToDraft, if_neg (not_holds_of hold)]
  rfl

end Draft

/-- Settles O31. -/
theorem setViewStoresTheClampedView : Obligations.SetViewStoresTheClampedView := by
  intro p params s ready
  refine ⟨fun other => ?_, fun hold misfit => ?_, ?_⟩
  · obtain ⟨view, -⟩ := draftRules_notHolder (s := endFrame p s) other params
    exact next_of_refused ready view
  · obtain ⟨view, -⟩ := draftRules_misfit (s := endFrame p s) hold params
    exact next_of_refused ready (view misfit)
  · rintro x0 x1 y0 y1 w0 w1 hold rfl x y w h isW isH isX isY
    exact next_of_done ready (reqSetView_stores (s := endFrame p s) hold x0 x1 y0 y1 w0 w1 isW isH isX isY)

/-- Settles O32: the first half is about SET CURSOR and SET LAYERS, the second about the two gauge commands. -/
theorem cursorLayersAndGaugesAreEdited : Obligations.CursorLayersAndGaugesAreEdited := by
  refine ⟨fun p params s ready => ?_, fun p params s ready => ?_⟩
  · refine ⟨fun other => ?_, fun hold misfit => ?_, fun hold misfit => ?_, ?_, ?_⟩
    · obtain ⟨-, cursor, layers, -⟩ := draftRules_notHolder (s := endFrame p s) other params
      exact ⟨next_of_refused ready cursor, next_of_refused ready layers⟩
    · obtain ⟨-, cursor, -⟩ := draftRules_misfit (s := endFrame p s) hold params
      exact next_of_refused ready (cursor misfit)
    · obtain ⟨-, -, layers, -⟩ := draftRules_misfit (s := endFrame p s) hold params
      exact next_of_refused ready (layers misfit)
    · rintro c0 c1 c2 c3 hold rfl
      exact next_of_done ready (reqSetCursor_stores (s := endFrame p s) hold c0 c1 c2 c3)
    · rintro layers stride hold rfl
      exact next_of_done ready (reqSetLayers_stores (s := endFrame p s) hold layers stride)
  · refine ⟨fun other => ?_, fun hold => ?_⟩
    · obtain ⟨-, -, -, sets, clears, -⟩ := draftRules_notHolder (s := endFrame p s) other params
      exact ⟨next_of_refused ready sets, next_of_refused ready clears⟩
    · obtain ⟨-, -, -, setMisfit, clearMisfit, -⟩ := draftRules_misfit (s := endFrame p s) hold params
      refine ⟨fun misfit => next_of_refused ready (setMisfit misfit),
        fun misfit => next_of_refused ready (clearMisfit misfit), fun slot station flags => ⟨?_, ?_⟩⟩
      · rintro rfl
        have rule := reqSetGauge_eq (s := endFrame p s) hold slot station flags
        split
        · next bad => exact next_of_refused ready (rule.trans (if_pos bad))
        · next good => exact next_of_done ready (rule.trans (if_neg good))
      · rintro rfl
        have rule := reqClearGauge_eq (s := endFrame p s) hold slot
        split
        · next bad => exact next_of_refused ready (rule.trans (if_pos bad))
        · next good => exact next_of_done ready (rule.trans (if_neg good))

/-- Settles O33: COPY AIR TO DRAFT by its two cases, SET AREAS by its tests and then by the ids it carries. -/
theorem setAreasAndCopyReplaceTheDraft : Obligations.SetAreasAndCopyReplaceTheDraft := by
  intro p params s ready
  refine ⟨fun other => ?_, fun hold => ⟨fun given => ?_, ?_, ?_, ?_⟩⟩
  · obtain ⟨-, -, -, -, -, areas, copy⟩ := draftRules_notHolder (s := endFrame p s) other params
    exact ⟨next_of_refused ready areas, next_of_refused ready copy⟩
  · obtain ⟨-, -, -, -, -, misfit⟩ := draftRules_misfit (s := endFrame p s) hold params
    exact next_of_refused ready (misfit (mt List.eq_nil_of_length_eq_zero given))
  · rintro rfl
    exact ⟨next_of_done ready (reqCopyAirToDraft_copies (s := endFrame p s) hold),
      next_of_refused ready (reqSetAreas_empty (s := endFrame p s) hold)⟩
  · rintro count rest rfl misfit
    exact next_of_refused ready (reqSetAreas_misfit (s := endFrame p s) hold misfit)
  · rintro ids count few rfl rfl
    have rule := reqSetAreas_eq (s := endFrame p s) hold few
    refine ⟨fun bad => next_of_refused ready (rule.trans (if_pos ((any_badId_iff _).2 bad))),
      fun good => ⟨_, rfl, next_of_done ready (rule.trans (if_neg fun bad => ?_))⟩⟩
    obtain ⟨id, mem, out⟩ := (any_badId_iff _).1 bad
    have within := good id mem
    omega

end Sys2Proof.Machine
end

section
/-! PROOFS. READ PLAN (R63): O34. -/

namespace Sys2Proof.Machine

/-! ### The layout of a plan (R63) -/

/-- Followed by other bytes too, the piece at an index is found by counting. -/
theorem take_drop_flatten_append {α β : Type} {f : α → List β} {n : Nat} (uniform : ∀ x, (f x).length = n) {l : List α}
    {i : Nat} {x : α} (found : l[i]? = some x) (rest : List β) :
    (((l.map f).flatten ++ rest).drop (n * i)).take n = f x := by
  have within : i < l.length := (List.getElem?_eq_some_iff.mp found).1
  have enough : n * i + n ≤ ((l.map f).flatten).length := by
    rw [length_flatten_uniform uniform, ← Nat.mul_succ]
    exact Nat.mul_le_mul_left n within
  rw [List.drop_append_of_le_length (by omega), List.take_append_of_le_length (by rw [List.length_drop]; omega)]
  exact take_drop_flatten uniform l i x found

theorem gaugeBytes_length (g : Option Gauge) : (gaugeBytes g).length = 2 := by
  cases g <;> rfl

/-- The eight area ids shown: those of the plan, then 0 (R63). -/
def Plan.areaSlots (p : Plan) : List Nat := p.areas ++ List.replicate (8 - p.areas.length) 0

/-- Bytes 0 to 15 of a plan: sequence, view, cursor, layers and stride. -/
def Plan.viewBytes (p : Plan) : List Byte :=
  bytes16 p.seq ++ nat16 p.x0 ++ nat16 p.y0 ++ nat16 p.w ++ nat16 p.h ++ bytes32 p.cursor ++
    [p.layers.byte, byte p.stride]

/-- A plan is its 16 fixed bytes, its gauge slots, its area count and its area ids. -/
theorem Plan.bytes_eq (p : Plan) : p.bytes = p.viewBytes ++ ((p.gauges.map gaugeBytes).flatten ++
    byte p.areas.length :: (p.areaSlots.map nat16).flatten) := by
  simp [Plan.bytes, viewBytes, areaSlots]

theorem Plan.viewBytes_length (p : Plan) : p.viewBytes.length = 16 := rfl

/-- An area id beyond the count is shown as 0. -/
theorem Plan.areaSlots_getElem? (p : Plan) {j : Nat} (few : p.areas.length ≤ 8) (below : j < 8) :
    p.areaSlots[j]? = some (p.areas.getD j 0) := by
  unfold areaSlots
  rw [List.getD_eq_getElem?_getD]
  rcases Nat.lt_or_ge j p.areas.length with named | beyond
  · rw [List.getElem?_append_left named, List.getElem?_eq_getElem named]
    rfl
  · rw [List.getElem?_append_right beyond, List.getElem?_eq_none beyond, List.getElem?_replicate, if_pos (by omega)]
    rfl

theorem nat16_length (n : Nat) : (nat16 n).length = 2 := rfl

theorem Plan.areaSlots_length {p : Plan} (few : p.areas.length ≤ 8) :
    ((p.areaSlots.map nat16).flatten).length = 16 := by
  rw [length_flatten_uniform nat16_length, areaSlots, List.length_append, List.length_replicate]
  omega

section Layout
variable {p : Plan} (slots : p.gauges.length = 12)
include slots

/-- The bytes of the twelve gauge slots. -/
theorem Plan.gaugeSlots_length : ((p.gauges.map gaugeBytes).flatten).length = 24 := by
  rw [length_flatten_uniform gaugeBytes_length, slots]

/-- A gauge slot of a plan, in its two bytes. -/
theorem Plan.bytes_gauge (after : List Byte) {i : Nat} (below : i < 12) :
    ((p.bytes ++ after).drop (16 + 2 * i)).take 2 = gaugeBytes (p.gauges.getD i none) := by
  have found : p.gauges[i]? = some (p.gauges.getD i none) := by
    rw [List.getD_eq_getElem?_getD, List.getElem?_eq_getElem (by omega)]
    rfl
  rw [p.bytes_eq, List.append_assoc, List.append_assoc, ← List.drop_drop, List.drop_left' p.viewBytes_length]
  exact take_drop_flatten_append gaugeBytes_length found _

/-- What follows the gauge slots: the area count, the area ids and what is behind the plan. -/
theorem Plan.drop_bytes (after : List Byte) : (p.bytes ++ after).drop 40 =
    byte p.areas.length :: ((p.areaSlots.map nat16).flatten ++ after) := by
  have fixed : (p.viewBytes ++ (p.gauges.map gaugeBytes).flatten).length = 40 := by
    rw [List.length_append, p.viewBytes_length, gaugeSlots_length slots]
  rw [p.bytes_eq, ← List.append_assoc, List.append_assoc, List.drop_left' fixed, List.cons_append]

/-- An area id of a plan, in its two bytes. -/
theorem Plan.bytes_area (few : p.areas.length ≤ 8) (after : List Byte) {j : Nat} (below : j < 8) :
    ((p.bytes ++ after).drop (41 + 2 * j)).take 2 = nat16 (p.areas.getD j 0) := by
  rw [show 41 + 2 * j = 40 + (1 + 2 * j) by omega, ← List.drop_drop, p.drop_bytes slots, ← List.drop_drop]
  exact take_drop_flatten_append nat16_length (p.areaSlots_getElem? few below) after

theorem Plan.bytes_length (few : p.areas.length ≤ 8) : p.bytes.length = 57 := by
  simp only [p.bytes_eq, List.length_append, List.length_cons, p.viewBytes_length, gaugeSlots_length slots,
    areaSlots_length few]

end Layout

/-! ### The request -/

theorem reqReadPlan_misfit (p : Port) {params : List Byte} (misfit : params.length ≠ 1) (s : State) :
    reqReadPlan p params s = refuse .range s := by
  unfold reqReadPlan
  split
  · exact absurd rfl misfit
  · rfl

theorem reqReadPlan_range (p : Port) {which : Byte} (beyond : 1 < which.toNat) (s : State) :
    reqReadPlan p [which] s = refuse .range s := by
  have notDraft : which ≠ 0 := by rintro rfl; exact absurd beyond (by decide)
  have notAir : which ≠ 1 := by rintro rfl; exact absurd beyond (by decide)
  simp only [reqReadPlan, if_neg notDraft, if_neg notAir]

/-- Value 0 names the draft and value 1 the air plan (R63). -/
theorem reqReadPlan_done (p : Port) {which : Byte} (low : which.toNat ≤ 1) (s : State) :
    reqReadPlan p [which] s =
      done ((if which = 0#8 then s.pln.draft else s.pln.air).bytes ++ holdBytes s.pln) s := by
  by_cases draft : which = 0
  · simp only [reqReadPlan, draft, if_true]
    rfl
  · have air : which = 1 := by
      refine BitVec.eq_of_toNat_eq (Nat.le_antisymm low (Nat.one_le_iff_ne_zero.mpr fun zero => draft ?_))
      exact BitVec.eq_of_toNat_eq zero
    simp only [reqReadPlan, air]
    rfl

/-- Settles O34: the reply is the plan's bytes with the hold and the lock behind them, and each field is found by its
place in that layout. -/
theorem readPlanShowsAPlanAndTheHold : Obligations.ReadPlanShowsAPlanAndTheHold := by
  intro p params s ready plans
  refine ⟨fun misfit => next_of_refused ready (reqReadPlan_misfit p misfit _), ?_, ?_⟩
  · rintro which rfl beyond
    exact next_of_refused ready (reqReadPlan_range p beyond _)
  · rintro which plan rfl low isPlan
    obtain ⟨-, -, -, -, -, -, slots, -, few, -⟩ : PlanLaw plan := by
      rw [isPlan]
      split
      · exact plans.1
      · exact plans.2
    have length : plan.bytes.length = 57 := Plan.bytes_length slots few
    refine ⟨plan.bytes ++ holdBytes s.pln, ?_, ?_, ?_, fun i below => ?_, ?_, fun j below => ?_, ?_⟩
    · rw [isPlan]
      exact next_of_done ready (reqReadPlan_done p low (endFrame p s))
    · rw [List.length_append, length]
      rfl
    · rw [plan.bytes_eq, List.append_assoc, List.take_left' plan.viewBytes_length]
      rfl
    · rw [Plan.bytes_gauge slots _ below]
      cases plan.gauges.getD i none with
      | none => rfl
      | some g => cases curve : g.curve <;> simp [gaugeBytes, curve, flagByte, bits, bit, byte]
    · have count := congrArg (·.getD 0 0#8) (Plan.drop_bytes slots (holdBytes s.pln))
      simpa [List.getD_eq_getElem?_getD, byte] using count
    · exact Plan.bytes_area slots few _ below
    · rw [List.drop_left' length, holdBytes, flagByte_pair]

end Sys2Proof.Machine
end

section
/-! PROOFS. The laws of tags, of the one sweep and of the take error log, kept by every step (R74, R84, R90): O56. -/

namespace Sys2Proof.Machine

/-! ### Tags in the queue and in the lists (R74) -/

@[simp] theorem sameTake_self (e : TakeEntry) : sameTake e e = true := by simp [sameTake]

/-- A free tag of a port stands with none of its entries and records (R74). -/
theorem not_mem_usedTags {s : State} {p : Port} {tag : Nat} (free : tagBusy s p tag = false) :
    tag ∉ usedTags s.tke p := by
  simp only [tagBusy, Bool.or_eq_false_iff, List.any_eq_false, Bool.and_eq_true, decide_eq_true_eq, not_and] at free
  simp only [usedTags, List.mem_append, List.mem_map, List.mem_filter, decide_eq_true_eq, not_or]
  exact ⟨fun ⟨e, ⟨mem, own⟩, same⟩ => free.1 e mem own same, fun ⟨c, mem, same⟩ => free.2 c mem same⟩

/-- A port's entries have different tags (R74). -/
theorem TakeLaw.entryTags_nodup {t : Tke} (law : TakeLaw t) (p : Port) :
    ((t.queue.filter fun x => x.port = p).map TakeEntry.tag).Nodup := by
  obtain ⟨distinct, -⟩ := law.1 p
  exact (List.nodup_append.mp distinct).1

/-- A port and tag name no more than one entry of the queue (R74). -/
theorem TakeLaw.countP_sameTake {t : Tke} (law : TakeLaw t) (e : TakeEntry) : t.queue.countP (sameTake e) ≤ 1 := by
  have once := List.nodup_iff_count_le_one.mp (law.entryTags_nodup e.port) e.tag
  rw [List.count, List.countP_map, List.countP_filter] at once
  refine le_of_eq_of_le (List.countP_congr fun x _ => ?_) once
  simp [sameTake, and_comm]

/-- No entry stands twice in the queue (R74). -/
theorem TakeLaw.queue_nodup {t : Tke} (law : TakeLaw t) : t.queue.Nodup := by
  refine List.nodup_iff_count_le_one.mpr fun e => le_trans (List.countP_mono_left fun x _ same => ?_)
    (law.countP_sameTake e)
  rw [beq_iff_eq.mp same, sameTake_self]

/-! ### The parts of the law -/

/-- The limit of the log, and that no record in it is DONE (R88, R90). -/
def LogLaw (log : List Completion) : Prop := log.length ≤ 8 ∧ ∀ c ∈ log, c.status ≠ .done

theorem logLaw_appendLog {log : List Completion} {c : Completion} (law : LogLaw log) (status : c.status ≠ .done) :
    LogLaw (appendLog log c) := by
  rw [appendLog_eq]
  refine ⟨by rw [List.length_drop]; omega, fun d mem => ?_⟩
  rcases List.mem_append.mp (List.mem_of_mem_drop mem) with old | new
  · exact law.2 d old
  · rwa [List.mem_singleton.mp new]

theorem logLaw_logUnlessDone {log : List Completion} (law : LogLaw log) (c : Completion) :
    LogLaw (logUnlessDone log c) := by
  unfold logUnlessDone
  split
  · exact law
  · next status => exact logLaw_appendLog law status

theorem logLaw_foldl_appendLog {records : List Completion} (status : ∀ c ∈ records, c.status ≠ .done)
    {log : List Completion} (law : LogLaw log) : LogLaw (records.foldl appendLog log) :=
  List.foldlRecOn records appendLog law fun _ kept c mem => logLaw_appendLog kept (status c mem)

/-- Each port's list holds its own records (R88). -/
def OwnRecords (t : Tke) : Prop := ∀ p, ∀ c ∈ t.completions.get p, c.port = p

theorem TakeLaw.ownRecords {t : Tke} (law : TakeLaw t) : OwnRecords t := fun p => (law.1 p).2.2

theorem TakeLaw.oneSweep {t : Tke} (law : TakeLaw t) : (t.queue.filter isSweeping).length ≤ 1 := law.2.1

theorem TakeLaw.logLaw {t : Tke} (law : TakeLaw t) : LogLaw t.log := law.2.2

/-- A record appended to the list of its port. -/
theorem ownRecords_recordCompletion {s : State} (law : OwnRecords s.tke) (c : Completion) :
    OwnRecords (recordCompletion c s).tke := by
  intro p d mem
  change d ∈ (s.tke.completions.set c.port _).get p at mem
  rw [PerPort.get_set] at mem
  split at mem
  · next own =>
    rcases List.mem_append.mp mem with old | new
    · exact own ▸ law c.port d old
    · rw [List.mem_singleton.mp new, own]
  · exact law p d mem

/-- The tags are those before in another order. -/
theorem TakeLaw.of_perm {t u : Tke} (law : TakeLaw t) (tags : ∀ p, (usedTags u p).Perm (usedTags t p))
    (own : OwnRecords u) (sweeps : (u.queue.filter isSweeping).length ≤ 1) (log : LogLaw u.log) : TakeLaw u := by
  refine ⟨fun p => ?_, sweeps, log⟩
  obtain ⟨distinct, low, -⟩ := law.1 p
  exact ⟨(tags p).nodup_iff.mpr distinct, fun n mem => low n ((tags p).mem_iff.mp mem), own p⟩

/-- A port takes a free tag into use (R74). -/
theorem TakeLaw.of_new_tag {t u : Tke} (law : TakeLaw t) {p : Port} {tag : Nat} (low : tag ≤ 7)
    (free : tag ∉ usedTags t p)
    (tags : ∀ q, (usedTags u q).Perm (if p = q then tag :: usedTags t q else usedTags t q)) (own : OwnRecords u)
    (sweeps : (u.queue.filter isSweeping).length ≤ 1) (log : LogLaw u.log) : TakeLaw u := by
  refine ⟨fun q => ?_, sweeps, log⟩
  obtain ⟨distinct, bound, -⟩ := law.1 q
  have order := tags q
  split at order
  · next same =>
    refine ⟨order.nodup_iff.mpr (List.nodup_cons.mpr ⟨same ▸ free, distinct⟩), fun n mem => ?_, own q⟩
    rcases List.mem_cons.mp (order.mem_iff.mp mem) with rfl | old
    · exact low
    · exact bound n old
  · exact ⟨order.nodup_iff.mpr distinct, fun n mem => bound n (order.mem_iff.mp mem), own q⟩

/-! ### A take completes (R76, R88) -/

/-- Taking a number out of the front of a list without repeats and putting it at the end of the rest is a change of
order. -/
theorem perm_move_to_end {n : Nat} {front : List Nat} (distinct : front.Nodup) (mem : n ∈ front) (rest : List Nat) :
    (front.filter (· ≠ n) ++ (rest ++ [n])).Perm (front ++ rest) := by
  have taken : (n :: front.filter (· ≠ n)).Perm front := by
    have erased := (List.perm_cons_erase mem).symm
    simpa [distinct.erase_eq_filter, bne, beq_eq_decide] using erased
  rw [← List.append_assoc]
  exact (List.perm_append_singleton n _).trans (taken.append_right rest)

/-- The tag of a take that completes goes from the queue to the list (R76, R88). -/
theorem usedTags_completeTake {s : State} (law : TakeLaw s.tke) {e : TakeEntry} (queued : e ∈ s.tke.queue)
    (status : TakeStatus) (applied : Word32) (p : Port) :
    (usedTags (completeTake e status applied s).tke p).Perm (usedTags s.tke p) := by
  by_cases own : e.port = p
  · subst own
    have entries : (((completeTake e status applied s).tke.queue.filter fun x => x.port = e.port).map TakeEntry.tag) =
        ((s.tke.queue.filter fun x => x.port = e.port).map TakeEntry.tag).filter (· ≠ e.tag) := by
      rw [completeTake_queue, List.filter_filter, List.filter_map, List.filter_filter]
      refine congrArg _ (List.filter_congr fun x _ => ?_)
      by_cases port : x.port = e.port <;> simp [sameTake, port]
    have records : ((completeTake e status applied s).tke.completions.get e.port).map Completion.tag =
        (s.tke.completions.get e.port).map Completion.tag ++ [e.tag] := by
      show ((s.tke.completions.set e.port _).get e.port).map Completion.tag = _
      rw [PerPort.get_set_same, List.map_append]
      rfl
    rw [usedTags, entries, records]
    exact perm_move_to_end (law.entryTags_nodup e.port) (List.mem_map.mpr ⟨e, by simp [queued], rfl⟩) _
  · have entries : ((completeTake e status applied s).tke.queue.filter fun x => x.port = p) =
        s.tke.queue.filter fun x => x.port = p := by
      rw [completeTake_queue, List.filter_filter]
      refine List.filter_congr fun x _ => ?_
      by_cases port : x.port = p <;> simp [sameTake, port, Ne.symm own]
    have records : (completeTake e status applied s).tke.completions.get p = s.tke.completions.get p := by
      show (s.tke.completions.set e.port _).get p = _
      rw [PerPort.get_set, if_neg own]
    rw [usedTags, entries, records]
    exact .refl _

theorem completeTake_takeLaw {s : State} (law : TakeLaw s.tke) {e : TakeEntry} (queued : e ∈ s.tke.queue)
    (status : TakeStatus) (applied : Word32) : TakeLaw (completeTake e status applied s).tke := by
  refine law.of_perm (usedTags_completeTake law queued status applied) ?_ ?_ ?_
  · exact ownRecords_recordCompletion law.ownRecords _
  · rw [completeTake_queue]
    exact le_trans ((List.filter_sublist.filter _).length_le) law.oneSweep
  · exact logLaw_logUnlessDone law.logLaw _

/-! ### An entry changes its state (R76) -/

/-- Port and tag are not touched when an entry changes its state. -/
theorem usedTags_markEntry (e : TakeEntry) (st : EntryState) (s : State) (p : Port) :
    usedTags (markEntry e st s).tke p = usedTags s.tke p := by
  have entries : (((markEntry e st s).tke.queue.filter fun x => x.port = p).map TakeEntry.tag) =
      ((s.tke.queue.filter fun x => x.port = p).map TakeEntry.tag) := by
    show ((setEntryState e.port e.tag st s.tke.queue).filter _).map _ = _
    have kept : ∀ x : TakeEntry,
        (if x.port = e.port && x.tag = e.tag then { x with state := st } else x).port = x.port ∧
        (if x.port = e.port && x.tag = e.tag then { x with state := st } else x).tag = x.tag :=
      fun x => by split <;> exact ⟨rfl, rfl⟩
    simp only [setEntryState, List.filter_map, List.map_map, Function.comp_def, kept]
  rw [usedTags, entries]
  rfl

/-- An entry becomes DEFERRED, or is the only one that sweeps. -/
theorem markEntry_takeLaw {s : State} (law : TakeLaw s.tke) {e : TakeEntry} {st : EntryState}
    (alone : st = .deferred ∨ ∀ x ∈ s.tke.queue, isSweeping x = true → sameTake e x = true) :
    TakeLaw (markEntry e st s).tke := by
  refine law.of_perm (fun p => .of_eq (usedTags_markEntry e st s p)) law.ownRecords ?_ law.logLaw
  show ((setEntryState e.port e.tag st s.tke.queue).filter isSweeping).length ≤ 1
  rw [← List.countP_eq_length_filter, setEntryState, List.countP_map]
  rcases alone with rfl | alone
  · refine le_trans (List.countP_mono_left fun x _ sweeps => ?_) (List.countP_eq_length_filter ▸ law.oneSweep)
    simp only [Function.comp_apply] at sweeps
    split at sweeps
    · cases sweeps
    · exact sweeps
  · refine le_trans (List.countP_mono_left fun x mem sweeps => ?_) (law.countP_sameTake e)
    simp only [Function.comp_apply] at sweeps
    split at sweeps
    · next same => exact same
    · exact alone x mem sweeps

/-! ### The passes of a composition start (R77 to R86) -/

/-- What is still to be dealt with: entries of a lawful queue that do not sweep, each once. -/
structure ToDeal (l : List TakeEntry) (t : Tke) : Prop where
  law : TakeLaw t
  once : l.Nodup
  queued : ∀ x ∈ l, x ∈ t.queue
  waits : ∀ x ∈ l, isSweeping x = false

namespace ToDeal

variable {e : TakeEntry} {l : List TakeEntry} {s : State}

/-- Some of the entries of a lawful queue that wait. -/
theorem of_filter {t : Tke} (law : TakeLaw t) {pick : TakeEntry → Bool}
    (waits : ∀ x, pick x = true → isWaiting x = true) : ToDeal (t.queue.filter pick) t := by
  refine ⟨law, law.queue_nodup.filter _, fun x mem => List.mem_of_mem_filter mem, fun x mem => ?_⟩
  have state := waits x (List.mem_filter.mp mem).2
  simp only [isWaiting, Bool.or_eq_true, decide_eq_true_eq] at state
  rcases state with state | state <;> simp [isSweeping, state]

/-- The entry in front is another take than those behind it. -/
theorem differs {t : Tke} (h : ToDeal (e :: l) t) {x : TakeEntry} (mem : x ∈ l) : sameTake e x = false := by
  by_contra same
  have isE : e = x := take_unique h.law (h.queued e (List.mem_cons_self ..)) (h.queued x (List.mem_cons_of_mem _ mem))
    (by simpa using same)
  exact (List.nodup_cons.mp h.once).1 (isE ▸ mem)

theorem head_queued {t : Tke} (h : ToDeal (e :: l) t) : e ∈ t.queue := h.queued e (List.mem_cons_self ..)

/-- After an operation that leaves the queue entries other than the one in front. -/
theorem rest {t u : Tke} (h : ToDeal (e :: l) t) (law : TakeLaw u)
    (left : ∀ x ∈ t.queue, sameTake e x = false → x ∈ u.queue) : ToDeal l u :=
  ⟨law, (List.nodup_cons.mp h.once).2, fun x mem => left x (h.queued x (List.mem_cons_of_mem _ mem)) (h.differs mem),
    fun x mem => h.waits x (List.mem_cons_of_mem _ mem)⟩

theorem completeTake (h : ToDeal (e :: l) s.tke) (status : TakeStatus) (applied : Word32) :
    ToDeal l (completeTake e status applied s).tke :=
  h.rest (completeTake_takeLaw h.law h.head_queued status applied) fun x mem other => by
    rw [completeTake_queue, List.mem_filter, other]
    exact ⟨mem, rfl⟩

theorem markEntry (h : ToDeal (e :: l) s.tke) {st : EntryState}
    (alone : st = .deferred ∨ ∀ x ∈ s.tke.queue, isSweeping x = true → sameTake e x = true) :
    ToDeal l (markEntry e st s).tke :=
  h.rest (markEntry_takeLaw h.law alone) fun x mem other => List.mem_map.mpr ⟨x, mem, if_neg (by
    rw [← sameTake, other]
    exact Bool.false_ne_true)⟩

/-- A supersession takes the SWEEPING entry alone (R84). -/
theorem supersede (h : ToDeal l s.tke) : ToDeal l (supersede s).tke := by
  obtain ⟨queue, -⟩ := supersede_spec h.law
  have law : TakeLaw (Machine.supersede s).tke := by
    unfold Machine.supersede
    split
    · exact h.law
    · next b found =>
      unfold supersedeEntry
      split
      · exact completeTake_takeLaw h.law (List.mem_of_find?_eq_some found) _ _
      all_goals exact h.law
  refine ⟨law, h.once, fun x mem => ?_, h.waits⟩
  rw [queue, List.mem_filter, h.waits x mem]
  exact ⟨h.queued x mem, rfl⟩

/-- A first step is made where no entry sweeps (R79, R81, R84). -/
theorem takeStep (h : ToDeal (e :: l) s.tke) (idle : ∀ x ∈ s.tke.queue, isSweeping x = false) (r : SweepRecord)
    (status : TakeStatus) (applied : Word32) : ToDeal l (takeStep e r status applied s).tke := by
  unfold Machine.takeStep
  simp only []
  split
  · exact ToDeal.completeTake (s := onAirPlan (writeStep r) s) h status applied
  · refine ToDeal.markEntry (s := onAirPlan (writeStep r) s) h (.inr fun x mem sweeps => ?_)
    rw [idle x mem] at sweeps
    cases sweeps

/-- After a supersession no entry sweeps. -/
theorem idle_of_supersede (h : ToDeal l s.tke) : ∀ x ∈ (Machine.supersede s).tke.queue, isSweeping x = false := by
  obtain ⟨queue, -⟩ := supersede_spec h.law
  intro x mem
  rw [queue, List.mem_filter] at mem
  simpa using mem.2

/-- A deal of the first pass leaves the entries behind it to be dealt with (R77). -/
theorem applyEntry {acc : State × Nat} (h : ToDeal (e :: l) acc.1.tke) : ToDeal l (applyEntry acc e).1.tke := by
  have swept : ∀ {w : State} (r : SweepRecord) (status : TakeStatus) (applied : Word32),
      w.tke = (Machine.supersede acc.1).tke → ToDeal l (Machine.takeStep e r status applied w).tke := by
    intro w r status applied same
    exact ToDeal.takeStep (by rw [same]; exact h.supersede) (by rw [same]; exact h.idle_of_supersede) r status applied
  unfold Machine.applyEntry
  simp only []
  split
  · split
    · split
      · exact h.completeTake _ _
      · exact h.markEntry (.inl rfl)
    · split
      · exact ToDeal.completeTake (s := onAirPlan _ (Machine.supersede acc.1)) h.supersede _ _
      · exact swept _ _ _ rfl
  · exact swept _ _ _ rfl
  · split
    · exact h.completeTake _ _
    · exact ToDeal.completeTake (s := { acc.1 with fsw := _ }) h _ _
  · exact ToDeal.completeTake (s := acc.1.onOpr _) h _ _
  · exact h.rest h.law fun x mem _ => mem

theorem foldl_applyEntry (l : List TakeEntry) :
    ∀ acc : State × Nat, ToDeal l acc.1.tke → TakeLaw (l.foldl Machine.applyEntry acc).1.tke := by
  induction l with
  | nil => exact fun acc h => h.law
  | cons e l ih => exact fun acc h => ih _ h.applyEntry

/-- Entries of a flush complete one after the other (R91). -/
theorem foldl_flushEntry (l : List TakeEntry) :
    ∀ s : State, ToDeal l s.tke → TakeLaw (l.foldl flushEntry s).tke := by
  induction l with
  | nil => exact fun s h => h.law
  | cons e l ih => exact fun s h => ih _ (h.completeTake _ _)

end ToDeal

/-- The second pass steps the one SWEEPING entry (R83). -/
theorem stepSweep_takeLaw (before : Option TakeEntry) {s : State} (law : TakeLaw s.tke) :
    TakeLaw (stepSweep before s).tke := by
  unfold stepSweep
  split
  · exact law
  · split
    · exact law
    · next e found =>
      have queued : e ∈ s.tke.queue := List.mem_of_find?_eq_some found
      split
      · next r status applied state =>
        unfold takeStep
        simp only []
        split
        · exact completeTake_takeLaw (s := onAirPlan _ s) law queued _ _
        · refine markEntry_takeLaw (s := onAirPlan _ s) law (.inr fun x mem sweeps => ?_)
          rw [sweeping_unique law mem queued sweeps (by rw [isSweeping, state]), sameTake_self]
      all_goals exact law

theorem applyTakes_takeLaw {s : State} (law : TakeLaw s.tke) (n : Nat) : TakeLaw (applyTakes s n).1.tke :=
  stepSweep_takeLaw _ (ToDeal.foldl_applyEntry _ (s, n) (.of_filter law fun x picked => by
    simp only [Bool.and_eq_true] at picked
    exact picked.1))

/-! ### The negotiation (R87, R167 to R171) -/

/-- The joined entries that are still queued complete (R87). -/
theorem endNegotiation_takeLaw (status : TakeStatus) {s : State} (law : TakeLaw s.tke) :
    TakeLaw (endNegotiation status s).tke := by
  unfold endNegotiation
  split
  · exact law
  · refine List.foldlRecOn (motive := fun u : State => TakeLaw u.tke) _ _ law fun u kept j _ => ?_
    unfold completeJoined
    split
    · exact kept
    · next found => exact completeTake_takeLaw kept (List.mem_of_find?_eq_some found) _ _

theorem doStage_takeLaw (k : Nat) (n : Negotiation) {s : State} (law : TakeLaw s.tke) :
    TakeLaw (doStage k n s).1.tke := by
  have ended : ∀ (status : TakeStatus) {u : State}, u.tke = s.tke → TakeLaw (endNegotiation status u).tke :=
    fun status u same => endNegotiation_takeLaw status (same ▸ law)
  unfold doStage
  split
  · unfold mainCommit
    split
    · exact law
    · exact ended _ rfl
  · unfold mainHandOver
    split
    · simpa using law
    · exact law
  · unfold mainSettle
    split
    · exact law
    · split <;> exact ended _ (by simp)
  · exact law
  · unfold standbyAtMinus2
    split
    · exact ended _ rfl
    · exact law
  · unfold standbyAtMinus1
    split <;> exact law
  · unfold standbyTake
    split
    · exact ended _ (by simp)
    · exact ended _ rfl
  · exact law

theorem negotiationStages_takeLaw {s : State} (law : TakeLaw s.tke) : TakeLaw (negotiationStages s).1.tke := by
  have checked : TakeLaw (standbyCheck s).tke := by
    unfold standbyCheck
    split
    · exact law
    · split <;> exact law
  refine List.foldlRecOn (motive := fun acc : State × Nat => TakeLaw acc.1.tke) _ _ checked fun acc kept k _ => ?_
  unfold stageStep
  split
  · exact kept
  · split
    · exact doStage_takeLaw _ _ kept
    · exact kept

/-- A role change that is made or not (R170, R171). -/
theorem forced_takeLaw (c : Prop) [Decidable c] (r : Role) {s : State} (law : TakeLaw s.tke) :
    TakeLaw (if c then forceRole r s else s).tke := by
  split
  · simpa [forceRole] using endNegotiation_takeLaw .swapFailed (s := setRole r s) law
  · exact law

theorem roleChanges_takeLaw (before : Word32) {s : State} (law : TakeLaw s.tke) :
    TakeLaw (roleChanges before s).1.tke := by
  have auto : TakeLaw (autoNegotiate (negotiationStages s).1).tke := by
    unfold autoNegotiate
    split <;> exact negotiationStages_takeLaw law
  exact forced_takeLaw _ .standby (forced_takeLaw _ .standby (forced_takeLaw _ .main auto))

/-! ### Pulses -/

theorem servingPulse_takeLaw (t : Time) (palarm : Bool) {s : State} (law : TakeLaw s.tke) :
    TakeLaw (servingPulse t palarm s).tke := by
  have ended : (periodEnded t palarm s).tke = s.tke := by simp [periodEnded]
  have changed : TakeLaw (pairDone t palarm s).1.tke := by
    unfold pairDone pairChanges
    split
    · exact roleChanges_takeLaw _ (ended ▸ law)
    · exact ended ▸ law
  obtain ⟨-, -, -, tke⟩ := servingPulse_takes t palarm s _ rfl
  rw [tke]
  exact applyTakes_takeLaw changed _

theorem pulseEvent_takeLaw (e : PulseEvent) {s : State} (law : TakeLaw s.tke) : TakeLaw (pulseEvent e s).tke :=
  pulseEvent_induct (P := fun u => TakeLaw u.tke) (fun _ _ h => h) (fun t palarm _ h => servingPulse_takeLaw t palarm h)
    (fun c u h => by simpa using h) (fun add u h => by simpa using h) e law

/-! ### Submission (R73 to R76) -/

/-- A take that completes at acceptance takes its free tag into its port's list (R75, R87). -/
theorem completeAtAcceptance_takeLaw {s : State} (law : TakeLaw s.tke) {e : TakeEntry} (low : e.tag ≤ 7)
    (free : e.tag ∉ usedTags s.tke e.port) (status : TakeStatus) :
    TakeLaw (completeAtAcceptance e status s).state.tke := by
  refine law.of_new_tag low free (fun q => ?_) (ownRecords_recordCompletion law.ownRecords _) law.oneSweep
    (logLaw_logUnlessDone law.logLaw _)
  show (_ ++ ((s.tke.completions.set e.port _).get q).map Completion.tag).Perm _
  rw [PerPort.get_set]
  by_cases own : e.port = q
  · subst own
    rw [if_pos rfl, if_pos rfl, List.map_append, ← List.append_assoc]
    exact List.perm_append_singleton ..
  · rw [if_neg own, if_neg own]
    exact .refl _

/-- A take enters the queue with its free tag, and does not sweep (R76). -/
theorem enqueueTake_takeLaw {s : State} (law : TakeLaw s.tke) {e : TakeEntry} (low : e.tag ≤ 7)
    (free : e.tag ∉ usedTags s.tke e.port) (still : isSweeping e = false) :
    TakeLaw (enqueueTake e s).state.tke := by
  have placed : (enqueueTake e s).state.tke.queue.Perm (e :: s.tke.queue) := by
    obtain ⟨before, after, split, eq, -⟩ := insertEntry_split e s.tke.queue
    show (insertEntry e s.tke.queue).Perm _
    rw [eq, split]
    exact List.perm_middle
  refine law.of_new_tag low free (fun q => ?_) law.ownRecords ?_ law.logLaw
  · refine (((placed.filter _).map _).append_right _).trans (.of_eq ?_)
    by_cases own : e.port = q
    · simp [own, usedTags, enqueueTake]
    · simp [own, usedTags, enqueueTake]
  · rw [(placed.filter _).length_eq, List.filter_cons_of_neg (by simp [still])]
    exact law.oneSweep

/-- No entry enters the queue SWEEPING (R76). -/
theorem isSweeping_newEntry (p : Port) (tag : Nat) (kind : TakeKind) (urgent force next : Bool) (submitted : Word32)
    (s : State) : isSweeping (newEntry p tag kind urgent force next submitted s) = false := by
  by_cases swap : kind = .swap <;> simp [isSweeping, newEntry, swap]

/-- A submission that is accepted has a tag within range that is free (R73, R74). -/
theorem reqSubmitTake_takeLaw (p : Port) (params : List Byte) {s : State} (law : TakeLaw s.tke) :
    TakeLaw (reqSubmitTake p params s).state.tke := by
  have accepts : ∀ e : TakeEntry, e.tag ≤ 7 → e.tag ∉ usedTags s.tke e.port → isSweeping e = false →
      TakeLaw (acceptTake e s).state.tke := by
    intro e low free still
    unfold acceptTake
    split
    · split
      · exact completeAtAcceptance_takeLaw law low free _
      · exact enqueueTake_takeLaw (s := setNegotiation _ s) law low free still
    · split
      · exact completeAtAcceptance_takeLaw law low free _
      · exact enqueueTake_takeLaw law low free still
  unfold reqSubmitTake
  split
  · split
    · exact law
    · next low =>
      split
      · exact law
      · split
        · exact law
        · next known free =>
          exact accepts _ (Nat.not_lt.mp low) (not_mem_usedTags (Bool.eq_false_iff.mpr free)) (isSweeping_newEntry ..)
  · exact law

/-! ### The other requests and operations -/

theorem reqFlushTakes_takeLaw (p : Port) (params : List Byte) {s : State} (law : TakeLaw s.tke) :
    TakeLaw (reqFlushTakes p params s).state.tke := by
  unfold reqFlushTakes
  split
  · exact ToDeal.foldl_flushEntry _ s (.of_filter law fun x picked => by
      simp only [Bool.and_eq_true] at picked
      exact picked.2)
  · exact law

/-- A list that is read and emptied gives up its tags (R74, R89). -/
theorem reqReadCompletions_takeLaw (p : Port) (params : List Byte) {s : State} (law : TakeLaw s.tke) :
    TakeLaw (reqReadCompletions p params s).state.tke := by
  unfold reqReadCompletions
  split
  · refine ⟨fun q => ?_, law.2⟩
    obtain ⟨distinct, low, own⟩ := law.1 q
    have fewer : ((s.tke.completions.set p []).get q).Sublist (s.tke.completions.get q) := by
      rw [PerPort.get_set]
      split
      · exact List.nil_sublist _
      · exact .refl _
    have tags : (usedTags { s.tke with completions := s.tke.completions.set p [] } q).Sublist (usedTags s.tke q) :=
      (List.Sublist.refl _).append (fewer.map _)
    exact ⟨distinct.sublist tags, fun n mem => low n (tags.subset mem), fun c mem => own c (fewer.subset mem)⟩
  · exact law

/-- A restart empties the queue and the lists and logs what negotiated as FLUSHED (R94). -/
theorem reqRestart_takeLaw (p : Port) (params : List Byte) {s : State} (law : TakeLaw s.tke) :
    TakeLaw (reqRestart p params s).state.tke := by
  unfold reqRestart
  split
  · split
    · exact law
    · refine ⟨fun q => ?_, Nat.zero_le 1, logLaw_foldl_appendLog (fun c mem => ?_) law.logLaw⟩
      · cases q <;> exact ⟨.nil, nofun, nofun⟩
      · obtain ⟨e, -, rfl⟩ := List.mem_map.mp mem
        exact nofun
  · exact law

/-- Every request: the four above write the take engine, no other does. -/
theorem handler_takeLaw : ∀ h ∈ handlers, ∀ (p : Port) (params : List Byte) {s : State}, TakeLaw s.tke →
    TakeLaw (h p params s).state.tke := by
  have others : ∀ {h : Handler}, (∀ p params s, (h p params s).state.tke = s.tke) → ∀ (p : Port) (params : List Byte)
      {s : State}, TakeLaw s.tke → TakeLaw (h p params s).state.tke :=
    fun same p params s law => (same p params s).symm ▸ law
  simp only [handlers, List.forall_mem_cons]
  refine ⟨?_, ?_, ?_, ?_, ?_, ?_, ?_, ?_, ?_, ?_, ?_, ?_, ?_, ?_, ?_, ?_, ?_, ?_, ?_, ?_, reqSubmitTake_takeLaw,
    reqFlushTakes_takeLaw, reqReadCompletions_takeLaw, ?_, ?_, ?_, ?_, ?_, ?_, ?_, ?_, ?_, ?_, ?_, ?_, ?_, ?_, ?_,
    reqRestart_takeLaw, nofun⟩
  all_goals exact others fun p params s => by simp

/-- A report of the partner leaves the take engine (R163). -/
theorem receiveReport_tke (r : Report) (s : State) : (receiveReport r s).tke = s.tke := by
  have acted : ∀ u : State, (actOnSwapWord r u).tke = u.tke := by
    intro u
    unfold actOnSwapWord receiveOffer receiveRequest receiveRelease
    repeat' split
    all_goals simp
  have noted : (noteMain r s).tke = s.tke := by
    unfold noteMain
    split <;> simp
  unfold receiveReport
  simp only []
  split
  · simp [acted, takeInHand, noted]
  · exact noted

theorem effect_takeLaw {s t : State} (e : Effect s t) (law : TakeLaw s.tke) : TakeLaw t.tke := by
  cases e with
  | stands => exact law
  | halted power _ => exact law
  | released t straps => exact tkeReset_takeLaw
  | acted running act =>
    cases act with
    | stands => exact law
    | pulse e => exact pulseEvent_takeLaw e law
    | regainExpiry => obtain ⟨f, eq⟩ := regainExpiry_fcy s; rw [eq]; exact law
    | complete => obtain ⟨_, _, eq⟩ := complete_fcy s; rw [eq]; exact law
    | spend => obtain ⟨_, eq⟩ := spend_fcy s; rw [eq]; exact law
    | report r _ => exact (receiveReport_tke r _).symm ▸ law
    | link l _ => exact law
    | ingest c => exact (IngestLeaves.ingestCharacter c s).tke.symm ▸ law
    | symbol => exact law
    | loader => exact (IngestLeaves.moveHead s).tke.symm ▸ law
    | request p r params palarm known =>
      simp only [sendReply_keeps]
      exact handler_takeLaw _ known p params (s := endFrame p (sampleAlarm palarm s)) law
    | ports palarm receiver reply waiting => exact law

/-- Settles O56: a step is one of the effects, each of which keeps the law of the take engine. -/
theorem stepKeepsTheTakeLaw : Obligations.StepKeepsTheTakeLaw := by
  intro s t h law
  obtain ⟨q, e⟩ := step_effect h
  exact effect_takeLaw e law

end Sys2Proof.Machine
end

section
/-! PROOFS. The requests about takes: the refusals of SUBMIT TAKE (R73, R74), a submitted SWAP (R75, R87, R167), FLUSH
TAKES (R91), READ COMPLETIONS and READ TAKE LOG (R89, R90): O38, O40, O41 and O42. -/

namespace Sys2Proof.Machine

/-! ### The refusals of SUBMIT TAKE (R73, R74) -/

theorem reqSubmitTake_misfit (p : Port) {params : List Byte} (misfit : params.length ≠ 14) (s : State) :
    reqSubmitTake p params s = refuse .range s := by
  unfold reqSubmitTake
  split
  · exact absurd rfl misfit
  · rfl

/-- A kind above 4, or a length or line mode out of the kind's range, is no kind of take (R73). -/
theorem takeKindOf_eq_none {kind mode : Byte} {n : Nat} (target : Word32)
    (beyond : 4 < kind.toNat ∨ (kind = 0#8 ∧ 250 < n) ∨ (kind = 1#8 ∧ (n = 0 ∨ 1000 < n)) ∨
      (kind = 3#8 ∧ 2 < mode.toNat)) : takeKindOf kind.toNat n target mode.toNat = none := by
  rcases beyond with unknown | ⟨rfl, long⟩ | ⟨rfl, length⟩ | ⟨rfl, noMode⟩
  · unfold takeKindOf
    split
    case h_6 => rfl
    all_goals omega
  · exact if_neg (Nat.not_le.mpr long)
  · refine if_neg ?_
    simp only [Bool.and_eq_true, decide_eq_true_eq]
    omega
  · have noCode : LineMode.ofCode mode.toNat = none := by
      unfold LineMode.ofCode
      split
      case h_4 => rfl
      all_goals omega
    show (LineMode.ofCode mode.toNat).map TakeKind.line = none
    rw [noCode]
    rfl

/-- A kind up to 4 with its length or line mode in range is a kind of take (R73). -/
theorem exists_takeKindOf {kind mode : Byte} {n : Nat} (target : Word32) (known : kind.toNat ≤ 4)
    (publish : kind = 0#8 → n ≤ 250) (sweep : kind = 1#8 → 1 ≤ n ∧ n ≤ 1000) (line : kind = 3#8 → mode.toNat ≤ 2) :
    ∃ k, takeKindOf kind.toNat n target mode.toNat = some k := by
  have kinds : kind = 0#8 ∨ kind = 1#8 ∨ kind = 2#8 ∨ kind = 3#8 ∨ kind = 4#8 := by bv_omega
  rcases kinds with rfl | rfl | rfl | rfl | rfl
  · exact ⟨.publish n, if_pos (publish rfl)⟩
  · exact ⟨.sweep n target, if_pos (by simpa using sweep rfl)⟩
  · exact ⟨.adopt, rfl⟩
  · have modes : mode = 0#8 ∨ mode = 1#8 ∨ mode = 2#8 := by
      have := line rfl
      bv_omega
    rcases modes with rfl | rfl | rfl
    · exact ⟨.line .live, rfl⟩
    · exact ⟨.line .pass, rfl⟩
    · exact ⟨.line .check, rfl⟩
  · exact ⟨.swap, rfl⟩

section Submission

variable {p : Port} {s : State} {tag kind flags d0 d1 d2 d3 n0 n1 c0 c1 c2 c3 mode : Byte}

theorem reqSubmitTake_range
    (beyond : 7 < tag.toNat ∨ takeKindOf kind.toNat (le16 n0 n1).toNat (le32 c0 c1 c2 c3) mode.toNat = none) :
    reqSubmitTake p [tag, kind, flags, d0, d1, d2, d3, n0, n1, c0, c1, c2, c3, mode] s = refuse .range s := by
  by_cases high : 7 < tag.toNat
  · simp only [reqSubmitTake, if_pos high]
  · simp only [reqSubmitTake, if_neg high, beyond.resolve_left high]

theorem reqSubmitTake_tagInUse {k : TakeKind} (low : tag.toNat ≤ 7)
    (known : takeKindOf kind.toNat (le16 n0 n1).toNat (le32 c0 c1 c2 c3) mode.toNat = some k)
    (used : tag.toNat ∈ usedTags s.tke p) :
    reqSubmitTake p [tag, kind, flags, d0, d1, d2, d3, n0, n1, c0, c1, c2, c3, mode] s = refuse .tagInUse s := by
  have busy : tagBusy s p tag.toNat = true := by
    by_contra free
    exact not_mem_usedTags (Bool.eq_false_iff.mpr free) used
  simp only [reqSubmitTake, if_neg (Nat.not_lt.mpr low), known, busy, if_true]

end Submission

/-- Settles O38: the tests of SUBMIT TAKE stand in this order, and each refuses. -/
theorem submitTakeRefusesByItsTests : Obligations.SubmitTakeRefusesByItsTests := by
  intro p s ready
  refine ⟨fun params misfit => next_of_refused ready (reqSubmitTake_misfit p misfit _), ?_⟩
  rintro tag kind flags d0 d1 d2 d3 n0 n1 c0 c1 c2 c3 mode n rfl
  refine ⟨fun beyond => ?_, fun low known publish sweep line used => ?_⟩
  · exact next_of_refused ready (reqSubmitTake_range (beyond.imp_right (takeKindOf_eq_none _)))
  · obtain ⟨k, kindOf⟩ := exists_takeKindOf (le32 c0 c1 c2 c3) known publish sweep line
    exact next_of_refused ready (reqSubmitTake_tagInUse (s := endFrame p s) low kindOf used)

/-! ### READ COMPLETIONS and READ TAKE LOG (R89, R90) -/

/-- Settles O42: both refuse parameters; the one returns the list and empties it, the other returns the log. -/
theorem completionsAndTheLogAreRead : Obligations.CompletionsAndTheLogAreRead := by
  intro p params s ready
  constructor
  · intro given
    obtain ⟨b, rest, rfl⟩ := List.exists_cons_of_ne_nil given
    exact ⟨next_of_refused (f := reqReadCompletions) ready rfl, next_of_refused (f := reqReadTakeLog) ready rfl⟩
  · rintro rfl
    exact ⟨next_of_done (f := reqReadCompletions) ready rfl, next_of_done (f := reqReadTakeLog) ready rfl⟩

/-! ### FLUSH TAKES (R91) -/

/-- The record of a port's entry that is flushed (R91). -/
def flushRecord (p : Port) (applied : Word32) (e : TakeEntry) : Completion where
  port := p
  tag := e.tag
  sort := e.kind.sort
  status := .flushed
  applied := applied
  due := e.due

/-- Entries of one port that complete FLUSHED leave the queue and add their records, in order, to the port's list and to
the log (R91). -/
theorem foldl_flushEntry_eq {p : Port} {applied : Word32} (l : List TakeEntry) (own : ∀ e ∈ l, e.port = p) :
    ∀ s : State, s.fcy.count + 1 = applied → l.foldl flushEntry s = s.onTke fun t => { t with
      queue := t.queue.filter fun x => l.all fun e => !sameTake e x
      completions := t.completions.set p (t.completions.get p ++ l.map (flushRecord p applied))
      log := (l.map (flushRecord p applied)).foldl appendLog t.log } := by
  induction l with
  | nil => intro s _; simp [State.onTke]
  | cons e l ih =>
    obtain ⟨rfl, others⟩ := List.forall_mem_cons.mp own
    rintro s rfl
    have first : flushEntry s e = s.onTke fun t => { t with
        queue := t.queue.filter fun x => !sameTake e x
        completions := t.completions.set e.port (t.completions.get e.port ++ [flushRecord e.port (s.fcy.count + 1) e])
        log := appendLog t.log (flushRecord e.port (s.fcy.count + 1) e) } := rfl
    rw [List.foldl_cons, ih others (flushEntry s e) rfl, first]
    simp [State.onTke, List.filter_filter, Bool.and_comm]

/-- In a lawful queue the entries that remain after the flushable ones have left are the others (R74, R91). -/
theorem filter_of_flushable {t : Tke} (law : TakeLaw t) (p : Port) :
    (t.queue.filter fun x => (flushable p t.queue).all fun e => !sameTake e x) =
      t.queue.filter fun e => !(e.port = p && isWaiting e) := by
  refine List.filter_congr fun x queued => ?_
  rw [Bool.eq_iff_iff, List.all_eq_true]
  constructor
  · intro stays
    by_contra leaves
    have self := stays x (List.mem_filter.mpr ⟨queued, by simpa using leaves⟩)
    rw [sameTake_self] at self
    cases self
  · intro stays e gone
    by_contra same
    obtain ⟨mem, leaves⟩ := List.mem_filter.mp gone
    obtain rfl := take_unique law mem queued (by simpa using same)
    rw [leaves] at stays
    cases stays

/-- Settles O41: the rule deals with the flushable entries one after the other, which is one rewriting of the take
engine. -/
theorem flushRemovesThePortsWaitingTakes : Obligations.FlushRemovesThePortsWaitingTakes := by
  intro p params s ready law
  constructor
  · intro given
    obtain ⟨b, rest, rfl⟩ := List.exists_cons_of_ne_nil given
    exact next_of_refused (f := reqFlushTakes) ready rfl
  · rintro rfl gone records isGone isRecords
    have own : ∀ e ∈ gone, e.port = p := by
      intro e mem
      rw [isGone] at mem
      have picked := (List.mem_filter.mp mem).2
      simp only [Bool.and_eq_true, decide_eq_true_eq] at picked
      exact picked.1
    obtain ⟨short, -⟩ := law.logLaw
    have eq := foldl_flushEntry_eq gone own (endFrame p s) rfl
    refine ⟨{ s.tke with
      queue := s.tke.queue.filter fun x => gone.all fun e => !sameTake e x
      completions := s.tke.completions.set p (s.tke.completions.get p ++ records)
      log := records.foldl appendLog s.tke.log
      flushMark := true }, next_of_done (f := reqFlushTakes) ready ?_, ?_, rfl, foldl_appendLog _ _ short, rfl, rfl⟩
    · show done [byte (flushable p s.tke.queue).length] (((flushable p s.tke.queue).foldl flushEntry _).onTke _) = _
      rw [show flushable p s.tke.queue = gone from isGone.symm, eq, isRecords]
      rfl
    · rw [isGone]
      exact filter_of_flushable law p

/-! ### A submitted SWAP (R75, R87, R167) -/

/-- The entry of an accepted SWAP with the due frame it uses (R75, R76). -/
def swapEntry (p : Port) (tag : Nat) (urgent force : Bool) (due : Word32) : TakeEntry where
  port := p
  tag := tag
  kind := .swap
  due := due
  urgent := urgent
  force := force
  past := false
  state := .negotiating
  abandonment := 0#32

/-- The due frame of a SWAP is raised to the count plus four when it is reached there (R75). -/
theorem newEntry_of_swap {sub due : Word32} {s : State} {next : Bool} {submitted : Word32}
    (isSub : sub = if next then s.fcy.count + 2 else submitted)
    (isDue : due = if reached sub (s.fcy.count + 4) then s.fcy.count + 4 else sub) (p : Port) (tag : Nat)
    (urgent force : Bool) :
    newEntry p tag .swap urgent force next submitted s = swapEntry p tag urgent force due := by
  simp [newEntry, dueFrameUsed, pastAt, swapEntry, isDue, isSub]

/-- A SWAP that no negotiation takes up completes SWAP FAILED at once (R87). -/
theorem acceptTake_swapFailed {e : TakeEntry} {s : State} (swap : e.kind = .swap)
    (unjoined : joinSwap { port := e.port, tag := e.tag } e.due e.force s = none) :
    acceptTake e s = completeAtAcceptance e .swapFailed s := by
  simp [acceptTake, swap, unjoined]

/-- A SWAP that a negotiation takes up enters the queue with its record (R87, R167). -/
theorem acceptTake_negotiating {e : TakeEntry} {s : State} {n : Negotiation} (swap : e.kind = .swap)
    (joined : joinSwap { port := e.port, tag := e.tag } e.due e.force s = some n) :
    acceptTake e s = enqueueTake e (setNegotiation (some n) s) := by
  simp [acceptTake, swap, joined]

theorem mem_insertEntry (e : TakeEntry) (queue : List TakeEntry) : e ∈ insertEntry e queue := by
  obtain ⟨before, after, -, placed, -⟩ := insertEntry_split e queue
  rw [placed]
  exact List.mem_append_right _ (List.mem_cons_self ..)

theorem joinable_iff (stage : Stage) :
    joinable stage = true ↔ stage = .requesting ∨ stage = .waiting ∨ stage = .offering := by
  cases stage <;> simp [joinable]

/-- A record that a SWAP of this line frame can join (R167). -/
def Joinable (due : Word32) (n : Negotiation) : Prop :=
  n.lineFrame = due ∧ (n.stage = .requesting ∨ n.stage = .waiting ∨ n.stage = .offering)

/-- Without the line to change, or with a record that cannot be joined, the negotiation takes no SWAP up (R75, R167). -/
theorem joinSwap_eq_none {due : Word32} {s : State} (refused : s.opr.role = .sole ∨ s.opr.role = .handingOver ∨
    ∃ n, s.opr.negotiation = some n ∧ ¬ Joinable due n) (j : JoinedEntry) (force : Bool) :
    joinSwap j due force s = none := by
  unfold joinSwap
  split
  · next free =>
    rcases refused with role | role | ⟨n, known, -⟩
    · rw [role]
    · rw [role]
    · rw [free] at known
      cases known
  · next n known =>
    refine if_neg fun joins => ?_
    simp only [Bool.and_eq_true, Bool.or_eq_true, decide_eq_true_eq, joinable_iff] at joins
    obtain ⟨⟨role, frame⟩, stage⟩ := joins
    rcases refused with sole | handing | ⟨m, isM, misfit⟩
    · rw [sole] at role
      simp at role
    · rw [handing] at role
      simp at role
    · obtain rfl := Option.some.inj (known.symm.trans isM)
      exact misfit ⟨frame, stage⟩

/-- The record that a SWAP makes on a MAIN or STANDBY without one (R167). -/
theorem joinSwap_new {s : State} (paired : s.opr.role = .main ∨ s.opr.role = .standby) (free : s.opr.negotiation = none)
    (j : JoinedEntry) (due : Word32) (force : Bool) :
    ∃ n, joinSwap j due force s = some n ∧ n.lineFrame = due ∧ n.origin = .take ∧ n.force = force ∧ n.entries = [j] ∧
      (s.opr.role = .main → n.side = .mainSide ∧ n.stage = .requesting ∧ n.offerSeen = false) ∧
      (s.opr.role = .standby → n.side = .standbySide ∧ n.stage = .waiting) := by
  unfold joinSwap
  rw [free]
  rcases paired with role | role
  · rw [role]
    exact ⟨_, rfl, rfl, rfl, rfl, rfl, fun _ => ⟨rfl, rfl, rfl⟩, nofun⟩
  · rw [role]
    exact ⟨_, rfl, rfl, rfl, rfl, rfl, nofun, fun _ => ⟨rfl, rfl⟩⟩

/-- The record that a SWAP joins (R167). -/
theorem joinSwap_joins {s : State} {m : Negotiation} {due : Word32}
    (paired : s.opr.role = .main ∨ s.opr.role = .standby) (known : s.opr.negotiation = some m) (fits : Joinable due m)
    (j : JoinedEntry) (force : Bool) :
    joinSwap j due force s =
      some { m with origin := .take, force := m.force || force, entries := m.entries ++ [j] } := by
  obtain ⟨frame, stage⟩ := fits
  unfold joinSwap
  rw [known]
  refine if_pos ?_
  simp only [Bool.and_eq_true, Bool.or_eq_true, decide_eq_true_eq, joinable_iff]
  exact ⟨⟨paired, frame⟩, stage⟩

/-- A MAIN or STANDBY whose record, if there is one, can be joined takes the SWAP up (R75, R167). -/
theorem exists_joinSwap {s : State} {due : Word32} (paired : s.opr.role = .main ∨ s.opr.role = .standby)
    (fits : ∀ n, s.opr.negotiation = some n → Joinable due n) (j : JoinedEntry) (force : Bool) :
    ∃ n, joinSwap j due force s = some n ∧
      (s.opr.negotiation = none → n.lineFrame = due ∧ n.origin = .take ∧ n.force = force ∧ n.entries = [j] ∧
        (s.opr.role = .main → n.side = .mainSide ∧ n.stage = .requesting ∧ n.offerSeen = false) ∧
        (s.opr.role = .standby → n.side = .standbySide ∧ n.stage = .waiting)) ∧
      ∀ m, s.opr.negotiation = some m →
        n = { m with origin := .take, force := m.force || force, entries := m.entries ++ [j] } := by
  cases known : s.opr.negotiation with
  | none =>
    obtain ⟨n, joins, made⟩ := joinSwap_new paired known j due force
    exact ⟨n, joins, fun _ => made, nofun⟩
  | some m =>
    refine ⟨_, joinSwap_joins paired known (fits m known) j force, nofun, ?_⟩
    rintro _ ⟨⟩
    rfl

/-- Settles O40: the negotiation takes the SWAP up, with a new record or the one there is, or it fails at once. -/
theorem submittedSwapsStartANegotiation : Obligations.SubmittedSwapsStartANegotiation := by
  rintro p s tag flags d0 d1 d2 d3 n0 n1 c0 c1 c2 c3 mode sub due params ready isParams low free isSub isDue
  have accepted : reqSubmitTake p params (endFrame p s) =
      acceptTake (swapEntry p tag.toNat (flags.getLsbD 0) (flags.getLsbD 1) due) (endFrame p s) := by
    rw [isParams, reqSubmitTake_accepts (s := endFrame p s) (k := .swap) low rfl free,
      newEntry_of_swap (s := endFrame p s) (submitted := le32 d0 d1 d2 d3) isSub isDue]
  refine ⟨fun refused => ?_, fun paired fits => ?_⟩
  · have failed := joinSwap_eq_none (s := endFrame p s) refused { port := p, tag := tag.toNat } (flags.getLsbD 1)
    rw [acceptTake_swapFailed rfl failed] at accepted
    exact ⟨answered p 0x30#8 .done _ (recordCompletion _ s), _, next_of_done ready (accepted.trans rfl),
      PerPort.get_set_same _ _ _, rfl, rfl, PerPort.get_set_same _ _ _, rfl, rfl, rfl, rfl, rfl⟩
  · obtain ⟨n, joins, made, joined⟩ :=
      exists_joinSwap (s := endFrame p s) paired fits { port := p, tag := tag.toNat } (flags.getLsbD 1)
    rw [acceptTake_negotiating rfl joins] at accepted
    exact ⟨answered p 0x30#8 .done _ (enqueueTake _ (setNegotiation (some n) s)).state, _, n,
      next_of_done ready (accepted.trans rfl), PerPort.get_set_same _ _ _, mem_insertEntry _ s.tke.queue, rfl, rfl, rfl,
      rfl, rfl, rfl, rfl, made, joined⟩

end Sys2Proof.Machine
end

section
/-! PROOFS. The computed values of gauges, winds and sweeps (R82, R100, R101, R117 to R123): O51. -/

namespace Sys2Proof.Machine

/-! ### Gauges and fractions (R100, R101, R117, R118) -/

/-- The level of a height within the span is a percentage of it (R100). -/
theorem gaugeLevel_le {st : Station} (span : st.hmin < st.hmax) (h : Int) : gaugeLevel st h ≤ 100 := by
  have quotient := gaugeLevel_eq span h
  have below : (200 * (max st.hmin (min st.hmax h) - st.hmin) + (st.hmax - st.hmin)) /
      (2 * (st.hmax - st.hmin)) < 101 := Int.ediv_lt_of_lt_mul (by omega) (by omega)
  omega

theorem rateAt_range (st : Station) (t : Word32) : -9999 ≤ rateAt st t ∧ rateAt st t ≤ 9999 := by
  unfold rateAt
  rw [clampInt_eq (by decide)]
  omega

/-- Of two brackets the first is due at r and the second is not (R115). -/
theorem brackets_around {frames : List SnapFrame} {r : Int} {b : Brackets} {f1 : SnapFrame}
    (bracketed : brackets frames r = some b) (two : b.second = some f1) :
    (b.first.offset : Int) ≤ r ∧ r < (f1.offset : Int) := by
  unfold brackets at bracketed
  split at bracketed
  · next f0 g due ahead =>
    obtain rfl := Option.some.inj bracketed
    obtain rfl := Option.some.inj two
    have dueAt := (List.mem_filter.mp (List.mem_of_getLast? due)).2
    have aheadAt := (List.mem_filter.mp (List.mem_of_head? ahead)).2
    exact ⟨by simpa using dueAt, by simpa using aheadAt⟩
  · obtain rfl := Option.some.inj bracketed
    cases two
  · obtain rfl := Option.some.inj bracketed
    cases two
  · cases bracketed

/-- Before the second bracket the fraction stays below 256 (R117). -/
theorem fraction_le {frames : List SnapFrame} {r : Int} {b : Brackets} (bracketed : brackets frames r = some b) :
    fraction r b ≤ 255 := by
  unfold fraction
  split
  · exact Nat.zero_le _
  · next f1 two =>
    obtain ⟨due, ahead⟩ := brackets_around bracketed two
    have below : (r - b.first.offset) * 256 / ((f1.offset : Int) - b.first.offset) < 256 :=
      Int.ediv_lt_of_lt_mul (by omega) (by omega)
    omega

/-- A component between two frames lies between their components (R118). -/
theorem interpolate_between (c0 c1 : Int) {f : Nat} (few : f ≤ 255) :
    min c0 c1 ≤ interpolate c0 c1 f ∧ interpolate c0 c1 f ≤ max c0 c1 := by
  have fits : (f : Int) ≤ 255 := by exact_mod_cast few
  have nonneg : (0 : Int) ≤ f := Int.natCast_nonneg f
  unfold interpolate
  rcases le_total c0 c1 with rises | falls
  · have low : 0 ≤ (c1 - c0) * f := mul_nonneg (by omega) nonneg
    have high : (c1 - c0) * f ≤ (c1 - c0) * 255 := mul_le_mul_of_nonneg_left fits (by omega)
    omega
  · have low : (c1 - c0) * 255 ≤ (c1 - c0) * f := mul_le_mul_of_nonpos_left fits (by omega)
    have high : (c1 - c0) * f ≤ 0 := mul_nonpos_of_nonpos_of_nonneg (by omega) nonneg
    omega

/-! ### Sweeps (R82) -/

theorem sweepValue_last (start target : Int) {n : Nat} (pos : 1 ≤ n) : sweepValue start target n n = target := by
  unfold sweepValue
  rw [Int.mul_tdiv_cancel _ (by omega)]
  omega

theorem sweepCursor_last {r : SweepRecord} (pos : 1 ≤ r.n) (last : r.k = r.n) : sweepCursor r = r.cursorTarget := by
  unfold sweepCursor
  rw [last, Int.mul_tdiv_cancel _ (by omega), BitVec.ofInt_toInt]
  bv_omega

/-! ### Speed (R119) -/

/-- The weights of k bits, the highest first. -/
def rootWeights : Nat → List Nat
  | 0 => []
  | k + 1 => 2 ^ k :: rootWeights k

/-- A root that lies within 2ᵏ above s is found bit by bit. -/
theorem rootFrom_spec (n : Nat) : ∀ k s : Nat, s * s ≤ n → n < (s + 2 ^ k) * (s + 2 ^ k) →
    rootFrom n (rootWeights k) s * rootFrom n (rootWeights k) s ≤ n ∧
    n < (rootFrom n (rootWeights k) s + 1) * (rootFrom n (rootWeights k) s + 1)
  | 0, s, low, high => ⟨low, high⟩
  | k + 1, s, low, high => by
    simp only [rootWeights, rootFrom]
    split
    · next fits =>
      refine rootFrom_spec n k (s + 2 ^ k) fits ?_
      rwa [Nat.add_assoc, ← Nat.two_mul, ← Nat.pow_succ']
    · next beyond => exact rootFrom_spec n k s low (Nat.not_le.mp beyond)

/-- The floor of the root of a number below 2²² (R119). -/
theorem floorRoot_spec {n : Nat} (small : n < 4194304) :
    floorRoot n * floorRoot n ≤ n ∧ n < (floorRoot n + 1) * (floorRoot n + 1) :=
  rootFrom_spec n 11 0 (Nat.zero_le n) small

/-- A component within 1,000 either way has a square of at most a million. -/
theorem square_le {c : Int} (low : -1000 ≤ c) (high : c ≤ 1000) : c * c ≤ 1000000 := by nlinarith

theorem speedOf_spec {u v : Int} (uLow : -1000 ≤ u) (uHigh : u ≤ 1000) (vLow : -1000 ≤ v) (vHigh : v ≤ 1000) :
    (speedOf { u := u, v := v } * speedOf { u := u, v := v } : Int) ≤ u * u + v * v ∧
    u * u + v * v < ((speedOf { u := u, v := v } + 1) * (speedOf { u := u, v := v } + 1) : Int) ∧
    speedOf { u := u, v := v } ≤ 1414 := by
  obtain ⟨n, isN⟩ : ∃ n : Nat, (n : Int) = u * u + v * v :=
    ⟨_, Int.toNat_of_nonneg (add_nonneg (mul_self_nonneg u) (mul_self_nonneg v))⟩
  have most : n ≤ 2000000 := by
    have := square_le uLow uHigh
    have := square_le vLow vHigh
    omega
  have speed : speedOf { u := u, v := v } = floorRoot n := by
    rw [speedOf, ← isN, Int.toNat_natCast]
  obtain ⟨low, high⟩ := floorRoot_spec (n := n) (by omega)
  rw [speed, ← isN]
  refine ⟨by exact_mod_cast low, by exact_mod_cast high, ?_⟩
  by_contra fast
  nlinarith

/-! ### Force (R120) -/

/-- Of an ascending list the value at index i is within x exactly when more than i values are. -/
theorem lt_length_filter_le_iff {x : Nat} : ∀ {l : List Nat}, l.Pairwise (· < ·) → ∀ {i b : Nat}, l[i]? = some b →
    (i < (l.filter fun c => c ≤ x).length ↔ b ≤ x)
  | [], _, _, _, at_ => by cases at_
  | a :: l, asc, i, b, at_ => by
    obtain ⟨least, rest⟩ := List.pairwise_cons.mp asc
    by_cases within : a ≤ x
    · rw [List.filter_cons_of_pos (by simpa using within), List.length_cons]
      cases i with
      | zero =>
        obtain rfl := Option.some.inj at_
        exact ⟨fun _ => within, fun _ => Nat.succ_pos _⟩
      | succ i => rw [Nat.add_lt_add_iff_right]; exact lt_length_filter_le_iff rest at_
    · have none_within : (a :: l).filter (fun c => c ≤ x) = [] := by
        refine List.filter_eq_nil_iff.mpr (List.forall_mem_cons.mpr ⟨by simpa using within, fun c mem => ?_⟩)
        have := least c mem
        simp only [decide_eq_true_eq]
        omega
      have above : a ≤ b := by
        rcases List.mem_cons.mp (List.mem_of_getElem? at_) with rfl | mem
        · exact le_rfl
        · exact Nat.le_of_lt (least b mem)
      rw [none_within]
      exact ⟨fun h => absurd h (Nat.not_lt_zero i), fun h => absurd (le_trans above h) within⟩

/-- A force is reached exactly when the speed reaches its lower bound (R120). -/
theorem le_forceOf_iff {speed force bound : Nat}
    (at_ : [0, 10, 35, 65, 105, 165, 215, 275, 335, 405, 475, 555, 635][force]? = some bound) :
    force ≤ forceOf speed ↔ bound ≤ speed := by
  cases force with
  | zero =>
    obtain rfl := Option.some.inj at_
    exact ⟨fun _ => Nat.zero_le _, fun _ => Nat.zero_le _⟩
  | succ force => exact lt_length_filter_le_iff (l := forceBounds) (by decide) at_

theorem forceOf_le (speed : Nat) : forceOf speed ≤ 12 := List.length_filter_le _ _

/-- Force 0 is a speed below 10 (R120). -/
theorem forceOf_eq_zero_iff (speed : Nat) : forceOf speed = 0 ↔ speed < 10 := by
  have first := le_forceOf_iff (speed := speed) (force := 1) (bound := 10) rfl
  omega

/-! ### Direction (R121 to R123) -/

/-- A from-vector that is not zero lies in one quadrant, and is rotated into the first (R121). -/
theorem quadrant_spec {e n : Int} (moves : ¬ (e = 0 ∧ n = 0)) : ∃ q e' n', quadrant e n = (q, e', n') ∧
    (0 ≤ e ∧ 0 < n → q = 0 ∧ e' = e ∧ n' = n) ∧ (0 < e ∧ n ≤ 0 → q = 1 ∧ e' = -n ∧ n' = e) ∧
    (e ≤ 0 ∧ n < 0 → q = 2 ∧ e' = -e ∧ n' = -n) ∧ (e < 0 ∧ 0 ≤ n → q = 3 ∧ e' = n ∧ n' = -e) ∧ 0 ≤ e' ∧ 0 < n' := by
  unfold quadrant
  simp only [Bool.and_eq_true, decide_eq_true_eq]
  split
  · exact ⟨_, _, _, rfl, by omega⟩
  · split
    · exact ⟨_, _, _, rfl, by omega⟩
    · split
      · exact ⟨_, _, _, rfl, by omega⟩
      · exact ⟨_, _, _, rfl, by omega⟩

/-- A wind of speed 10 or more is not still. -/
theorem moves_of_speed {wind : WindPair} (blows : 10 ≤ speedOf wind) : ¬ (-wind.u = 0 ∧ -wind.v = 0) := by
  rintro ⟨noU, noV⟩
  have still : speedOf wind = 0 := by
    rw [speedOf, neg_eq_zero.mp noU, neg_eq_zero.mp noV]
    rfl
  omega

theorem sectorOf_eq {wind : WindPair} {q : Nat} {e n : Int} (rotated : quadrant (-wind.u) (-wind.v) = (q, e, n)) :
    sectorOf wind =
      (4 * q + ([13036, 43790, 98082, 329472] : List Int).countP fun bound => n * bound ≤ e * 65536) % 16 := by
  rw [sectorOf, rotated, List.countP_eq_length_filter]
  rfl

theorem markOf_calm {wind : WindPair} (calm : speedOf wind < 10) : markOf wind = .calm (speedOf wind) :=
  if_pos ((forceOf_eq_zero_iff _).mpr calm)

theorem markOf_arrow {wind : WindPair} (blows : 10 ≤ speedOf wind) :
    markOf wind = .arrow (speedOf wind) (forceOf (speedOf wind)) (sectorOf wind) :=
  if_neg fun calm => absurd ((forceOf_eq_zero_iff _).mp calm) (Nat.not_lt.mpr blows)

/-- Settles O51: each computation has its range, and the mark of a wind its speed, force and sector. -/
theorem computedValuesStayInRange : Obligations.ComputedValuesStayInRange := by
  refine ⟨⟨fun st h span => gaugeLevel_le span h, rateAt_range, fun frames r b => fraction_le, ?_, forceOf_le⟩,
    fun start target n pos => sweepValue_last start target pos, fun r pos last => sweepCursor_last pos last, ?_,
    fun speed force bound at_ => le_forceOf_iff at_, ?_⟩
  · intro c0 c1 f low0 high0 low1 high1 few
    have between := interpolate_between c0 c1 few
    omega
  · rintro u v uLow uHigh vLow vHigh speed rfl
    exact speedOf_spec uLow uHigh vLow vHigh
  · rintro wind speed e n rfl rfl rfl
    refine ⟨markOf_calm, fun blows => ?_⟩
    obtain ⟨q, e', n', rotated, quadrants⟩ := quadrant_spec (moves_of_speed blows)
    exact ⟨q, e', n', by rw [markOf_arrow blows, sectorOf_eq rotated], quadrants⟩

end Sys2Proof.Machine
end

section
/-! PROOFS. The ranges of the gauge results in every chart, kept by every step (R100, R101, R104, R107): O60. -/

namespace Sys2Proof.Machine

/-! ### The two parts of the law -/

/-- Every station of the store has a gauge span (R36). -/
def SpanLaw (f : Fst) : Prop := ∀ st ∈ f.stations, st.hmin < st.hmax

/-- The composition in flight and the two charts of the frame cycle keep the ranges of R104. -/
def ChartsLaw (f : Fcy) : Prop :=
  (∀ c, f.inFlight = some c → SnapshotLaw c.snap) ∧ (∀ c, f.completed = some c → ChartLaw c) ∧
    ∀ c, f.displayed = some c → ChartLaw c

theorem gaugeLaw_iff {s : State} : GaugeLaw s ↔ SpanLaw s.fst ∧ ChartsLaw s.fcy := Iff.rfl

/-- The law reads the tide and coast store and the frame cycle alone. -/
theorem GaugeLaw.of_same {s t : State} (h : GaugeLaw s) (fst : t.fst = s.fst) (fcy : t.fcy = s.fcy) : GaugeLaw t := by
  rw [gaugeLaw_iff, fst, fcy]
  exact h

/-! ### The gauge spans through a write of the store (R34) -/

/-- What a list holds after an element is put into it by its key was put there or was there before. -/
theorem mem_insertByKey {α : Type} {key : α → Nat} {x y : α} {l : List α} (mem : y ∈ insertByKey key x l) :
    y = x ∨ y ∈ l := by
  induction l with
  | nil => exact .inl (List.mem_singleton.mp mem)
  | cons z rest ih =>
    rw [insertByKey] at mem
    split at mem
    · exact List.mem_cons.mp mem
    · split at mem
      · exact (List.mem_cons.mp mem).imp_right (List.mem_cons_of_mem z)
      · rcases List.mem_cons.mp mem with rfl | later
        · exact .inr List.mem_cons_self
        · exact (ih later).imp_right (List.mem_cons_of_mem z)

/-- A record that is put into the table is lawful, so that it has a span. -/
theorem FstWrite.spans {f f' : Fst} (w : FstWrite f f') (spans : SpanLaw f) : SpanLaw f' := by
  cases w with
  | stands => exact spans
  | putStation law room =>
    intro x mem
    rcases mem_insertByKey mem with rfl | old
    · obtain ⟨-, -, -, -, -, span, -⟩ := law
      exact span
    · exact spans x old
  | removeStation number => exact fun x mem => spans x (List.mem_of_mem_filter mem)
  | putSegment law room => exact spans
  | removeSegment id => exact spans
  | reset => exact nofun

/-! ### What a composition reports (R104 to R107) -/

/-- The values computed from a station with a span lie within their ranges (R100, R101). -/
theorem gaugeValues_range {st : Station} (span : st.hmin < st.hmax) (t : Word32) :
    (gaugeValues st t).level ≤ 100 ∧ -9999 ≤ (gaugeValues st t).rate ∧ (gaugeValues st t).rate ≤ 9999 :=
  ⟨gaugeLevel_le span _, rateAt_range st t⟩

/-- Carried values are those of a result of the last frame record (R107). -/
theorem exists_result_of_carriedValues {last : List GaugeResult} {slot station : Nat} {v : GaugeValues}
    (carried : carriedValues last slot station = some v) : ∃ g ∈ last, g.values = some v := by
  unfold carriedValues at carried
  split at carried
  · cases carried
  · next g found => exact ⟨g, List.mem_of_find?_eq_some found, carried⟩

/-- NO STATION has no values, HELD those of the last frame record, LIVE those of a station with a span. -/
theorem gaugeResult_law {snap : Snapshot} (law : SnapshotLaw snap) (level : Nat) {g : SnapGauge}
    (mem : g ∈ snap.gauges) : ResultLaw (gaugeResult snap level g) := by
  obtain ⟨spans, last⟩ := law
  intro v hv
  unfold gaugeResult at hv
  split at hv
  · cases hv
  · next st record =>
    split at hv
    · obtain ⟨r, inLast, same⟩ := exists_result_of_carriedValues hv
      exact last r inLast v same
    · obtain rfl := Option.some.inj hv
      exact gaugeValues_range (spans g mem st record) _

theorem chartOf_law {c : Composition} (law : SnapshotLaw c.snap) : ChartLaw (chartOf c) := by
  intro r mem
  have reported : r ∈ gaugeResults c.snap c.level := mem
  unfold gaugeResults at reported
  split at reported
  · obtain ⟨g, inSnap, rfl⟩ := List.mem_map.mp reported
    exact gaugeResult_law law c.level inSnap
  · cases reported

/-! ### What a snapshot takes over (R42, R107, R125) -/

/-- The record of a snapshot's gauge is a record of the station table (R42). -/
theorem record_mem_of_snapGauges {stations : List Station} {i : Nat} {l : List (Option Gauge)} {g : SnapGauge}
    {st : Station} (mem : g ∈ snapGauges stations i l) (record : g.record = some st) : st ∈ stations := by
  induction i, l using snapGauges.induct with
  | case1 i => cases mem
  | case2 i rest ih => exact ih mem
  | case3 i gauge rest ih =>
    rcases List.mem_cons.mp mem with rfl | later
    · exact List.mem_of_find?_eq_some record
    · exact ih later

/-- The results a snapshot takes over are those of the displayed chart (R107). -/
theorem lastGauges_law {s : State} (shown : ∀ c, s.fcy.displayed = some c → ChartLaw c) :
    ∀ g ∈ lastGauges s, ResultLaw g := by
  unfold lastGauges lastRecord
  cases displayed : s.fcy.displayed with
  | none => exact nofun
  | some c => exact shown c displayed

theorem snapshotOf_law {s : State} (spans : SpanLaw s.fst) (shown : ∀ c, s.fcy.displayed = some c → ChartLaw c) :
    SnapshotLaw (snapshotOf s) :=
  ⟨fun _ mem st record => spans st (record_mem_of_snapGauges mem record), lastGauges_law shown⟩

/-! ### Pulses and expiries (R4 to R9) -/

/-- The chart displayed after a pulse was completed or displayed before it (R12). -/
theorem displayedAfter_law {s : State} (law : ChartsLaw s.fcy) : ∀ c, displayedAfter s = some c → ChartLaw c := by
  obtain ⟨-, completed, displayed⟩ := law
  unfold displayedAfter
  cases waiting : s.fcy.completed with
  | none => exact displayed
  | some c => exact fun _ same => completed _ (waiting.trans same)

/-- A pulse takes its snapshot of the store it finds and of the chart it has put on display (R10, R12, R125). -/
theorem servingPulse_snapshot (t : Time) (palarm : Bool) (s : State) : ∃ v c,
    (servingPulse t palarm s).fcy.inFlight = some c ∧ c.snap = snapshotOf v ∧ v.fst = s.fst ∧
    v.fcy.displayed = displayedAfter s := by
  obtain ⟨v, cycle, store, shown⟩ : ∃ v, (servingPulse t palarm s).fcy = (beginComposition v).fcy ∧ v.fst = s.fst ∧
      v.fcy.displayed = displayedAfter s :=
    ⟨fixLineMode (applyTakes (pairDone t palarm s).1 (pairDone t palarm s).2).1, by
      simp [servingPulse, compositionStart, pairDone, periodEnded, endOfPeriod_fcy, displayedAfter]⟩
  obtain ⟨c, begun, snap, -⟩ := beginComposition_fcy v
  exact ⟨v, c, by rw [cycle, begun], snap, store, shown⟩

theorem servingPulse_gaugeLaw (t : Time) (palarm : Bool) {s : State} (h : GaugeLaw s) :
    GaugeLaw (servingPulse t palarm s) := by
  obtain ⟨spans, charts⟩ := gaugeLaw_iff.mp h
  have shown := displayedAfter_law charts
  obtain ⟨v, c, flight, snap, store, displayed⟩ := servingPulse_snapshot t palarm s
  have snapLaw : SnapshotLaw c.snap := snap ▸ snapshotOf_law (store ▸ spans) (displayed ▸ shown)
  obtain ⟨d, cycle, -⟩ := servingPulse_fcy t palarm s
  rw [cycle] at flight
  obtain rfl := Option.some.inj flight
  have kept : (servingPulse t palarm s).fst = s.fst := by simp
  rw [gaugeLaw_iff, cycle, kept]
  exact ⟨spans, fun c same => Option.some.inj same ▸ snapLaw, nofun, shown⟩

theorem internalPulse_gaugeLaw (palarm : Bool) {s : State} (h : GaugeLaw s) : GaugeLaw (internalPulse palarm s) := by
  unfold internalPulse
  split
  · exact h
  · exact servingPulse_gaugeLaw _ palarm h

theorem lossExpiry_gaugeLaw (palarm : Bool) {s : State} (h : GaugeLaw s) : GaugeLaw (lossExpiry palarm s) := by
  have timed : ∀ u (timer : Fcy → Option Time), GaugeLaw u →
      GaugeLaw (u.onFcy fun f => { f with ref := .lost, timer := timer f }) := fun _ _ law => law
  have counted : ∀ u, GaugeLaw u → GaugeLaw (raiseFault Causes.addReference (increase .referenceLosses u)) :=
    fun u law => law.of_same (by simp) (by simp)
  unfold lossExpiry
  split
  · exact counted _ (timed _ _ (servingPulse_gaugeLaw _ palarm h))
  · exact h

theorem regainExpiry_gaugeLaw {s : State} (h : GaugeLaw s) : GaugeLaw (regainExpiry s) := by
  unfold regainExpiry
  split <;> exact h

theorem lock_gaugeLaw (t : Time) (palarm : Bool) {s : State} (h : GaugeLaw s) : GaugeLaw (lock t palarm s) := by
  unfold lock
  simp only []
  split
  · exact servingPulse_gaugeLaw t palarm h
  · exact h

theorem lockedPulse_gaugeLaw (t : Time) (palarm : Bool) {s : State} (h : GaugeLaw s) :
    GaugeLaw (lockedPulse t palarm s) := by
  unfold lockedPulse
  split
  · exact servingPulse_gaugeLaw t palarm h
  · exact h

theorem countRegain_gaugeLaw (t : Time) (palarm : Bool) {s : State} (h : GaugeLaw s) :
    GaugeLaw (countRegain t palarm s) := by
  unfold countRegain
  split
  · split
    · exact h
    · exact lock_gaugeLaw t palarm h
  · exact h

theorem beginRegain_gaugeLaw (t : Time) {s : State} (h : GaugeLaw s) : GaugeLaw (beginRegain t s) := h

theorem referencePulse_gaugeLaw (t : Time) (palarm : Bool) {s : State} (h : GaugeLaw s) :
    GaugeLaw (referencePulse t palarm s) := by
  unfold referencePulse
  split
  · exact lock_gaugeLaw t palarm h
  · split
    · exact beginRegain_gaugeLaw t (lossExpiry_gaugeLaw palarm h)
    · exact lockedPulse_gaugeLaw t palarm h
  · exact beginRegain_gaugeLaw t h
  · split
    · exact beginRegain_gaugeLaw t (regainExpiry_gaugeLaw h)
    · exact countRegain_gaugeLaw t palarm h

theorem pulseEvent_gaugeLaw (e : PulseEvent) {s : State} (h : GaugeLaw s) : GaugeLaw (pulseEvent e s) := by
  cases e with
  | internal palarm => exact internalPulse_gaugeLaw palarm h
  | reference t palarm => exact referencePulse_gaugeLaw t palarm h
  | loss palarm => exact lossExpiry_gaugeLaw palarm h

/-! ### The composer (R11) -/

/-- The chart completed reports from the snapshot of the composition in flight. -/
theorem complete_chartsLaw {s : State} (law : ChartsLaw s.fcy) : ChartsLaw (complete s).fcy := by
  have ⟨inFlight, _, displayed⟩ := law
  unfold complete
  split
  · exact law
  · next c flight =>
    split
    · exact ⟨nofun, fun d same => Option.some.inj same ▸ chartOf_law (inFlight c flight), displayed⟩
    · exact law

/-- A composition whose work is stopped keeps its snapshot. -/
theorem spend_chartsLaw {s : State} (law : ChartsLaw s.fcy) : ChartsLaw (spend s).fcy := by
  have ⟨inFlight, completed, displayed⟩ := law
  unfold spend
  split
  · exact law
  · next c flight =>
    split
    · exact law
    · exact ⟨fun d same => Option.some.inj same ▸ inFlight c flight, completed, displayed⟩

/-! ### The law through an effect -/

/-- The composition of frame 1 has no gauge and no record before it. -/
theorem fcyReset_chartsLaw (t : Time) (rate : FrameRate) : ChartsLaw (Fcy.reset t rate) := by
  refine ⟨fun c flight => ?_, nofun, nofun⟩
  obtain rfl := Option.some.inj flight
  exact ⟨nofun, nofun⟩

theorem effect_chartsLaw {s t : State} (e : Effect s t) (h : GaugeLaw s) : ChartsLaw t.fcy := by
  obtain ⟨-, charts⟩ := gaugeLaw_iff.mp h
  cases e with
  | stands => exact charts
  | halted power _ =>
    obtain ⟨-, -, displayed⟩ := charts
    exact ⟨nofun, nofun, displayed⟩
  | released t straps => exact fcyReset_chartsLaw t _
  | acted running act =>
    cases act with
    | stands => exact charts
    | pulse e => exact (pulseEvent_gaugeLaw e h).2
    | regainExpiry => exact (regainExpiry_gaugeLaw h).2
    | complete => exact complete_chartsLaw charts
    | spend => exact spend_chartsLaw charts
    | report r _ =>
      obtain ⟨-, fcy, -⟩ := receiveReport_keeps r (setLink none s)
      exact fcy.symm ▸ charts
    | link l _ => exact charts
    | ingest c => exact (IngestLeaves.ingestCharacter c s).fcy.symm ▸ charts
    | symbol => exact charts
    | loader => exact (IngestLeaves.moveHead s).fcy.symm ▸ charts
    | request p r params palarm known =>
      obtain ⟨fcy, -⟩ := handler_keeps_cycle _ known p params (endFrame p (sampleAlarm palarm s))
      simp only [sendReply_keeps]
      exact fcy.symm ▸ charts
    | ports palarm receiver reply waiting => exact charts

/-- Settles O60: a step is one of the effects, each of which writes the store with lawful records alone and keeps the
ranges in the charts and in what the next completion reports from. -/
theorem stepKeepsTheGaugeLaw : Obligations.StepKeepsTheGaugeLaw := by
  intro s t h law
  obtain ⟨q, e⟩ := step_effect h
  obtain ⟨spans, -⟩ := gaugeLaw_iff.mp law
  exact gaugeLaw_iff.mpr ⟨(effect_fstWrite e).spans spans, effect_chartsLaw e law⟩

end Sys2Proof.Machine
end

section
/-! PROOFS. The cost of a chart: its parts at each level, and that none rises with the level (R126 to R131): O14. -/

namespace Sys2Proof.Machine

/-! ### No part rises with the level (R126 to R130) -/

theorem sumNat_eq_sum (l : List Nat) : sumNat l = l.sum := rfl

/-- The stride of a level divides that of the next (R129). -/
theorem strideAt_dvd_succ (p : Plan) (level : Nat) : strideAt p level ∣ strideAt p (level + 1) := by
  unfold strideAt
  split
  · exact Dvd.intro_left 2 rfl
  · exact dvd_rfl

/-- A coarser stride leaves no more arrow positions (R113). -/
theorem arrowCount_le_of_dvd (p : Plan) {s s' : Nat} (h : s ∣ s') : arrowCount p s' ≤ arrowCount p s := by
  have thinned : ∀ (inView : Nat → Bool) (n : Nat),
      ((List.range n).filter fun i => i % s' = 0 && inView i).length ≤
        ((List.range n).filter fun i => i % s = 0 && inView i).length := by
    refine fun inView n => (List.monotone_filter_right _ fun i kept => ?_).length_le
    simp only [Bool.and_eq_true, decide_eq_true_eq] at kept ⊢
    obtain ⟨multiple, seen⟩ := kept
    exact ⟨Nat.mod_eq_zero_of_dvd (h.trans (Nat.dvd_of_mod_eq_zero multiple)), seen⟩
  exact Nat.mul_le_mul (thinned _ 48) (thinned _ 32)

theorem windCost_succ_le (snap : Snapshot) (level : Nat) : windCost snap (level + 1) ≤ windCost snap level := by
  unfold windCost
  split
  · exact Nat.mul_le_mul_left 6 (arrowCount_le_of_dvd _ (strideAt_dvd_succ _ level))
  · exact Nat.le_refl 0

/-- A segment drawn at a level is drawn at every level below it (R128). -/
theorem coastSegments_succ_sublist (snap : Snapshot) (level : Nat) :
    (coastSegments snap (level + 1)).Sublist (coastSegments snap level) := by
  rw [coastSegments_eq snap _ _ rfl, coastSegments_eq snap _ _ rfl]
  refine List.monotone_filter_right _ fun g drawn => ?_
  simp only [Bool.and_eq_true, Bool.or_eq_true, decide_eq_true_eq] at drawn ⊢
  obtain ⟨⟨on, fine | major⟩, meets⟩ := drawn
  · exact ⟨⟨on, .inl (by omega)⟩, meets⟩
  · exact ⟨⟨on, .inr major⟩, meets⟩

/-- From two points on, the reduced point set is no larger than the whole (R128). -/
theorem pointsAt_succ_le (level : Nat) {n : Nat} (h : 2 ≤ n) : pointsAt (level + 1) n ≤ pointsAt level n := by
  unfold pointsAt
  split <;> split <;> omega

theorem mem_segments_of_mem_coastSegments {snap : Snapshot} {level : Nat} {g : Segment}
    (h : g ∈ coastSegments snap level) : g ∈ snap.segments := by
  rw [coastSegments_eq snap _ _ rfl] at h
  exact List.mem_of_mem_filter h

/-- Fewer segments are drawn at the next level, and each with no more points (R127, R128). -/
theorem coastPoints_succ_le {snap : Snapshot} (law : ∀ g ∈ snap.segments, OneSegmentLaw g) (level : Nat) :
    coastPoints snap (level + 1) ≤ coastPoints snap level := by
  have reduced : ∀ g ∈ coastSegments snap (level + 1),
      pointsAt (level + 1) g.points.length ≤ pointsAt level g.points.length := by
    intro g drawn
    obtain ⟨-, -, atLeastTwo, -⟩ := law g (mem_segments_of_mem_coastSegments drawn)
    exact pointsAt_succ_le level atLeastTwo
  calc coastPoints snap (level + 1)
      ≤ ((coastSegments snap (level + 1)).map fun g => pointsAt level g.points.length).sum := List.sum_le_sum reduced
    _ ≤ coastPoints snap level :=
        ((coastSegments_succ_sublist snap level).map _).sum_le_sum fun n _ => Nat.zero_le n

/-- The charge of a gauge slot stands up to level 2 and is 4 at level 3 (R130). -/
theorem gaugeCost_succ_le {level : Nat} (h : level < 3) (g : SnapGauge) :
    gaugeCost (level + 1) g ≤ gaugeCost level g := by
  unfold gaugeCost
  cases g.record with
  | none => exact Nat.le_refl 4
  | some st =>
    simp only [if_neg (Nat.ne_of_lt h)]
    split <;> split <;> omega

theorem tideCost_succ_le (snap : Snapshot) {level : Nat} (h : level < 3) :
    tideCost snap (level + 1) ≤ tideCost snap level := by
  unfold tideCost
  split
  · exact List.sum_le_sum fun g _ => gaugeCost_succ_le h g
  · exact Nat.le_refl 0

/-- The cost does not rise with the level: none of its parts does (R126). -/
theorem costAt_succ_le {snap : Snapshot} (law : ∀ g ∈ snap.segments, OneSegmentLaw g) {level : Nat} (h : level < 3) :
    costAt snap (level + 1) ≤ costAt snap level := by
  unfold costAt
  have coast := coastPoints_succ_le law level
  have wind := windCost_succ_le snap level
  have tide := tideCost_succ_le snap h
  omega

/-! ### The parts in the words of the claim -/

/-- The coast part, in the words of the claim: the class of a segment counts from level 2 on alone (R127, R128). -/
theorem coastPoints_eq (snap : Snapshot) (level : Nat) (p : Plan) (isPlan : p = snap.plan) :
    coastPoints snap level =
      if p.layers.coast = false then 0
      else if level < 2 then
        ((snap.segments.filter fun g => g.box.xmin < p.x0 + p.w && p.x0 ≤ g.box.xmax &&
          g.box.ymin < p.y0 + p.w * 9 / 16 && p.y0 ≤ g.box.ymax).map fun g => g.points.length).sum
      else
        ((snap.segments.filter fun g => g.cls ≠ .minor && g.box.xmin < p.x0 + p.w && p.x0 ≤ g.box.xmax &&
          g.box.ymin < p.y0 + p.w * 9 / 16 && p.y0 ≤ g.box.ymax).map fun g => g.points.length / 2 + 1).sum := by
  rw [coastPoints, sumNat_eq_sum, coastSegments_eq snap level p isPlan]
  cases p.layers.coast with
  | false => simp
  | true =>
    by_cases fine : level < 2
    · simp [pointsAt, fine]
    · simp [pointsAt, fine, Bool.and_assoc]

/-- The wind part, in the words of the claim (R113, R129). -/
theorem windCost_eq (snap : Snapshot) (level stride : Nat) (p : Plan) (isPlan : p = snap.plan)
    (isStride : stride = if level = 0 then p.stride else 2 * p.stride) :
    windCost snap level =
      if p.layers.wind = false then 0
      else 6 *
        (((List.range 48).countP fun i =>
           i % stride = 0 && p.x0 ≤ 680 + 1360 * i && 680 + 1360 * i < p.x0 + p.w) *
         ((List.range 32).countP fun j =>
           j % stride = 0 && p.y0 ≤ 1020 + 2040 * j && 1020 + 2040 * j < p.y0 + p.w * 9 / 16)) := by
  subst isPlan isStride
  rw [windCost, arrowCount_eq, List.countP_eq_length_filter, List.countP_eq_length_filter]
  cases snap.plan.layers.wind <;> rfl

/-- The charge of a gauge slot, in the words of the claim (R130). -/
theorem gaugeCost_eq (level : Nat) (g : SnapGauge) :
    gaugeCost level g =
      match g.record with
      | none => 4
      | some st =>
        if level = 3 then 4
        else 20 + 6 * st.constituents.length +
          (if g.gauge.curve then 25 * (1 + 3 * st.constituents.length) else 0) := by
  unfold gaugeCost
  cases g.record with
  | none => rfl
  | some st => cases g.gauge.curve <;> rfl

theorem tideCost_eq (snap : Snapshot) (level : Nat) :
    tideCost snap level =
      if snap.plan.layers.tide = false then 0 else (snap.gauges.map (gaugeCost level)).sum := by
  rw [tideCost, sumNat_eq_sum]
  cases snap.plan.layers.tide <;> rfl

/-- An id is highlighted when some segment of it is an AREA (R131). -/
theorem areaSegment_isSome (snap : Snapshot) (id : Nat) :
    (areaSegment snap id).isSome = snap.segments.any fun g => g.id = id && g.cls = .area :=
  List.isSome_find?

/-- As many areas are highlighted as ids of the list name one (R131). -/
theorem highlighted_length (snap : Snapshot) :
    (highlighted snap).length =
      if snap.plan.layers.areas = false then 0
      else snap.plan.areas.countP fun id => snap.segments.any fun g => g.id = id && g.cls = .area := by
  unfold highlighted
  cases snap.plan.layers.areas with
  | false => rfl
  | true => simp only [← areaSegment_isSome, List.length_filterMap_eq_countP, if_true, Bool.true_eq_false, if_false]

/-! ### What the cost reads -/

/-- Of a snapshot the cost reads the plan, the gauges and the segments alone (R126 to R131). -/
theorem costAt_congr {a b : Snapshot} (plan : a.plan = b.plan) (gauges : a.gauges = b.gauges)
    (segments : a.segments = b.segments) (level : Nat) : costAt a level = costAt b level := by
  have area : areaSegment a = areaSegment b := funext fun id => by rw [areaSegment, segments]; rfl
  simp only [costAt, coastPoints, coastSegments, windCost, tideCost, highlighted, area, plan, segments, gauges]

/-- So the cost of the composition that begins depends on the plans and the tide and coast store alone (R125). -/
theorem costAt_snapshotOf_congr {s v : State} (plans : v.pln = s.pln) (store : v.fst = s.fst) (level : Nat) :
    costAt (snapshotOf v) level = costAt (snapshotOf s) level :=
  costAt_congr (congrArg Pln.air plans) (by simp only [snapshotOf, plans, store]) (congrArg Fst.segments store) level

/-! ### The claim -/

/-- Settles O14: no part of the cost rises with the level, and each part is the one the claim names. -/
theorem costDoesNotRiseWithTheLevel : Obligations.CostDoesNotRiseWithTheLevel := by
  refine ⟨fun snap level law below => costAt_succ_le law below, ?_⟩
  intro snap level stride p _ isPlan isStride
  rw [costAt, coastPoints_eq snap level p isPlan, windCost_eq snap level stride p isPlan isStride, tideCost_eq,
    funext (gaugeCost_eq level), highlighted_length, ← isPlan, mul_ite, Nat.mul_zero]
  rfl

end Sys2Proof.Machine
end

section
/-! PROOFS. The level choice, the relaxation step and the composition start (R132 to R134, R137), and the hundredth
qualifying start at a SOLE part's pulse: O13, O16. -/

namespace Sys2Proof.Machine

/-! ### The level choice (R133) -/

/-- The fitting level is the smallest from the sticky level on whose cost is within the budget. -/
theorem fittingLevel_eq_some {snap : Snapshot} {budget sticky level : Nat} :
    fittingLevel snap budget sticky = some level ↔
      (sticky ≤ level ∧ level ≤ 3 ∧ costAt snap level ≤ budget) ∧
        ∀ l, sticky ≤ l → l < level → budget < costAt snap l := by
  rw [fittingLevel, List.head?_filter, show [0, 1, 2, 3] = List.range 4 from rfl, List.find?_range_eq_some]
  simp only [Bool.and_eq_true, decide_eq_true_eq, List.mem_range, Bool.not_eq_true', Bool.and_eq_false_imp,
    decide_eq_false_iff_not, not_le]
  constructor
  · rintro ⟨⟨above, fits⟩, isLevel, least⟩
    exact ⟨⟨above, by omega, fits⟩, fun l from_ below => least l below from_⟩
  · rintro ⟨⟨above, isLevel, fits⟩, least⟩
    exact ⟨⟨above, fits⟩, by omega, fun l below from_ => least l from_ below⟩

/-- No level fits when from the sticky level on each cost is beyond the budget. -/
theorem fittingLevel_eq_none {snap : Snapshot} {budget sticky : Nat} :
    fittingLevel snap budget sticky = none ↔ ∀ l, sticky ≤ l → l ≤ 3 → budget < costAt snap l := by
  rw [fittingLevel, List.head?_filter, show [0, 1, 2, 3] = List.range 4 from rfl, List.find?_range_eq_none]
  simp only [Bool.not_eq_true', Bool.and_eq_false_imp, decide_eq_true_eq, decide_eq_false_iff_not, not_le]
  exact ⟨fun h l from_ isLevel => h l (by omega) from_, fun h l isLevel from_ => h l from_ (by omega)⟩

/-- The chosen level is the smallest fitting one, or 3 in a late composition; it is late when the chosen level itself is
beyond the budget. -/
theorem chosenLevel_spec (snap : Snapshot) (budget : Nat) {sticky : Nat} (isLevel : sticky ≤ 3) :
    (sticky ≤ chosenLevel snap budget sticky ∧
      (costAt snap (chosenLevel snap budget sticky) ≤ budget ∨ chosenLevel snap budget sticky = 3) ∧
      ∀ l, sticky ≤ l → l < chosenLevel snap budget sticky → budget < costAt snap l) ∧
    (fittingLevel snap budget sticky).isNone = decide (budget < costAt snap (chosenLevel snap budget sticky)) := by
  unfold chosenLevel
  cases found : fittingLevel snap budget sticky with
  | none =>
    have beyond := fittingLevel_eq_none.mp found
    exact ⟨⟨isLevel, .inr rfl, fun l from_ below => beyond l from_ (Nat.le_of_lt below)⟩,
      (decide_eq_true (beyond 3 isLevel (Nat.le_refl 3))).symm⟩
  | some level =>
    obtain ⟨⟨above, -, fits⟩, least⟩ := fittingLevel_eq_some.mp found
    exact ⟨⟨above, .inl fits, least⟩, (decide_eq_false (Nat.not_lt.mpr fits)).symm⟩

/-- A sticky level that fits is chosen. -/
theorem chosenLevel_of_fits {snap : Snapshot} {budget sticky : Nat} (isLevel : sticky ≤ 3)
    (fits : costAt snap sticky ≤ budget) : chosenLevel snap budget sticky = sticky := by
  have found : fittingLevel snap budget sticky = some sticky :=
    fittingLevel_eq_some.mpr ⟨⟨Nat.le_refl _, isLevel, fits⟩, fun l from_ below => absurd from_ (Nat.not_le.mpr below)⟩
  rw [chosenLevel, found, Option.getD_some]

/-- After the level choice the sticky level is the chosen one, the flag tells whether even that is beyond the budget, the
relaxation count stands unless the level rose, and DEGRADED ENTRIES counts a rise. -/
theorem levelChoice_spec (snap : Snapshot) (budget : Nat) {s : State} (isLevel : s.cmp.sticky ≤ 3) :
    (levelChoice snap budget s).cmp =
      { sticky := chosenLevel snap budget s.cmp.sticky,
        relax := if s.cmp.sticky < chosenLevel snap budget s.cmp.sticky then 0 else s.cmp.relax,
        previousLate := decide (budget < costAt snap (chosenLevel snap budget s.cmp.sticky)) } ∧
    (levelChoice snap budget s).cnu.counters.degradedEntries =
      if s.cmp.sticky < chosenLevel snap budget s.cmp.sticky
      then min 65535 (s.cnu.counters.degradedEntries + 1) else s.cnu.counters.degradedEntries := by
  obtain ⟨⟨above, -⟩, late⟩ := chosenLevel_spec snap budget isLevel
  unfold levelChoice
  simp only [late]
  split
  · simp [PerCounter.set, PerCounter.get]
  · next stays =>
    rw [← Nat.le_antisymm above (Nat.not_lt.mp stays)]
    simp

/-! ### The relaxation step (R134) -/

theorem qualifies_iff {snap : Snapshot} {budget : Nat} {c : Cmp} :
    qualifies snap budget c = true ↔ costAt snap (c.sticky - 1) ≤ budget ∧ c.previousLate = false := by
  simp [qualifies]

theorem relaxationStep_of_zero {snap : Snapshot} {budget : Nat} {c : Cmp} (lowest : c.sticky = 0) :
    relaxationStep snap budget c = { c with relax := 0 } := by
  rw [relaxationStep, if_pos lowest]

theorem relaxationStep_of_qualifies {snap : Snapshot} {budget : Nat} {c : Cmp} (raised : c.sticky ≠ 0)
    (h : costAt snap (c.sticky - 1) ≤ budget ∧ c.previousLate = false) :
    relaxationStep snap budget c =
      if c.relax = 99 then { c with sticky := c.sticky - 1, relax := 0 } else { c with relax := c.relax + 1 } := by
  rw [relaxationStep, if_neg raised, if_pos (qualifies_iff.mpr h)]
  exact if_congr (by simp [Config.relaxationStarts]) rfl rfl

theorem relaxationStep_of_not_qualifies {snap : Snapshot} {budget : Nat} {c : Cmp} (raised : c.sticky ≠ 0)
    (h : ¬ (costAt snap (c.sticky - 1) ≤ budget ∧ c.previousLate = false)) :
    relaxationStep snap budget c = { c with relax := 0 } := by
  rw [relaxationStep, if_neg raised, if_neg (mt qualifies_iff.mp h)]

/-! ### The composition start (R132, R133, R137) -/

/-- A of the composition that begins now: the budget without the loader floor (R132). -/
def availableBudget (s : State) : Nat :=
  Config.budget s.fcy.rate - floorOf s.ing.halt s.ing.queue.length

/-- The composer after the relaxation step of the composition that begins now (R134). -/
def relaxedCmp (s : State) : Cmp := relaxationStep (snapshotOf s) (availableBudget s) s.cmp

/-- The level of the composition that begins now (R133). -/
def levelBegun (s : State) : Nat := chosenLevel (snapshotOf s) (availableBudget s) (relaxedCmp s).sticky

/-- The state after the relaxation step and the level choice of the composition that begins now. -/
def levelChosen (s : State) : State :=
  levelChoice (snapshotOf s) (availableBudget s) (s.onCmp (relaxationStep (snapshotOf s) (availableBudget s)))

/-- The composition start in those words: the level choice, and what follows from the level it leaves. -/
theorem beginComposition_eq (s : State) : beginComposition s =
    (((levelChosen s).onIng fun i => { i with
        grant := max (Config.budget s.fcy.rate - costAt (snapshotOf s) (levelChosen s).cmp.sticky)
          (floorOf s.ing.halt s.ing.queue.length) }).onOpr fun o =>
      { o with handed := handedOf (snapshotOf s) (levelChosen s).cmp.sticky }).onFcy fun f =>
        { f with inFlight := some {
            snap := snapshotOf s, level := (levelChosen s).cmp.sticky,
            cost := costAt (snapshotOf s) (levelChosen s).cmp.sticky, budget := availableBudget s,
            stopped := false } } := rfl

/-- After a composition start the composer and the counter are as the level choice leaves them, and the composition in
flight and the grant follow from the level. -/
theorem beginComposition_spec {s : State} (isLevel : (relaxedCmp s).sticky ≤ 3) :
    (beginComposition s).cmp =
      { sticky := levelBegun s,
        relax := if (relaxedCmp s).sticky < levelBegun s then 0 else (relaxedCmp s).relax,
        previousLate := decide (availableBudget s < costAt (snapshotOf s) (levelBegun s)) } ∧
    (beginComposition s).fcy.inFlight =
      some { snap := snapshotOf s, level := levelBegun s, cost := costAt (snapshotOf s) (levelBegun s),
             budget := availableBudget s, stopped := false } ∧
    (beginComposition s).ing.grant =
      max (Config.budget s.fcy.rate - costAt (snapshotOf s) (levelBegun s)) (floorOf s.ing.halt s.ing.queue.length) ∧
    (beginComposition s).cnu.counters.degradedEntries =
      if (relaxedCmp s).sticky < levelBegun s
      then min 65535 (s.cnu.counters.degradedEntries + 1) else s.cnu.counters.degradedEntries := by
  have chosen := levelChoice_spec (snapshotOf s) (availableBudget s)
    (s := s.onCmp (relaxationStep (snapshotOf s) (availableBudget s))) isLevel
  simp only [State.cmp_onCmp, State.cnu_onCmp] at chosen
  obtain ⟨cmp, counted⟩ : (levelChosen s).cmp = _ ∧ (levelChosen s).cnu.counters.degradedEntries = _ := chosen
  have level : (levelChosen s).cmp.sticky = levelBegun s := congrArg Cmp.sticky cmp
  rw [beginComposition_eq, level]
  simp only [State.cmp_onFcy, State.cmp_onOpr, State.cmp_onIng, State.cnu_onFcy, State.cnu_onOpr, State.cnu_onIng,
    State.fcy_onFcy, State.ing_onFcy, State.ing_onOpr, State.ing_onIng, true_and]
  exact ⟨cmp, counted⟩

/-- Settles O13: the start is `beginComposition_spec`, and the relaxation step its three cases. -/
theorem compositionStartRelaxesAndChoosesTheLevel : Obligations.CompositionStartRelaxesAndChoosesTheLevel := by
  refine ⟨?_, fun snap a c => ⟨relaxationStep_of_zero, relaxationStep_of_qualifies, relaxationStep_of_not_qualifies⟩⟩
  rintro s _ _ _ _ rfl rfl rfl rfl isLevel
  obtain ⟨cmp, inFlight, grant, counted⟩ := beginComposition_spec (s := s) isLevel
  obtain ⟨⟨above, fits, least⟩, -⟩ := chosenLevel_spec (snapshotOf s) (availableBudget s) isLevel
  exact ⟨levelBegun s, above, chosenLevel_le _ _ _, fits, least, inFlight, congrArg Cmp.sticky cmp,
    congrArg Cmp.previousLate cmp, grant, counted⟩

/-! ### The hundredth qualifying start (R134) -/

/-- At the hundredth qualifying start the level below fits, so the level choice does not raise the sticky level again. -/
theorem beginComposition_of_hundredth {s : State} (raised : 1 ≤ s.cmp.sticky) (isLevel : s.cmp.sticky ≤ 3)
    (count : s.cmp.relax = 99) (inTime : s.cmp.previousLate = false)
    (fits : costAt (snapshotOf s) (s.cmp.sticky - 1) ≤ availableBudget s) :
    (beginComposition s).cmp = { sticky := s.cmp.sticky - 1, relax := 0, previousLate := false } ∧
    (∃ c, (beginComposition s).fcy.inFlight = some c ∧ c.level = s.cmp.sticky - 1) ∧
    (beginComposition s).cnu.counters.degradedEntries = s.cnu.counters.degradedEntries := by
  have step : relaxedCmp s = { sticky := s.cmp.sticky - 1, relax := 0, previousLate := false } := by
    rw [relaxedCmp, relaxationStep_of_qualifies (by omega) ⟨fits, inTime⟩, if_pos count, inTime]
  have level : levelBegun s = s.cmp.sticky - 1 := by
    rw [levelBegun, step]
    exact chosenLevel_of_fits (by dsimp only; omega) fits
  obtain ⟨cmp, inFlight, -, counted⟩ := beginComposition_spec (s := s) (by rw [step]; dsimp only; omega)
  rw [step, level] at cmp counted
  rw [level] at inFlight
  refine ⟨?_, ⟨_, inFlight, rfl⟩, by simpa using counted⟩
  rw [cmp, decide_eq_false (Nat.not_lt.mpr fits)]
  simp

/-- With no take in the queue the take engine's passes do nothing (R77). -/
theorem applyTakes_of_empty {s : State} (empty : s.tke.queue = []) (n : Nat) : applyTakes s n = (s, n) := by
  simp [applyTakes, dueEntries, stepSweep, empty]

/-- The composition start of a SOLE part's pulse with no take waiting works in a state v that stands as s for all that the
composer reads, and the pulse leaves its part as it is. -/
theorem soleServingPulse_begins {s : State} (sole : s.opr.role = .sole) (empty : s.tke.queue = []) (t : Time)
    (palarm : Bool) : ∃ v : State,
      (v.pln = s.pln ∧ v.fst = s.fst ∧ v.cmp = s.cmp ∧ v.ing = s.ing ∧ v.fcy.rate = s.fcy.rate ∧
        v.cnu.counters.degradedEntries = s.cnu.counters.degradedEntries) ∧
      (servingPulse t palarm s).cmp = (beginComposition v).cmp ∧
      (servingPulse t palarm s).fcy = (beginComposition v).fcy ∧
      (servingPulse t palarm s).cnu.counters.degradedEntries =
        (beginComposition v).cnu.counters.degradedEntries := by
  obtain ⟨-, -, tke, pln, -⟩ := pairDone_of_sole sole t palarm
  have stands : applyTakes (pairDone t palarm s).1 (pairDone t palarm s).2 = pairDone t palarm s :=
    applyTakes_of_empty (by rw [tke, empty]) _
  refine ⟨fixLineMode (applyTakes (pairDone t palarm s).1 (pairDone t palarm s).2).1, ?_, ?_⟩
  · rw [stands]
    refine ⟨by simpa using pln, ?_⟩
    simp [pairDone, periodEnded, endOfPeriod_fcy]
  · simp [servingPulse, compositionStart, pairDone, periodEnded]

/-- The serving pulse of a SOLE part with no take waiting, at the hundredth qualifying start. -/
theorem soleServingPulse_of_hundredth {s : State} (sole : s.opr.role = .sole) (empty : s.tke.queue = [])
    (raised : 1 ≤ s.cmp.sticky) (isLevel : s.cmp.sticky ≤ 3) (count : s.cmp.relax = 99)
    (inTime : s.cmp.previousLate = false)
    (fits : costAt (snapshotOf s) (s.cmp.sticky - 1) ≤ availableBudget s) (t : Time) (palarm : Bool) :
    (servingPulse t palarm s).cmp = { sticky := s.cmp.sticky - 1, relax := 0, previousLate := false } ∧
    (∃ c, (servingPulse t palarm s).fcy.inFlight = some c ∧ c.level = s.cmp.sticky - 1) ∧
    (servingPulse t palarm s).cnu.counters.degradedEntries = s.cnu.counters.degradedEntries := by
  obtain ⟨v, ⟨pln, fst, cmp, ing, rate, counters⟩, cmpAfter, fcyAfter, countersAfter⟩ :=
    soleServingPulse_begins sole empty t palarm
  have budget : availableBudget v = availableBudget s := by rw [availableBudget, ing, rate]; rfl
  rw [← cmp] at raised isLevel count inTime fits
  rw [← costAt_snapshotOf_congr pln fst, ← budget] at fits
  rw [cmpAfter, fcyAfter, countersAfter, ← cmp, ← counters]
  exact beginComposition_of_hundredth raised isLevel count inTime fits

/-- RELAXATION has the effect of the pulse it carries when the sticky level falls by one in it (log 1). -/
theorem exec_relaxation {s : State} {e : PulseEvent} (running : s.power = .running)
    (falls : (pulseEvent e s).cmp.sticky + 1 = s.cmp.sticky) : exec (.relaxation e) s = .next (pulseEvent e s) := by
  have named : relaxed s (pulseEvent e s) = true := decide_eq_true falls
  simp only [exec, execRelaxation, whileRunning_running _ running, comingAbout, named, if_true]

/-- The internal pulse serves, with the timer set one nominal period on (R4). -/
theorem pulseEvent_internal {s : State} {t : Time} (timer : s.fcy.timer = some t) (palarm : Bool) :
    pulseEvent (.internal palarm) s =
      servingPulse t palarm (s.onFcy fun f => { f with timer := some (t + Config.nominal f.rate) }) := by
  simp only [pulseEvent, internalPulse, timer]

/-- Settles O16: the internal pulse serves, its composition start is the hundredth qualifying one, and the sticky level
falls. -/
theorem hundredthQualifyingStartRelaxes : Obligations.HundredthQualifyingStartRelaxes := by
  intro palarm s t running timer sole empty raised isLevel count inTime fits
  have pulse := pulseEvent_internal timer palarm
  obtain ⟨cmp, begun, uncounted⟩ :=
    soleServingPulse_of_hundredth (s := s.onFcy fun f => { f with timer := some (t + Config.nominal f.rate) })
      sole empty raised isLevel count inTime
      ((costAt_snapshotOf_congr rfl rfl _).le.trans (Nat.le_sub_of_add_le fits)) t palarm
  rw [← pulse] at cmp begun uncounted
  have falls : (pulseEvent (.internal palarm) s).cmp.sticky + 1 = s.cmp.sticky := by
    rw [cmp]
    exact Nat.sub_add_cancel raised
  exact ⟨_, exec_relaxation running falls, congrArg Cmp.sticky cmp, congrArg Cmp.relax cmp,
    congrArg Cmp.previousLate cmp, begun, uncounted⟩

end Sys2Proof.Machine
end

section
/-! PROOFS. The ingest unit: its operations said once, the receiver and the symbol output (R140 to R149): O21, O22 and
O24. -/

namespace Sys2Proof.Machine

/-! ### Symbols and flow control (R148, R149) -/

/-- A symbol made touches the symbol output alone (R149). -/
theorem makeSymbol_output (y : Symbol) (i : Ing) : ∃ sending waiting,
    makeSymbol y i = { i with sending := sending, waitingSymbol := waiting } := by
  unfold makeSymbol
  split
  · exact ⟨some y, i.waitingSymbol, rfl⟩
  · exact ⟨i.sending, some y, rfl⟩

theorem symbolIfEnabled_output (y : Symbol) (i : Ing) : ∃ sending waiting,
    symbolIfEnabled y i = { i with sending := sending, waitingSymbol := waiting } := by
  unfold symbolIfEnabled
  split
  · exact makeSymbol_output y i
  · exact ⟨i.sending, i.waitingSymbol, rfl⟩

/-- HOLD-OFF after an evaluation of flow control: asserted it stands above the resume level, released it is asserted from
the halt level on (R148). -/
def holdOffAfter (i : Ing) : Bool :=
  if i.holdOff then decide (i.resume < i.queue.length) else decide (i.halt ≤ i.queue.length)

/-- An evaluation of flow control writes HOLD-OFF and the symbol output alone (R148). -/
theorem flowControl_writes (i : Ing) : ∃ sending waiting,
    flowControl i = { i with holdOff := holdOffAfter i, sending := sending, waitingSymbol := waiting } := by
  obtain ⟨reception, gap, queue, overrun, halt, resume, inBand, holdOff, sending, waiting, grant, lastError⟩ := i
  cases holdOff with
  | false =>
    by_cases high : halt ≤ queue.length
    · simpa [flowControl, holdOffAfter, high] using symbolIfEnabled_output .pause _
    · exact ⟨sending, waiting, by simp [flowControl, holdOffAfter, high]⟩
  | true =>
    by_cases low : queue.length ≤ resume
    · simpa [flowControl, holdOffAfter, low, Nat.not_lt.mpr low] using symbolIfEnabled_output .continue_ _
    · exact ⟨sending, waiting, by simp [flowControl, holdOffAfter, low, Nat.lt_of_not_le low]⟩

/-- What an evaluation of flow control leaves of the receiver and the queue. -/
@[simp] theorem flowControl_keeps (i : Ing) : (flowControl i).reception = i.reception ∧ (flowControl i).gap = i.gap ∧
    (flowControl i).queue = i.queue ∧ (flowControl i).overrun = i.overrun := by
  obtain ⟨_, _, eq⟩ := flowControl_writes i
  rw [eq]
  exact ⟨rfl, rfl, rfl, rfl⟩

/-- Settles O24. -/
theorem symbolOutputSendsTheWaitingSymbol : Obligations.SymbolOutputSendsTheWaitingSymbol := by
  intro s running
  have ended : exec .symbolOutputDone s = .next (s.onIng finishSymbol) :=
    congrArg Host.Outcome.next (whileRunning_running _ running)
  refine ⟨fun y sent => ?_, fun idle => ?_, fun y i => ?_⟩
  · rw [ended]
    simp [State.onIng, finishSymbol, sent]
  · rw [ended]
    simp [State.onIng, finishSymbol, idle]
  · unfold makeSymbol
    cases i.sending <;> rfl

/-! ### The queue (R146, R147) -/

/-- A closed unit at the tail takes the pending overrun (R146). -/
@[simp] theorem enterQueue_fields (u : IngestUnit) (i : Ing) :
    (enterQueue u i).reception = i.reception ∧ (enterQueue u i).gap = i.gap ∧ (enterQueue u i).overrun = none ∧
    (enterQueue u i).queue = i.queue ++ [{ u with overrun := i.overrun }] := by
  simp [enterQueue]

/-- A closed unit enters a queue that has room. -/
theorem offerUnit_of_room {s : State} (room : s.ing.queue.length < 64) (u : IngestUnit) :
    offerUnit u s = s.onIng (enterQueue u) := if_pos room

/-- A closed unit is lost to a full queue, and counted (R147). -/
theorem offerUnit_of_full {s : State} (full : s.ing.queue.length = 64) (u : IngestUnit) :
    offerUnit u s = increase .overruns (s.onIng fun i => { i with overrun := moreLost i.overrun }) :=
  if_neg (by rw [full]; exact Nat.lt_irrefl 64)

/-- The receiver's return to HUNTING changes its two fields alone. -/
@[simp] theorem hunt_ing (s : State) : (hunt s).ing = { s.ing with reception := none, gap := 0 } := rfl

/-- A unit x has closed: the receiver hunts, and x stands at the tail of the queue with the overrun that was pending
(R146). -/
structure EnteredBy (x : IngestUnit) (i j : Ing) : Prop where
  reception : j.reception = none
  gap : j.gap = 0
  overrun : j.overrun = none
  queue : j.queue = i.queue ++ [{ x with overrun := i.overrun }]

/-- A unit that closes while the queue has room. -/
theorem offerUnit_enteredBy {s : State} (room : s.ing.queue.length < 64) (x : IngestUnit) :
    EnteredBy x s.ing (offerUnit x (hunt s)).ing := by
  rw [offerUnit_of_room (by exact room)]
  constructor <;> simp

/-- Its closing touches the ingest unit alone. -/
theorem offerUnit_alone {s : State} (room : s.ing.queue.length < 64) (x : IngestUnit) :
    offerUnit x (hunt s) = { s with ing := (offerUnit x (hunt s)).ing } := by
  rw [offerUnit_of_room (by exact room)]
  rfl

/-! ### The receiver (R140, R142 to R144) -/

theorem exec_ingestCharacter {s : State} (running : s.power = .running) (c : Character) :
    exec (.ingestCharacter c) s = .next (ingestCharacter c s) :=
  congrArg Host.Outcome.next (whileRunning_running _ running)

theorem ingestCharacter_hunting {s : State} (hunting : s.ing.reception = none) :
    ingestCharacter .bad s = s ∧ ∀ b, ingestCharacter (.good b) s =
      if b = 0xC3#8 then { s with ing := { s.ing with reception := some [], gap := 0 } } else s := by
  simp [ingestCharacter, hunting, State.onIng]

theorem ingestCharacter_bad {s : State} {bytes : List Byte} (receiving : s.ing.reception = some bytes) :
    ingestCharacter .bad s = offerUnit (markedUnit .framing bytes) (hunt s) := by
  simp only [ingestCharacter, receiving]

theorem ingestCharacter_good {s : State} {bytes : List Byte} (receiving : s.ing.reception = some bytes) (b : Byte) :
    ingestCharacter (.good b) s = takeBytes (bytes ++ [b]) s := by
  simp only [ingestCharacter, receiving]

/-- The bytes taken so far do not close the unit: the length is missing, or it is lawful and the last CRC byte is still to
come (R142, R143). -/
def Unfinished : List Byte → Prop
  | _ :: l :: rest => l.toNat ≤ 200 ∧ rest.length ≠ l.toNat + 2
  | _ => True

/-- Bytes that do not close the unit are kept. -/
theorem takeBytes_of_unfinished {bytes : List Byte} (unfinished : Unfinished bytes) (s : State) :
    takeBytes bytes s = { s with ing := { s.ing with reception := some bytes, gap := 0 } } := by
  unfold takeBytes
  split
  · rfl
  · rfl
  · obtain ⟨lawful, missing⟩ := unfinished
    rw [if_neg (Nat.not_lt.mpr lawful), if_neg missing]
    rfl

/-- The receiver's own fields are written afresh when it hunts again. -/
theorem hunt_onIng (bytes : List Byte) (s : State) :
    hunt (s.onIng fun i => { i with reception := some bytes, gap := 0 }) = hunt s := rfl

/-- A length above 200 closes the unit LENGTH with its type alone (R142). -/
theorem takeBytes_of_long {t l : Byte} (long : 200 < l.toNat) (rest : List Byte) (s : State) :
    takeBytes (t :: l :: rest) s =
      offerUnit { mark := .length, type_ := some t, length_ := none, payload := [], overrun := none } (hunt s) :=
  if_pos long

/-- The last CRC byte completes the unit (R143). -/
theorem takeBytes_of_complete {t l : Byte} {rest : List Byte} (lawful : l.toNat ≤ 200)
    (complete : rest.length = l.toNat + 2) (s : State) :
    takeBytes (t :: l :: rest) s = offerUnit (completeUnit (t :: l :: rest) l.toNat) (hunt s) :=
  (if_neg (Nat.not_lt.mpr lawful)).trans (if_pos complete)

/-- The bytes of the claim that do not close the unit. -/
theorem unfinished_append {bytes : List Byte} {b : Byte}
    (h : bytes = [] ∨ (∃ t, bytes = [t] ∧ b.toNat ≤ 200) ∨
      ∃ t l rest, bytes = t :: l :: rest ∧ l.toNat ≤ 200 ∧ rest.length < l.toNat + 1) :
    Unfinished (bytes ++ [b]) := by
  obtain rfl | ⟨t, rfl, lawful⟩ | ⟨t, l, rest, rfl, lawful, short⟩ := h
  · exact trivial
  · exact ⟨lawful, by simp⟩
  · refine ⟨lawful, ?_⟩
    show (rest ++ [b]).length ≠ _
    rw [List.length_append, List.length_singleton]
    omega

/-- Settles O21. -/
theorem ingestReceiverTakesCharacters : Obligations.IngestReceiverTakesCharacters := by
  intro s running
  simp only [exec_ingestCharacter running]
  refine ⟨fun hunting => ?_, fun bytes receiving => ⟨fun b more => ?_, ?_, fun room => ?_, fun full => ?_⟩⟩
  · obtain ⟨bad, good⟩ := ingestCharacter_hunting hunting
    exact ⟨congrArg _ bad, fun b => congrArg _ (good b)⟩
  · rw [ingestCharacter_good receiving, takeBytes_of_unfinished (unfinished_append more)]
  · rintro b t rfl long room
    have closed := offerUnit_enteredBy room
      { mark := .length, type_ := some t, length_ := none, payload := [], overrun := none }
    rw [ingestCharacter_good receiving]
    exact ⟨_, congrArg _ (takeBytes_of_long long [] s), closed.reception, closed.gap, closed.queue⟩
  · have closed := offerUnit_enteredBy room (markedUnit .framing bytes)
    exact ⟨_, congrArg _ (ingestCharacter_bad receiving), closed.reception, closed.gap, closed.overrun, closed.queue⟩
  · refine ⟨_, congrArg _ (ingestCharacter_bad receiving), ?_⟩
    rw [offerUnit_of_full (by exact full)]
    cases lost : s.ing.overrun <;> simp [moreLost, lost, PerCounter.set, PerCounter.get]

/-- The unit that type, length, payload and the CRC bytes lo and hi complete: good with the CRC of what went before, CHECK
with any other (R141, R143). -/
theorem completeUnit_framed {payload : List Byte} (short : payload.length ≤ 200) (t hi lo : Byte) :
    completeUnit (t :: BitVec.ofNat 8 payload.length :: (payload ++ [hi, lo])) payload.length =
      if crc16 (t :: BitVec.ofNat 8 payload.length :: payload) = hi ++ lo then
        { mark := .none, type_ := some t, length_ := some payload.length, payload := payload, overrun := none }
      else
        { mark := .check, type_ := some t, length_ := some payload.length, payload := [], overrun := none } := by
  have covered : (t :: BitVec.ofNat 8 payload.length :: (payload ++ [hi, lo])).take (payload.length + 2) =
      t :: BitVec.ofNat 8 payload.length :: payload := by simp
  have crc : le16 ((t :: BitVec.ofNat 8 payload.length :: (payload ++ [hi, lo])).getD (payload.length + 3) 0)
      ((t :: BitVec.ofNat 8 payload.length :: (payload ++ [hi, lo])).getD (payload.length + 2) 0) = hi ++ lo := by
    simp [le16]
  simp only [completeUnit, covered, crc]
  refine if_congr Iff.rfl rfl ?_
  simp [markedUnit, Nat.mod_eq_of_lt (show payload.length < 256 by omega)]

/-- Settles O22. -/
theorem framedUnitClosesGood : Obligations.FramedUnitClosesGood := by
  intro s t payload hi lo running short room receiving
  have length : (BitVec.ofNat 8 payload.length).toNat = payload.length := by simp; omega
  have taken : ingestCharacter (.good lo) s =
      offerUnit (completeUnit (t :: BitVec.ofNat 8 payload.length :: (payload ++ [hi, lo])) payload.length) (hunt s) := by
    rw [ingestCharacter_good receiving]
    have complete := takeBytes_of_complete (t := t) (l := BitVec.ofNat 8 payload.length) (rest := payload ++ [hi, lo])
      (by omega) (by simp; omega) s
    simpa [length] using complete
  have closed := offerUnit_enteredBy room
    (completeUnit (t :: BitVec.ofNat 8 payload.length :: (payload ++ [hi, lo])) payload.length)
  refine ⟨_, (exec_ingestCharacter running _).trans (congrArg _ taken), closed.reception, closed.gap, closed.overrun,
    offerUnit_alone room _, closed.queue.trans ?_⟩
  rw [completeUnit_framed short]
  split <;> rfl

end Sys2Proof.Machine
end

section
/-! PROOFS. The law of HOLD-OFF and the ranges of the ingest unit, kept by every step (R145 to R151): O57; and the pulse that
closes a stalled unit or discards a stalled report (R145, R163): O17. -/

namespace Sys2Proof.Machine

/-! ### The law in its two parts -/

/-- The ranges of the ingest unit: of the queue, the levels, the pending overrun, the gap count and the grant (R145 to R147,
R150, R151). -/
structure IngestRanges (i : Ing) : Prop where
  queue : i.queue.length ≤ 64
  haltLow : 8 ≤ i.halt
  haltHigh : i.halt ≤ 63
  resume : i.resume + 8 ≤ i.halt
  overrun : ∀ n, i.overrun = some n → 1 ≤ n ∧ n ≤ 255
  gap : i.gap ≤ 4
  hunting : i.reception = none → i.gap = 0
  grant : i.grant ≤ 24000

/-- HOLD-OFF stands above the resume level alone and is released below the halt level alone (R148). -/
structure HoldOffLaw (i : Ing) : Prop where
  asserted : i.holdOff = true → i.resume < i.queue.length
  released : i.holdOff = false → i.queue.length < i.halt

/-- The law is that of HOLD-OFF within the ranges. -/
theorem ingestLaw_iff {i : Ing} : IngestLaw i ↔ IngestRanges i ∧ HoldOffLaw i := by
  constructor
  · rintro ⟨queue, haltLow, haltHigh, resume, asserted, released, overrun, gap, hunting, grant⟩
    exact ⟨⟨queue, haltLow, haltHigh, resume, overrun, gap, hunting, grant⟩, ⟨asserted, released⟩⟩
  · rintro ⟨r, h⟩
    exact ⟨r.queue, r.haltLow, r.haltHigh, r.resume, h.asserted, h.released, r.overrun, r.gap, r.hunting, r.grant⟩

/-- The law does not read the symbol output. -/
theorem makeSymbol_ingestLaw {i : Ing} (h : IngestLaw i) (y : Symbol) : IngestLaw (makeSymbol y i) := by
  obtain ⟨_, _, eq⟩ := makeSymbol_output y i
  rw [eq]
  exact h

/-- An evaluation of flow control sets HOLD-OFF right, however it stood: the resume level lies below the halt level
(R148, R150). -/
theorem flowControl_ingestLaw {i : Ing} (r : IngestRanges i) : IngestLaw (flowControl i) := by
  obtain ⟨sending, waiting, eq⟩ := flowControl_writes i
  have below := r.resume
  rw [eq]
  refine ingestLaw_iff.mpr ⟨{ r with }, ⟨fun asserted => ?_, fun released => ?_⟩⟩
  · simp only [holdOffAfter] at asserted ⊢
    split at asserted
    · exact of_decide_eq_true asserted
    · have := of_decide_eq_true asserted
      omega
  · simp only [holdOffAfter] at released ⊢
    split at released
    · have := of_decide_eq_false released
      omega
    · exact Nat.lt_of_not_le (of_decide_eq_false released)

/-! ### The receiver (R140 to R147) -/

/-- One more lost unit keeps the pending overrun in its range (R147). -/
theorem moreLost_range {o : Option Nat} (h : ∀ n, o = some n → 1 ≤ n ∧ n ≤ 255) :
    ∀ n, moreLost o = some n → 1 ≤ n ∧ n ≤ 255 := by
  cases o with
  | none =>
    rintro n ⟨⟩
    decide
  | some k =>
    rintro n ⟨⟩
    omega

/-- A closed unit enters a queue that has room, or is lost to a full one (R146, R147). -/
theorem offerUnit_ing (u : IngestUnit) (s : State) : (offerUnit u s).ing =
    if s.ing.queue.length < 64 then enterQueue u s.ing else { s.ing with overrun := moreLost s.ing.overrun } := by
  unfold offerUnit
  by_cases room : s.ing.queue.length < 64 <;> simp [room, Config.queueSize]

/-- The receiver hunts again. -/
theorem IngestRanges.hunt {i : Ing} (r : IngestRanges i) : IngestRanges { i with reception := none, gap := 0 } :=
  { r with gap := Nat.zero_le 4, hunting := fun _ => rfl }

/-- A unit closes (R146, R147). -/
theorem offerUnit_ingestLaw {s : State} (law : IngestLaw s.ing) (u : IngestUnit) :
    IngestLaw (offerUnit u (hunt s)).ing := by
  obtain ⟨ranges, held⟩ := ingestLaw_iff.mp law
  rw [offerUnit_ing, hunt_ing]
  split
  · next room =>
    refine flowControl_ingestLaw { ranges.hunt with queue := ?_, overrun := nofun }
    rw [List.length_append, List.length_singleton]
    exact room
  · exact ingestLaw_iff.mpr
      ⟨{ ranges.hunt with overrun := moreLost_range ranges.overrun }, ⟨held.asserted, held.released⟩⟩

/-- The receiver keeps a byte. -/
theorem receiving_ingestLaw {i : Ing} (law : IngestLaw i) (bytes : List Byte) :
    IngestLaw { i with reception := some bytes, gap := 0 } := by
  obtain ⟨ranges, held⟩ := ingestLaw_iff.mp law
  exact ingestLaw_iff.mpr
    ⟨{ ranges with gap := Nat.zero_le 4, hunting := nofun }, ⟨held.asserted, held.released⟩⟩

theorem ingestCharacter_ingestLaw {s : State} (law : IngestLaw s.ing) (c : Character) :
    IngestLaw (ingestCharacter c s).ing := by
  unfold ingestCharacter
  split
  · split
    · exact receiving_ingestLaw law []
    · exact law
  · exact law
  · exact offerUnit_ingestLaw law _
  · next bytes b _ =>
    have taken := receiving_ingestLaw law (bytes ++ [b])
    unfold takeBytes
    split
    · exact taken
    · exact taken
    · split
      · exact offerUnit_ingestLaw taken _
      · split
        · exact offerUnit_ingestLaw taken _
        · exact taken

/-- The gap count of a pulse rises to 4 at most (R145). -/
theorem gapPulse_ingestLaw {s : State} (law : IngestLaw s.ing) : IngestLaw (gapPulse s).ing := by
  unfold gapPulse
  split
  · exact law
  · next receiving =>
    split
    · exact offerUnit_ingestLaw law _
    · next early =>
      obtain ⟨ranges, held⟩ := ingestLaw_iff.mp law
      have low := ranges.gap
      refine ingestLaw_iff.mpr ⟨{ ranges with gap := ?_, hunting := fun hunting => ?_ }, ⟨held.asserted, held.released⟩⟩
      · show s.ing.gap + 1 ≤ 4
        omega
      · cases receiving.symm.trans hunting

/-! ### The loader (R151 to R154) -/

/-- Of the ingest unit the last loader error alone is written. -/
def OnlyLastError (s t : State) : Prop := ∃ e, t.ing = { s.ing with lastError := e }

namespace OnlyLastError

theorem of_eq {s t : State} (same : t.ing = s.ing) : OnlyLastError s t := ⟨s.ing.lastError, same⟩

theorem loaderError {s t : State} (h : OnlyLastError s t) (k : LoaderErrorKind) (type_ : Byte) (runId : Word16)
    (station : Nat) : OnlyLastError s (loaderError k type_ runId station t) := by
  obtain ⟨e, eq⟩ := h
  refine ⟨some ⟨k, type_, runId, station, sinceRead e, true⟩, ?_⟩
  simp only [Machine.loaderError, increase_keeps, State.ing_onIng, eq]

theorem afterWind {s : State} {r : LoaderOutcome × State} (same : r.2.ing = s.ing) (type_ : Byte) (runId : Word16) :
    OnlyLastError s (afterWind type_ runId r) := by
  unfold Machine.afterWind
  split
  · exact .of_eq same
  · exact (of_eq same).loaderError _ _ _ _

theorem afterTide {s : State} {r : LoaderOutcome × State} (same : r.2.ing = s.ing) (station : Nat) :
    OnlyLastError s (afterTide station r) := by
  unfold Machine.afterTide
  split
  · exact .of_eq same
  · exact (of_eq same).loaderError _ _ _ _

theorem ingestLaw {s t : State} (h : OnlyLastError s t) (law : IngestLaw s.ing) : IngestLaw t.ing := by
  obtain ⟨e, eq⟩ := h
  rw [eq]
  exact law

end OnlyLastError

/-- The stores' acts on a unit leave the ingest unit. -/
theorem loadRunEnd_ing (id : Word16) (sent : Nat) (s : State) : (loadRunEnd id sent s).2.ing = s.ing := by
  unfold loadRunEnd
  split <;> simp

theorem loadTideStation_ing (c : CarriedStation) (s : State) : (loadTideStation c s).2.ing = s.ing := by
  unfold loadTideStation
  split
  · rfl
  · split <;> rfl

/-- A good unit writes the loader's record of the ingest unit at most (R153, R154). -/
theorem loadGood_onlyLastError (type_ : Byte) (payload : List Byte) (s : State) :
    OnlyLastError s (loadGood type_ payload s) := by
  have failed : ∀ k b id n, OnlyLastError s (loaderError k b id n s) := (OnlyLastError.of_eq rfl).loaderError
  unfold loadGood
  split
  · unfold loadRunStart
    split
    · exact .afterWind (by rfl) _ _
    · exact failed _ _ _ _
  split
  · unfold loadWindRow
    split
    · split
      · exact .afterWind (by rfl) _ _
      · exact failed _ _ _ _
    · exact failed _ _ _ _
  split
  · unfold loadFrameEnd
    split
    · exact .afterWind (by rfl) _ _
    · exact failed _ _ _ _
  split
  · unfold loadRunEndUnit
    split
    · exact .afterWind (loadRunEnd_ing _ _ s) _ _
    · exact failed _ _ _ _
  split
  · unfold loadStationUnit
    split
    · exact failed _ _ _ _
    · exact .afterTide (loadTideStation_ing _ s) _
  · exact failed _ _ _ _

/-- A loader move takes the head at its cost (R148, R151). -/
theorem moveHead_ingestLaw {s : State} (law : IngestLaw s.ing) : IngestLaw (moveHead s).ing := by
  unfold moveHead
  split
  · exact law
  next u rest queued =>
  split
  · obtain ⟨ranges, -⟩ := ingestLaw_iff.mp law
    have filled := ranges.queue
    have granted := ranges.grant
    have taken : IngestLaw (flowControl { s.ing with queue := rest, grant := s.ing.grant - moveCost u }) := by
      refine flowControl_ingestLaw { ranges with queue := ?_, grant := Nat.le_trans (Nat.sub_le _ _) granted }
      rw [queued, List.length_cons] at filled
      exact Nat.le_of_succ_le filled
    unfold dealWith
    split
    · simpa using taken
    · exact (loadGood_onlyLastError _ _ (s.onIng _)).ingestLaw taken
  · exact law

/-! ### The requests (R150, R156 to R158) -/

/-- SET INGEST LEVELS stores levels within their clamps (R150). -/
theorem setLevels_ingestLaw {i : Ing} (law : IngestLaw i) (halt resume : Nat) (enable : Bool) :
    IngestLaw (setLevels halt resume enable i) := by
  obtain ⟨ranges, -⟩ := ingestLaw_iff.mp law
  have evaluated : IngestLaw (flowControl { i with
      halt := clampNat 8 63 halt, resume := clampNat 0 (clampNat 8 63 halt - 8) resume, inBand := enable }) := by
    have stored := clampNat_eq_min_max (lo := 8) (hi := 63) (by decide) halt
    have lower := clampNat_eq_min_max (Nat.zero_le (clampNat 8 63 halt - 8)) resume
    refine flowControl_ingestLaw { ranges with haltLow := ?_, haltHigh := ?_, resume := ?_ } <;> dsimp only <;> omega
  unfold setLevels
  simp only []
  split
  · exact makeSymbol_ingestLaw evaluated _
  · exact evaluated

/-- The emptied unit: nothing is queued or in reception, so HOLD-OFF is released (R157). -/
theorem resetIngest_ingestLaw {i : Ing} (law : IngestLaw i) : IngestLaw (resetIngest i) := by
  obtain ⟨ranges, -⟩ := ingestLaw_iff.mp law
  have emptied : IngestLaw { i with queue := [], reception := none, gap := 0, overrun := none, holdOff := false } :=
    ingestLaw_iff.mpr
      ⟨{ ranges.hunt with queue := Nat.zero_le 64, overrun := nofun },
        ⟨nofun, fun _ => Nat.lt_of_lt_of_le (Nat.zero_lt_succ 7) ranges.haltLow⟩⟩
  unfold resetIngest
  simp only []
  split
  · obtain ⟨_, _, eq⟩ := symbolIfEnabled_output .continue_
      { i with queue := [], reception := none, gap := 0, overrun := none, holdOff := false }
    rw [eq]
    exact emptied
  · next released =>
    rw [Bool.not_eq_true] at released
    rw [← released] at emptied
    exact emptied

theorem handler_ingestLaw : ∀ h ∈ handlers, ∀ (p : Port) (params : List Byte) {s : State}, IngestLaw s.ing →
    IngestLaw (h p params s).state.ing := by
  have status : ∀ (p : Port) (params : List Byte) {s : State}, IngestLaw s.ing →
      IngestLaw (reqReadIngestStatus p params s).state.ing := by
    intro p params s law
    unfold reqReadIngestStatus
    split <;> exact law
  have levels : ∀ (p : Port) (params : List Byte) {s : State}, IngestLaw s.ing →
      IngestLaw (reqSetIngestLevels p params s).state.ing := by
    intro p params s law
    unfold reqSetIngestLevels
    split
    · exact setLevels_ingestLaw law _ _ _
    · exact law
  have reset : ∀ (p : Port) (params : List Byte) {s : State}, IngestLaw s.ing →
      IngestLaw (reqIngestReset p params s).state.ing := by
    intro p params s law
    unfold reqIngestReset
    split
    · exact resetIngest_ingestLaw law
    · exact law
  have restart : ∀ (p : Port) (params : List Byte) {s : State}, IngestLaw s.ing →
      IngestLaw (reqRestart p params s).state.ing := by
    intro p params s law
    unfold reqRestart
    split
    · split
      · exact law
      · exact resetIngest_ingestLaw law
    · exact law
  simp +contextual [handlers, status, levels, reset, restart]

/-! ### The pulse (R145, R151) -/

/-- The grant of a composition start is within the frame budget (R1, R137). -/
theorem beginComposition_grant (s : State) : (beginComposition s).ing.grant ≤ 24000 := by
  have budget : Config.budget s.fcy.rate ≤ 24000 := by cases s.fcy.rate <;> decide
  have floor : floorOf s.ing.halt s.ing.queue.length ≤ 24000 := by
    unfold floorOf
    split <;> decide
  rw [beginComposition_eq]
  exact Nat.max_le.mpr ⟨Nat.le_trans (Nat.sub_le _ _) budget, floor⟩

/-- A composition start writes the grant alone of the ingest unit (R137). -/
theorem beginComposition_ing (s : State) :
    (beginComposition s).ing = { s.ing with grant := (beginComposition s).ing.grant } := by
  rw [beginComposition_eq]
  simp [levelChosen]

/-- A serving pulse on the ingest unit: the composition start writes the grant, and the gap count of the unit so left is
taken (R137, R145). -/
theorem servingPulse_ing (t : Time) (palarm : Bool) (s : State) : ∃ v grant, grant ≤ 24000 ∧
    v.ing = { s.ing with grant := grant } ∧ (servingPulse t palarm s).ing = (gapPulse v).ing := by
  let r := applyTakes (pairDone t palarm s).1 (pairDone t palarm s).2
  have before : (fixLineMode r.1).ing = s.ing := by simp [r, pairDone, periodEnded]
  have after : ∀ n u, (setTsCode n u).ing = u.ing := by simp
  refine ⟨setTsCode r.2 (beginComposition (fixLineMode r.1)), _, beginComposition_grant (fixLineMode r.1), ?_, ?_⟩
  · rw [after, beginComposition_ing, before]
  · simp [servingPulse, compositionStart, pairDone, periodEnded, r]

theorem servingPulse_ingestLaw (t : Time) (palarm : Bool) {s : State} (law : IngestLaw s.ing) :
    IngestLaw (servingPulse t palarm s).ing := by
  obtain ⟨v, grant, within, granted, pulsed⟩ := servingPulse_ing t palarm s
  obtain ⟨ranges, held⟩ := ingestLaw_iff.mp law
  rw [pulsed]
  refine gapPulse_ingestLaw ?_
  rw [granted]
  exact ingestLaw_iff.mpr ⟨{ ranges with grant := within }, ⟨held.asserted, held.released⟩⟩

/-! ### The law through an effect -/

/-- A report of the partner leaves the ingest unit (R163). -/
theorem receiveReport_ing (r : Report) (s : State) : (receiveReport r s).ing = s.ing := by
  have acted : ∀ u : State, (actOnSwapWord r u).ing = u.ing := by
    intro u
    unfold actOnSwapWord receiveOffer receiveRequest receiveRelease
    repeat' split
    all_goals simp
  have noted : (noteMain r s).ing = s.ing := by
    unfold noteMain
    split <;> simp
  unfold receiveReport
  simp only []
  split
  · simp [acted, takeInHand, noted]
  · exact noted

theorem effect_ingestLaw {s t : State} (e : Effect s t) (law : IngestLaw s.ing) : IngestLaw t.ing := by
  cases e with
  | stands => exact law
  | halted power _ => exact law
  | released t straps => exact ingReset_ingestLaw _
  | acted running act =>
    cases act with
    | stands => exact law
    | pulse e =>
      exact pulseEvent_induct (P := fun s => IngestLaw s.ing) (fun _ _ h => h)
        (fun t palarm _ h => servingPulse_ingestLaw t palarm h) (fun c s h => by simpa using h)
        (fun add s h => by simpa using h) e law
    | regainExpiry => obtain ⟨f, eq⟩ := regainExpiry_fcy s; rw [eq]; exact law
    | complete => obtain ⟨_, _, eq⟩ := complete_fcy s; rw [eq]; exact law
    | spend => obtain ⟨_, eq⟩ := spend_fcy s; rw [eq]; exact law
    | report r _ => rw [receiveReport_ing]; exact law
    | link l _ => exact law
    | ingest c => exact ingestCharacter_ingestLaw law c
    | symbol =>
      show IngestLaw (finishSymbol s.ing)
      unfold finishSymbol
      split <;> exact law
    | loader => exact moveHead_ingestLaw law
    | request p r params palarm known =>
      simp only [sendReply_keeps]
      exact handler_ingestLaw _ known p params law
    | ports palarm receiver reply waiting => exact law

/-- Settles O57: a step is one of the effects, and each effect keeps the law. -/
theorem stepKeepsTheIngestLaw : Obligations.StepKeepsTheIngestLaw := by
  intro s t h law
  obtain ⟨q, e⟩ := step_effect h
  exact effect_ingestLaw e law

/-! ### What comes about inside a pulse (R145, R163) -/

/-- A unit whose gap count stands at 4 closes STALE at the pulse (R145). -/
theorem gapPulse_of_stale {s : State} {bytes : List Byte} (receiving : s.ing.reception = some bytes)
    (gap : s.ing.gap = 4) : gapPulse s = offerUnit (markedUnit .stale bytes) (hunt s) := by
  simp only [gapPulse, receiving, gap, if_true]

/-- The pulse discards a report in reception that one pulse has passed over (R163). -/
theorem servingPulse_discards {s : State} {l : LinkReception} (receiving : s.opr.link = some l) (passed : l.pulses = 1)
    (t : Time) (palarm : Bool) : (servingPulse t palarm s).opr.link = none := by
  have discarded : ∀ u : State, u.opr.link = some l → (linkPulse u).opr.link = none := by
    intro u same
    simp [linkPulse, same, passed]
  simp only [servingPulse, closePeriod_fields]
  refine discarded _ ?_
  simpa [compositionStart] using receiving

/-- The pulse closes the unit in reception STALE into a queue with room. -/
theorem servingPulse_enteredBy {s : State} {bytes : List Byte} (receiving : s.ing.reception = some bytes)
    (gap : s.ing.gap = 4) (room : s.ing.queue.length < 64) (t : Time) (palarm : Bool) :
    EnteredBy (markedUnit .stale bytes) s.ing (servingPulse t palarm s).ing := by
  obtain ⟨v, grant, -, granted, pulsed⟩ := servingPulse_ing t palarm s
  have closed := offerUnit_enteredBy (s := v) (by rw [granted]; exact room) (markedUnit .stale bytes)
  rw [← gapPulse_of_stale (by rw [granted]; exact receiving) (by rw [granted]; exact gap), ← pulsed, granted] at closed
  exact ⟨closed.reception, closed.gap, closed.overrun, closed.queue⟩

/-- What comes about in a pulse has that pulse's effect (log 1). -/
theorem whileRunning_comingAbout {named : State → State → Bool} {e : PulseEvent} {s : State}
    (running : s.power = .running) (comes : named s (pulseEvent e s) = true) :
    whileRunning (comingAbout named e) s = pulseEvent e s := by
  rw [whileRunning_running _ running, comingAbout, if_pos comes]

/-- Settles O17: the serving pulse closes the unit, or discards the report, and so is the pulse that the command names. -/
theorem staleUnitsAndReportsAreDiscarded : Obligations.StaleUnitsAndReportsAreDiscarded := by
  refine ⟨fun palarm s t bytes running timer receiving gap room => ?_,
    fun palarm s t l running timer _ receiving passed => ?_⟩
  · have pulse := pulseEvent_internal timer palarm
    have closed := servingPulse_enteredBy (s := s.onFcy fun f => { f with timer := some (t + Config.nominal f.rate) })
      receiving gap room t palarm
    rw [← pulse] at closed
    have named : wentStale s (pulseEvent (.internal palarm) s) = true := by
      simp [wentStale, receiving, gap, closed.reception]
    refine ⟨_, congrArg Host.Outcome.next (whileRunning_comingAbout running named), closed.reception, closed.gap,
      closed.overrun, closed.queue, pulseEvent_fst _ s, ?_⟩
    rw [pulse]
    exact (servingPulse_settings t palarm _).2.2.2
  · have pulse := pulseEvent_internal timer palarm
    have discarded := servingPulse_discards (s := s.onFcy fun f => { f with timer := some (t + Config.nominal f.rate) })
      receiving passed t palarm
    rw [← pulse] at discarded
    have named : reportTimedOut s (pulseEvent (.internal palarm) s) = true := by
      simp [reportTimedOut, receiving, discarded]
    exact ⟨_, congrArg Host.Outcome.next (whileRunning_comingAbout running named), discarded, pulseEvent_fst _ s⟩

end Sys2Proof.Machine
end

section
/-! PROOFS. READ INGEST STATUS, SET INGEST LEVELS and INGEST RESET (R150, R156, R157): O44. -/

namespace Sys2Proof.Machine

/-! ### READ INGEST STATUS (R156) -/

/-- Six flags as a byte. -/
theorem flagByte_six (a b c d e f : Bool) : flagByte [a, b, c, d, e, f] =
    BitVec.ofNat 8 ((if a then 1 else 0) + (if b then 2 else 0) + (if c then 4 else 0) + (if d then 8 else 0) +
      (if e then 16 else 0) + if f then 32 else 0) := by
  revert a b c d e f
  decide

/-- Byte 3 of the reading: the six flags of the ingest unit. -/
def statusFlags (s : State) : Byte :=
  flagByte [s.ing.holdOff, s.ing.inBand, errorAnywhere s, s.ing.reception.isSome, s.ing.overrun.isSome,
    loaderErrorUnread s]

theorem statusFlags_eq (s : State) : statusFlags s =
    BitVec.ofNat 8 ((if s.ing.holdOff then 1 else 0) + (if s.ing.inBand then 2 else 0) +
      (if ∃ x ∈ s.ing.queue, x.mark ≠ .none then 4 else 0) + (if s.ing.reception.isSome then 8 else 0) +
      (if s.ing.overrun.isSome then 16 else 0) +
      if s.ing.lastError.any fun e => e.unread then 32 else 0) := by
  have marked : errorAnywhere s = true ↔ ∃ x ∈ s.ing.queue, x.mark ≠ .none := by simp [errorAnywhere]
  have unread : loaderErrorUnread s = s.ing.lastError.any fun e => e.unread := by
    unfold loaderErrorUnread
    cases s.ing.lastError <;> rfl
  simp only [statusFlags, flagByte_six, marked, unread]

/-- The layout of the reading: the head entry takes three bytes and the last loader error six, whether there is one or
not. -/
theorem ingestStatus_layout (s : State) : (ingestStatus s).length = 16 ∧
    (ingestStatus s).take 3 = [byte s.ing.queue.length, byte s.ing.halt, byte s.ing.resume] ∧
    (ingestStatus s).getD 3 0#8 = statusFlags s ∧
    ((ingestStatus s).drop 4).take 5 = headBytes s.ing.queue ++ nat16 s.ing.grant ∧
    ((ingestStatus s).drop 9).take 6 = loaderErrorBytes s.ing.lastError ∧
    (ingestStatus s).getD 15 0#8 = byte (s.ing.overrun.getD 0) := by
  simp only [ingestStatus]
  cases s.ing.queue <;> cases s.ing.lastError <;> exact ⟨rfl, rfl, rfl, rfl, rfl, rfl⟩

/-! ### SET INGEST LEVELS (R150) -/

/-- The levels are stored with their clamps, flow control is evaluated, and the symbol that matches HOLD-OFF is made when
the enable is turned on (R150; log 22). -/
theorem setLevels_eq (halt resume : Nat) (enable : Bool) {i stored : Ing} {h r : Nat} (isHalt : h = min 63 (max 8 halt))
    (isResume : r = min (h - 8) resume)
    (isStored : stored = flowEvaluated { i with halt := h, resume := r, inBand := enable }) :
    setLevels halt resume enable i = if enable = true ∧ i.inBand = false then
      symbolMade (if stored.holdOff then .pause else .continue_) stored else stored := by
  subst isStored isResume isHalt
  have high : clampNat 8 63 halt = min 63 (max 8 halt) := clampNat_eq_min_max (by decide) halt
  have low : clampNat 0 (min 63 (max 8 halt) - 8) resume = min (min 63 (max 8 halt) - 8) resume := by
    rw [clampNat_eq_min_max (Nat.zero_le _), Nat.zero_max]
  simp [setLevels, high, low, flowControl_eq, makeSymbol_eq]

/-- A symbol made leaves the levels and the enable. -/
theorem makeSymbol_settings (y : Symbol) (i : Ing) : (makeSymbol y i).halt = i.halt ∧
    (makeSymbol y i).resume = i.resume ∧ (makeSymbol y i).inBand = i.inBand := by
  obtain ⟨_, _, eq⟩ := makeSymbol_output y i
  rw [eq]
  exact ⟨rfl, rfl, rfl⟩

/-- What is stored of the levels and the enable is what has been clamped. -/
theorem setLevels_settings (halt resume : Nat) (enable : Bool) {i : Ing} {h r : Nat} (isHalt : h = min 63 (max 8 halt))
    (isResume : r = min (h - 8) resume) : (setLevels halt resume enable i).halt = h ∧
    (setLevels halt resume enable i).resume = r ∧ (setLevels halt resume enable i).inBand = enable := by
  rw [setLevels_eq halt resume enable isHalt isResume rfl]
  simp only [← flowControl_eq, ← makeSymbol_eq]
  split <;> simp [makeSymbol_settings, flowControl_settings]

/-- The rule takes three bytes and no other number of them. -/
theorem reqSetIngestLevels_refused {params : List Byte} (wrong : params.length ≠ 3) (p : Port) (s : State) :
    reqSetIngestLevels p params s = refuse .range s := by
  unfold reqSetIngestLevels
  split
  · exact absurd rfl wrong
  · rfl

/-! ### INGEST RESET (R157) -/

/-- The queue, the unit in reception, the pending overrun and HOLD-OFF go, with CONTINUE where HOLD-OFF was asserted and
in-band symbols are enabled. -/
theorem resetIngest_eq {i j : Ing}
    (emptied : j = { i with queue := [], reception := none, gap := 0, overrun := none, holdOff := false }) :
    resetIngest i = if i.holdOff = true ∧ i.inBand = true then symbolMade .continue_ j else j := by
  subst emptied
  unfold resetIngest symbolIfEnabled
  obtain ⟨reception, gap, queue, overrun, halt, resume, inBand, holdOff, sending, waiting, grant, lastError⟩ := i
  cases holdOff with
  | false => simp
  | true =>
    cases inBand with
    | false => simp
    | true => simp [makeSymbol_eq]

/-- Settles O44. -/
theorem ingestIsReadSetAndReset : Obligations.IngestIsReadSetAndReset := by
  intro p params s ready
  refine ⟨fun given => ?_, fun none_given => ⟨?_, ?_⟩, fun wrong => ?_, ?_⟩
  · exact ⟨next_of_parameters ready given fun _ _ _ => rfl, next_of_parameters ready given fun _ _ _ => rfl⟩
  · subst none_given
    obtain ⟨length, levels, flags, head, error, overrun⟩ := ingestStatus_layout s
    refine ⟨ingestStatus s, next_of_done ready rfl, length, levels, flags.trans (statusFlags_eq s), head.trans ?_,
      error.trans ?_, overrun⟩
    · cases s.ing.queue <;> rfl
    · cases s.ing.lastError <;> rfl
  · rintro i rfl
    subst none_given
    refine next_of_done ready ?_
    rw [← resetIngest_eq rfl]
    rfl
  · exact next_of_refused ready (reqSetIngestLevels_refused wrong p _)
  · rintro halt resume flags rfl h r stored i isHalt isResume isStored isAfter
    have levels := setLevels_eq halt.toNat resume.toNat (flags.getLsbD 0) isHalt isResume isStored
    obtain ⟨storedHalt, storedResume, storedEnable⟩ :=
      setLevels_settings (i := s.ing) halt.toNat resume.toNat (flags.getLsbD 0) isHalt isResume
    rw [← isAfter] at levels
    rw [levels] at storedHalt storedResume storedEnable
    refine next_of_done ready ?_
    have answer : [byte i.halt, byte i.resume, flagByte [i.inBand, i.holdOff]] = [BitVec.ofNat 8 h, BitVec.ofNat 8 r,
        BitVec.ofNat 8 ((if flags.getLsbD 0 then 1 else 0) + if i.holdOff then 2 else 0)] := by
      rw [flagByte_pair, storedHalt, storedResume, storedEnable]
      rfl
    rw [← answer, ← levels]
    rfl

end Sys2Proof.Machine
end

section
/-! PROOFS. READ OUTPUT STATUS and SET AUTO TAKEOVER (R170, R173): O45. -/

namespace Sys2Proof.Machine

/-! ### READ OUTPUT STATUS (R173) -/

/-- Five flags as a byte. -/
theorem flagByte_five (a b c d e : Bool) : flagByte [a, b, c, d, e] =
    BitVec.ofNat 8 ((if a then 1 else 0) + (if b then 2 else 0) + (if c then 4 else 0) + (if d then 8 else 0) +
      if e then 16 else 0) := by
  revert a b c d e
  decide

/-- A presented level leaves the port ready. -/
theorem Ready.sampleAlarm {p : Port} {s : State} (ready : Ready p s) (level : Bool) : Ready p (sampleAlarm level s) :=
  ready

/-- The command is a request made with the PARTNER-ALARM level presented (log 6). -/
theorem exec_readOutputStatus {p : Port} {s : State} (ready : Ready p s) (params : List Byte) (palarm : Bool) :
    exec (.readOutputStatus p params palarm) s =
      .next (request p 0x48#8 params reqReadOutputStatus (sampleAlarm palarm s)) := by
  have running : (sampleAlarm palarm s).power = .running := ready.1
  simp only [exec, execReadOutputStatus, request, whileRunning_running _ ready.1, whileRunning_running _ running]
  rfl

/-- The first seven bytes: modes, roles, partner and step state, and the flags. -/
def outputHead (s : State) : List Byte :=
  [s.opr.lineMode.code, s.opr.frameLineMode.code, s.opr.role.code, s.opr.strap.code,
    flagByte [s.opr.partnerPresent], flagByte [s.opr.inStep],
    flagByte [s.opr.autoTakeover, alarm s, s.palarm, s.opr.partnerSeen, lineDriven s]]

/-- The last four bytes: the counts and runs. -/
def outputCounts (o : Opr) : List Byte := [byte o.missed, byte o.lossCount, byte o.matchRun, byte o.mismatchRun]

theorem outputStatus_eq (s : State) :
    outputStatus s = outputHead s ++ negotiationBytes s.opr.negotiation ++ outputCounts s.opr := rfl

theorem negotiationBytes_length (record : Option Negotiation) : (negotiationBytes record).length = 7 := by
  cases record <;> rfl

/-- The reading is its head, the record's seven bytes and the counts. -/
theorem outputStatus_layout (s : State) : (outputStatus s).length = 18 ∧ (outputStatus s).take 7 = outputHead s ∧
    ((outputStatus s).drop 7).take 7 = negotiationBytes s.opr.negotiation ∧
    (outputStatus s).drop 14 = outputCounts s.opr := by
  rw [outputStatus_eq]
  cases s.opr.negotiation <;> exact ⟨rfl, rfl, rfl, rfl⟩

/-- The codes of the head byte by byte, on a part that runs. -/
theorem outputHead_eq {s : State} (running : s.power = .running) : outputHead s =
    [match s.opr.lineMode with | .live => 0#8 | .pass => 1#8 | .check => 2#8,
      match s.opr.frameLineMode with | .live => 0#8 | .pass => 1#8 | .check => 2#8,
      match s.opr.role with | .sole => 0#8 | .main => 1#8 | .standby => 2#8 | .handingOver => 3#8,
      match s.opr.strap with | .sole => 0#8 | .pairFirst => 1#8 | .pairSecond => 2#8,
      if s.opr.partnerPresent then 1#8 else 0#8, if s.opr.inStep then 1#8 else 0#8,
      BitVec.ofNat 8 ((if s.opr.autoTakeover then 1 else 0) + (if alarm s then 2 else 0) +
        (if s.palarm then 4 else 0) + (if s.opr.partnerSeen then 8 else 0) +
        if s.opr.role = .main ∨ s.opr.role = .sole then 16 else 0)] := by
  have single : ∀ b : Bool, flagByte [b] = if b then 1#8 else 0#8 := by decide
  have driven : lineDriven s = true ↔ s.opr.role = .main ∨ s.opr.role = .sole := by simp [lineDriven, running]
  rw [outputHead, flagByte_five, single, single]
  simp only [driven]
  rfl

/-- The seven bytes of a record. -/
theorem negotiationBytes_some (n : Negotiation) : negotiationBytes (some n) = n.stage.code ::
    BitVec.ofNat 8 ((match n.origin with | .take => 0 | .request => 1 | .automatic => 2) +
      (if n.force then 4 else 0) + if n.offerSeen then 8 else 0) ::
    (bytes32 n.lineFrame ++ [BitVec.ofNat 8 n.entries.length]) := by
  rw [negotiationBytes]
  cases n.origin <;> cases n.force <;> cases n.offerSeen <;> rfl

/-! ### SET AUTO TAKEOVER (R170) -/

theorem reqSetAutoTakeover_misfit (p : Port) {params : List Byte} (misfit : params.length ≠ 1) (s : State) :
    reqSetAutoTakeover p params s = refuse .range s := by
  unfold reqSetAutoTakeover
  split
  · exact absurd rfl misfit
  · rfl

/-- Settles O45: the layout of the reading with the level presented, and the stored setting. -/
theorem outputStatusAndAutoTakeover : Obligations.OutputStatusAndAutoTakeover := by
  intro p params palarm s ready
  have readyWith := ready.sampleAlarm palarm
  refine ⟨fun given => ?_, ?_, fun misfit => next_of_refused ready (reqSetAutoTakeover_misfit p misfit _), ?_⟩
  · rw [exec_readOutputStatus ready]
    exact next_of_parameters readyWith given fun _ _ _ => rfl
  · rintro rfl
    obtain ⟨length, head, record, counts⟩ := outputStatus_layout (sampleAlarm palarm s)
    refine ⟨outputStatus (sampleAlarm palarm s), ?_, length, head.trans (outputHead_eq ready.1), fun free => ?_,
      fun n known => ?_, counts⟩
    · rw [exec_readOutputStatus ready]
      exact next_of_done readyWith rfl
    · exact record.trans (congrArg negotiationBytes free)
    · exact record.trans ((congrArg negotiationBytes known).trans (negotiationBytes_some n))
  · rintro b rfl
    have answer : flagByte [b.getLsbD 0] = if b.getLsbD 0 then 1#8 else 0#8 := by
      cases b.getLsbD 0 <;> rfl
    rw [← answer]
    exact next_of_done ready rfl

end Sys2Proof.Machine
end

section
/-! PROOFS. The partner link: a report is received, its swap word acted on, and its bytes read back (R161, R163, R164, R168
to R171): O19 and O20. -/

namespace Sys2Proof.Machine

/-! ### A report is taken in hand (R163, R164, R171) -/

theorem exec_partnerReport {s : State} (running : s.power = .running) (isPaired : s.opr.role ≠ .sole) (r : Report) :
    exec (.partnerReport r) s = .next (receiveReport r (setLink none s)) := by
  have pair : paired s = true := by simpa [paired] using isPaired
  simp only [exec, execPartnerReport, whileRunning_running _ running, whenPaired, pair, if_true]

/-- The reports showing MAIN of the period, with one more that may show it (R171). -/
def mainsWith (r : Report) (mains : List Report) : List Report := if r.role = .main then mains ++ [r] else mains

theorem noteMain_eq (r : Report) (s : State) :
    noteMain r s = { s with opr := { s.opr with mains := mainsWith r s.opr.mains } } := by
  unfold noteMain mainsWith
  split <;> rfl

/-- The part with an on-time report in hand, before the report's swap word is acted on. -/
def reportInHand (r : Report) (s : State) : State := takeInHand r (noteMain r (setLink none s))

/-- A report in hand makes the partner PRESENT, a LOST one with its counts at 0, and leaves role, step and record. -/
theorem reportInHand_opr (r : Report) (s : State) : ∃ o, reportInHand r s = { s with opr := o } ∧
    o.link = none ∧ o.mains = mainsWith r s.opr.mains ∧ o.role = s.opr.role ∧ o.inStep = s.opr.inStep ∧
    o.negotiation = s.opr.negotiation ∧ o.inHand = some r ∧ o.partnerPresent = true ∧
    (s.opr.partnerPresent = false → o.partnerSeen = true ∧ o.missed = 0 ∧ o.lossCount = 0) ∧
    (s.opr.partnerPresent = true →
      o.partnerSeen = s.opr.partnerSeen ∧ o.missed = s.opr.missed ∧ o.lossCount = s.opr.lossCount) := by
  refine ⟨_, by rw [reportInHand, noteMain_eq, takeInHand, State.onOpr]; rfl, ?_⟩
  cases here : s.opr.partnerPresent <;> simp [setLink, here]

/-- A report whose next frame is reached takes part in the contention test alone (R163, R171). -/
theorem receiveReport_late {r : Report} {s : State} (late : reached (r.frame + 1) s.fcy.count = true) :
    receiveReport r (setLink none s) =
      { s with opr := { s.opr with link := none, mains := mainsWith r s.opr.mains } } := by
  have isLate : onTime r (setLink none s) = false := congrArg not late
  simp only [receiveReport, isLate, noteMain_eq]
  rfl

/-- A report on time is taken in hand and then its swap word is acted on (R163). -/
theorem receiveReport_onTime {r : Report} {s : State} (early : reached (r.frame + 1) s.fcy.count = false) :
    receiveReport r (setLink none s) = actOnSwapWord r (reportInHand r s) := by
  have isEarly : onTime r (setLink none s) = true := congrArg not early
  simp only [receiveReport, isEarly, if_true]
  rfl

/-! ### Swap words (R168 to R170) -/

section
variable {r : Report} {s : State} {n : Negotiation}

theorem actOnSwapWord_offer (main : s.opr.role = .main) (word : r.swap = .offer) :
    actOnSwapWord r s = receiveOffer r s := by
  simp [actOnSwapWord, main, word]

theorem actOnSwapWord_request (standby : s.opr.role = .standby) (word : r.swap = .request) :
    actOnSwapWord r s = receiveRequest r s := by
  simp [actOnSwapWord, standby, word]

theorem actOnSwapWord_release (standby : s.opr.role = .standby) (word : r.swap = .release) :
    actOnSwapWord r s = receiveRelease r s := by
  simp [actOnSwapWord, standby, word]

theorem actOnSwapWord_none (word : r.swap = .none) : actOnSwapWord r s = s := by
  simp [actOnSwapWord, word]

theorem receiveOffer_reached (passed : reached (r.lineFrame - 1) r.frame = true) : receiveOffer r s = s :=
  if_pos passed

theorem receiveOffer_noted (ahead : reached (r.lineFrame - 1) r.frame = false) (record : s.opr.negotiation = some n)
    (stage : n.stage = .requesting) (line : n.lineFrame = r.lineFrame) :
    receiveOffer r s = setNegotiation (some { n with offerSeen := true }) s := by
  rw [receiveOffer, ahead]
  simp [record, stage, line]

theorem receiveOffer_automatic (ahead : reached (r.lineFrame - 1) r.frame = false) (free : s.opr.negotiation = none)
    (alarmed : alarm s = true) : receiveOffer r s = setNegotiation
      (some (newNegotiation r.lineFrame .mainSide .automatic false .requesting true [] s.fcy.count)) s := by
  rw [receiveOffer, ahead]
  simp [free, alarmed]

theorem receiveOffer_of_no_alarm (free : s.opr.negotiation = none) (quiet : alarm s = false) : receiveOffer r s = s := by
  simp [receiveOffer, free, quiet]

theorem receiveOffer_other (record : s.opr.negotiation = some n)
    (other : n.stage ≠ .requesting ∨ n.lineFrame ≠ r.lineFrame) : receiveOffer r s = s := by
  have differs : ¬ (n.stage = .requesting ∧ n.lineFrame = r.lineFrame) := by
    rintro ⟨stage, line⟩
    exact other.elim (· stage) (· line)
  simp [receiveOffer, record, differs]

theorem receiveRequest_new (free : s.opr.negotiation = none) (inStep : s.opr.inStep = true)
    (ahead : reached (r.lineFrame - 1) s.fcy.count = false) : receiveRequest r s = setNegotiation
      (some (newNegotiation r.lineFrame .standbySide .request false .waiting false [] s.fcy.count)) s := by
  rw [receiveRequest, free]
  simp only [inStep, ahead]
  rfl

theorem receiveRequest_refused (free : s.opr.negotiation = none)
    (unfit : s.opr.inStep = false ∨ reached (r.lineFrame - 1) s.fcy.count = true) : receiveRequest r s = s := by
  rcases unfit with outOfStep | passed
  · simp [receiveRequest, free, outOfStep]
  · rw [receiveRequest, free]
    simp only [passed, Bool.not_true, Bool.and_false]
    rfl

theorem receiveRequest_known (record : s.opr.negotiation = some n) : receiveRequest r s = setNegotiation
    (if n.origin = .automatic then
      some { n with lineFrame := r.lineFrame, origin := .request, passed := framesBehind r.lineFrame s.fcy.count }
     else some n) s := by
  by_cases origin : n.origin = .automatic
  · simp [receiveRequest, record, origin]
  · rw [if_neg origin, ← record]
    simp only [receiveRequest, record, if_neg origin]
    rw [setNegotiation, ← record]
    rfl

theorem receiveRelease_received (record : s.opr.negotiation = some n) (stage : n.stage = .offering)
    (line : n.lineFrame = r.lineFrame) :
    receiveRelease r s = setNegotiation (some { n with stage := .releaseReceived }) s := by
  simp [receiveRelease, record, stage, line]

theorem receiveRelease_of_no_record (free : s.opr.negotiation = none) : receiveRelease r s = s := by
  simp [receiveRelease, free]

theorem receiveRelease_other (record : s.opr.negotiation = some n)
    (other : n.stage ≠ .offering ∨ n.lineFrame ≠ r.lineFrame) : receiveRelease r s = s := by
  have differs : ¬ (n.stage = .offering ∧ n.lineFrame = r.lineFrame) := by
    rintro ⟨stage, line⟩
    exact other.elim (· stage) (· line)
  simp [receiveRelease, record, differs]

end

/-- A swap word writes the negotiation record at most, and nothing outside the pair unit. -/
theorem actOnSwapWord_eq (r : Report) (s : State) :
    ∃ n, actOnSwapWord r s = { s with opr := { s.opr with negotiation := n } } := by
  obtain ⟨n, opr⟩ := actOnSwapWord_opr r s
  have alone : actOnSwapWord r s = { s with opr := (actOnSwapWord r s).opr } := by
    unfold actOnSwapWord receiveOffer receiveRequest receiveRelease setNegotiation State.onOpr
    repeat' split
    all_goals rfl
  exact ⟨n, by rw [alone, opr]⟩

/-! ### A received report in the words of the claim -/

/-- What a received report does besides its swap word: the first half of O19. -/
theorem partnerReport_takenInHand {r : Report} {s : State} (running : s.power = .running)
    (isPaired : s.opr.role ≠ .sole) :
    ∃ u, exec (.partnerReport r) s = .next u ∧ u = { s with opr := u.opr } ∧ u.opr.link = none ∧
      u.opr.mains = mainsWith r s.opr.mains ∧ u.opr.role = s.opr.role ∧ u.opr.inStep = s.opr.inStep ∧
      (reached (r.frame + 1) s.fcy.count = true → u.opr = { s.opr with link := none, mains := u.opr.mains }) ∧
      (reached (r.frame + 1) s.fcy.count = false →
        u.opr.inHand = some r ∧ u.opr.partnerPresent = true ∧
        (s.opr.partnerPresent = false → u.opr.partnerSeen = true ∧ u.opr.missed = 0 ∧ u.opr.lossCount = 0) ∧
        (s.opr.partnerPresent = true →
          u.opr.partnerSeen = s.opr.partnerSeen ∧ u.opr.missed = s.opr.missed ∧
            u.opr.lossCount = s.opr.lossCount)) := by
  refine ⟨_, exec_partnerReport running isPaired r, ?_⟩
  cases when : reached (r.frame + 1) s.fcy.count with
  | true =>
    rw [receiveReport_late when]
    exact ⟨rfl, rfl, rfl, rfl, rfl, fun _ => rfl, nofun⟩
  | false =>
    obtain ⟨o, taken, link, mains, role, inStep, -, hand, present, lost, known⟩ := reportInHand_opr r s
    obtain ⟨n, acted⟩ := actOnSwapWord_eq r (reportInHand r s)
    rw [receiveReport_onTime when, acted, taken]
    exact ⟨rfl, link, mains, role, inStep, nofun, fun _ => ⟨hand, present, lost, known⟩⟩

/-- An on-time report acts by its swap word on a state with the role, step, record, count and ALARM of before. -/
theorem partnerReport_acts {r : Report} {s : State} (running : s.power = .running) (isPaired : s.opr.role ≠ .sole)
    (early : reached (r.frame + 1) s.fcy.count = false) : ∃ v, exec (.partnerReport r) s = .next (actOnSwapWord r v) ∧
      v.opr.role = s.opr.role ∧ v.opr.inStep = s.opr.inStep ∧ v.opr.negotiation = s.opr.negotiation ∧
      v.fcy.count = s.fcy.count ∧ alarm v = alarm s := by
  obtain ⟨o, taken, -, -, role, inStep, record, -⟩ := reportInHand_opr r s
  refine ⟨reportInHand r s, ?_, ?_⟩
  · rw [exec_partnerReport running isPaired, receiveReport_onTime early]
  · rw [taken]
    exact ⟨role, inStep, record, rfl, rfl⟩

/-- Settles O19: taken in hand as `partnerReport_takenInHand` says, and acted on by the rule of its swap word. -/
theorem partnerReportIsTakenInHandAndActedOn : Obligations.PartnerReportIsTakenInHandAndActedOn := by
  refine ⟨fun r s running isPaired => partnerReport_takenInHand running isPaired, fun r s running early => ?_⟩
  have acts := fun isPaired => partnerReport_acts (r := r) running isPaired early
  have onMain : s.opr.role = .main → s.opr.role ≠ .sole := by rintro role; rw [role]; decide
  have onStandby : s.opr.role = .standby → s.opr.role ≠ .sole := by rintro role; rw [role]; decide
  refine ⟨?_, ?_, ?_, ?_, ?_, ?_, ?_⟩
  · intro n main word record stage line ahead
    obtain ⟨v, eq, role, -, same, -⟩ := acts (onMain main)
    refine ⟨_, eq, ?_⟩
    rw [actOnSwapWord_offer (role.trans main) word, receiveOffer_noted ahead (same.trans record) stage line]
    rfl
  · intro standby word free inStep ahead
    obtain ⟨v, eq, role, step, same, count, -⟩ := acts (onStandby standby)
    refine ⟨_, newNegotiation r.lineFrame .standbySide .request false .waiting false [] v.fcy.count, eq, ?_,
      rfl, rfl, rfl, rfl, rfl, rfl⟩
    rw [actOnSwapWord_request (role.trans standby) word,
      receiveRequest_new (same.trans free) (step.trans inStep) (count ▸ ahead)]
    rfl
  · intro n standby word record stage line
    obtain ⟨v, eq, role, -, same, -⟩ := acts (onStandby standby)
    refine ⟨_, eq, ?_⟩
    rw [actOnSwapWord_release (role.trans standby) word, receiveRelease_received (same.trans record) stage line]
    rfl
  · intro main word free alarmed ahead
    obtain ⟨v, eq, role, -, same, -, alarms⟩ := acts (onMain main)
    refine ⟨_, newNegotiation r.lineFrame .mainSide .automatic false .requesting true [] v.fcy.count, eq, ?_,
      rfl, rfl, rfl, rfl, rfl, rfl, rfl⟩
    rw [actOnSwapWord_offer (role.trans main) word,
      receiveOffer_automatic ahead (same.trans free) (alarms.trans alarmed)]
    rfl
  · intro n standby word record
    obtain ⟨v, eq, role, -, same, -⟩ := acts (onStandby standby)
    refine ⟨_, framesBehind r.lineFrame v.fcy.count, eq, ?_⟩
    rw [actOnSwapWord_request (role.trans standby) word, receiveRequest_known (same.trans record)]
    rfl
  · rintro (⟨main, word, ignored⟩ | ⟨standby, word, free, unfit⟩ | ⟨standby, word, ignored⟩)
    · obtain ⟨v, eq, role, -, same, -, alarms⟩ := acts (onMain main)
      refine ⟨_, eq, Eq.trans (congrArg (fun t : State => t.opr.negotiation) ?_) same⟩
      rw [actOnSwapWord_offer (role.trans main) word]
      rcases ignored with passed | ⟨free, quiet⟩ | ⟨n, record, other⟩
      · exact receiveOffer_reached passed
      · exact receiveOffer_of_no_alarm (same.trans free) (alarms.trans quiet)
      · exact receiveOffer_other (same.trans record) other
    · obtain ⟨v, eq, role, step, same, count, -⟩ := acts (onStandby standby)
      refine ⟨_, eq, Eq.trans (congrArg (fun t : State => t.opr.negotiation) ?_) same⟩
      rw [actOnSwapWord_request (role.trans standby) word]
      exact receiveRequest_refused (same.trans free) (by rw [step, count]; exact unfit)
    · obtain ⟨v, eq, role, -, same, -⟩ := acts (onStandby standby)
      refine ⟨_, eq, Eq.trans (congrArg (fun t : State => t.opr.negotiation) ?_) same⟩
      rw [actOnSwapWord_release (role.trans standby) word]
      rcases ignored with free | ⟨n, record, other⟩
      · exact receiveRelease_of_no_record (same.trans free)
      · exact receiveRelease_other (same.trans record) other
  · intro isPaired word
    obtain ⟨v, eq, -, -, same, -⟩ := acts isPaired
    exact ⟨_, eq, by rw [actOnSwapWord_none word, same]⟩

/-! ### The receiver (R161, R163) -/

/-- The bytes after the lead of a framed report are read back as that report. -/
theorem parseReport_of_framed {bytes : List Byte} {r : Report} (framed : 0x96#8 :: bytes = reportBytes r) :
    parseReport bytes = some r := by
  have body : bytes = reportBody r ++ bytes16 (crc16 (reportBody r)) := (List.cons.inj framed).2
  have role : reportRoleOfByte (reportRoleCode r.role) = some r.role := by cases r.role <;> rfl
  have swap : swapOfByte (swapCode r.swap) = r.swap := by cases r.swap <;> rfl
  have alarmBit : (flagByte [r.alarm]).getLsbD 0 = r.alarm := by cases r.alarm <;> rfl
  rw [body]
  simp only [reportBody, bytes16, bytes32, List.cons_append, List.nil_append, parseReport, le16_bytes16, le32_bytes32,
    if_true, role, swap, alarmBit, Option.map_some]

/-- A role byte outside 1 to 3 names no role (R163). -/
theorem reportRoleOfByte_eq_none {b : Byte} (outside : b.toNat = 0 ∨ 3 < b.toNat) : reportRoleOfByte b = none := by
  have differs : ∀ c : Byte, 1 ≤ c.toNat → c.toNat ≤ 3 → b ≠ c := by
    rintro c low high rfl
    omega
  rw [reportRoleOfByte, if_neg (differs 1 (by decide) (by decide)), if_neg (differs 2 (by decide) (by decide)),
    if_neg (differs 3 (by decide) (by decide))]

/-- Bytes with a CRC that does not match or a role byte outside 1 to 3 are no report (R163). -/
theorem parseReport_eq_none {bytes : List Byte} {b : Byte}
    (wrong : crc16 (bytes.take 20) ≠ b ++ bytes.getD 20 0#8 ∨ (bytes.getD 4 0#8).toNat = 0 ∨
      3 < (bytes.getD 4 0#8).toNat) : parseReport (bytes ++ [b]) = none := by
  unfold parseReport
  split
  · next f0 f1 f2 f3 role s0 s1 r0 r1 c0 c1 c2 c3 level flags swap l0 l1 l2 l3 k0 k1 taken =>
    obtain ⟨rfl, last⟩ := List.append_inj' (t₁ := [b]) (t₂ := [k1]) (s₂ := [f0, f1, f2, f3, role, s0, s1, r0, r1, c0,
      c1, c2, c3, level, flags, swap, l0, l1, l2, l3, k0]) taken rfl
    obtain rfl := List.singleton_inj.mp last
    split
    · next agrees =>
      have unnamed : reportRoleOfByte role = none :=
        reportRoleOfByte_eq_none (wrong.resolve_left fun differs => differs agrees)
      rw [unnamed]
      rfl
    · rfl
  · rfl

theorem exec_partnerLinkCharacter {s : State} (running : s.power = .running) (isPaired : s.opr.role ≠ .sole)
    (c : Character) : exec (.partnerLinkCharacter c) s = .next (linkCharacter c s) := by
  have pair : paired s = true := by simpa [paired] using isPaired
  simp only [exec, execPartnerLinkCharacter, whileRunning_running _ running, whenPaired, pair, if_true]

theorem linkCharacter_hunting {s : State} (hunting : s.opr.link = none) : linkCharacter .bad s = s ∧
    ∀ b, linkCharacter (.good b) s = if b = 0x96#8 then setLink (some { bytes := [], pulses := 0 }) s else s := by
  simp only [linkCharacter, hunting]
  exact ⟨trivial, fun _ => rfl⟩

theorem linkCharacter_receiving {s : State} {l : LinkReception} (receiving : s.opr.link = some l) :
    linkCharacter .bad s = setLink none s ∧ ∀ b, linkCharacter (.good b) s = linkByte l b s := by
  simp only [linkCharacter, receiving]
  exact ⟨trivial, fun _ => trivial⟩

theorem linkByte_kept {l : LinkReception} (early : l.bytes.length < 21) (b : Byte) (s : State) :
    linkByte l b s = setLink (some { l with bytes := l.bytes ++ [b] }) s := by
  have more : (l.bytes ++ [b]).length < 22 := by rw [List.length_append]; exact Nat.succ_lt_succ early
  simp only [linkByte, if_pos more]

/-- The twenty-second byte after the lead completes the report: it is received, or discarded when its checks fail. -/
theorem linkByte_last {l : LinkReception} (last : l.bytes.length = 21) (b : Byte) (s : State) :
    (∀ r, parseReport (l.bytes ++ [b]) = some r → linkByte l b s = receiveReport r (setLink none s)) ∧
    (parseReport (l.bytes ++ [b]) = none → linkByte l b s = setLink none s) := by
  have full : ¬ (l.bytes ++ [b]).length < 22 := by simp [last]
  simp only [linkByte, if_neg full]
  exact ⟨fun r parsed => by rw [parsed], fun misfit => by rw [misfit]⟩

/-- Settles O20: the receiver byte by byte, and the last byte by what its report is parsed as. -/
theorem framedReportIsReceivedWhole : Obligations.FramedReportIsReceivedWhole := by
  intro s running isPaired
  have char := exec_partnerLinkCharacter running isPaired
  refine ⟨fun hunting => ?_, fun l receiving => ?_⟩
  · obtain ⟨bad, good⟩ := linkCharacter_hunting hunting
    exact ⟨(char _).trans (congrArg _ bad), fun b => (char _).trans (congrArg _ (good b))⟩
  · obtain ⟨bad, good⟩ := linkCharacter_receiving receiving
    refine ⟨(char _).trans (congrArg _ bad), fun b early => ?_, fun b r framed => ?_, fun b last wrong => ?_⟩
    · rw [char, good, linkByte_kept early]
      rfl
    · have last : l.bytes.length = 21 := by
        have length := congrArg List.length framed
        simpa [reportBytes, reportBody, bytes16, bytes32] using length
      rw [char, good, (linkByte_last last b s).1 r (parseReport_of_framed framed), exec_partnerReport running isPaired]
    · rw [char, good, (linkByte_last last b s).2 (parseReport_eq_none wrong)]
      rfl

end Sys2Proof.Machine
end

section
/-! PROOFS. What a serving pulse raises stands to its end: notices, causes, tripped counters and ALARM (R172, R180, R183,
R184), and the claims about role changes and ended records (R167, R170). -/

namespace Sys2Proof.Machine

/-! ### Notices and causes accumulate through a pulse -/

/-- From s to t no FAULT or STEP notice, no cause of the pair and no trip of a counter is cleared. -/
structure NoticesGrow (s t : State) : Prop where
  fault : ∀ p, (s.cnu.raised.get p).fault = true → (t.cnu.raised.get p).fault = true
  step : ∀ p, (s.cnu.raised.get p).step = true → (t.cnu.raised.get p).step = true
  partnerLost : ∀ p, (s.cnu.causes.get p).partnerLost = true → (t.cnu.causes.get p).partnerLost = true
  roleChange : ∀ p, (s.cnu.causes.get p).roleChange = true → (t.cnu.causes.get p).roleChange = true
  tripped : ∀ c, s.cnu.tripped.get c = true → t.cnu.tripped.get c = true

namespace NoticesGrow

variable {s t u : State}

theorem refl (s : State) : NoticesGrow s s := ⟨fun _ => id, fun _ => id, fun _ => id, fun _ => id, fun _ => id⟩

theorem trans (h : NoticesGrow s t) (k : NoticesGrow t u) : NoticesGrow s u :=
  ⟨fun p now => k.fault p (h.fault p now), fun p now => k.step p (h.step p now),
    fun p now => k.partnerLost p (h.partnerLost p now), fun p now => k.roleChange p (h.roleChange p now),
    fun c now => k.tripped c (h.tripped c now)⟩

/-- An operation that leaves the control and notice unit clears nothing. -/
theorem of_same (same : t.cnu = s.cnu) : NoticesGrow s t := by
  refine ⟨?_, ?_, ?_, ?_, ?_⟩ <;> rw [same] <;> exact fun _ => id

theorem raiseStep (h : NoticesGrow s t) : NoticesGrow s (raiseStep t) :=
  h.trans ⟨fun p now => by cases p <;> exact now, fun p _ => by cases p <;> rfl, fun _ => id, fun _ => id, fun _ => id⟩

/-- A cause that is added leaves those of the pair. -/
theorem raiseFault {add : Causes → Causes} (h : NoticesGrow s t)
    (keeps : ∀ c : Causes, (c.partnerLost = true → (add c).partnerLost = true) ∧
      (c.roleChange = true → (add c).roleChange = true)) : NoticesGrow s (raiseFault add t) :=
  h.trans ⟨fun p _ => by cases p <;> rfl, fun p now => by cases p <;> exact now,
    fun p now => by cases p <;> exact (keeps _).1 now, fun p now => by cases p <;> exact (keeps _).2 now, fun _ => id⟩

/-- A counter that trips raises FAULT and is added to those tripped (R184). -/
theorem testTrip {c : Counter} (h : NoticesGrow s t) : NoticesGrow s (testTrip c t) := by
  unfold Machine.testTrip
  split
  · refine raiseFault (h.trans ⟨fun _ => id, fun _ => id, fun _ => id, fun _ => id, fun k now => ?_⟩)
      fun _ => ⟨id, id⟩
    rw [PerCounter.get_set]
    split
    · rfl
    · exact now
  · exact h

theorem increase {c : Counter} (h : NoticesGrow s t) : NoticesGrow s (increase c t) :=
  testTrip (h.trans ⟨fun _ => id, fun _ => id, fun _ => id, fun _ => id, fun _ => id⟩)

theorem leaveStep (h : NoticesGrow s t) : NoticesGrow s (leaveStep t) := by
  unfold Machine.leaveStep
  split
  · exact raiseStep (increase (h.trans (of_same rfl)))
  · exact h

theorem losePartner (h : NoticesGrow s t) : NoticesGrow s (losePartner t) :=
  raiseFault (leaveStep (h.trans (of_same rfl))) fun _ => ⟨fun _ => rfl, id⟩

theorem partnerPresence (h : NoticesGrow s t) : NoticesGrow s (partnerPresence t) := by
  obtain ⟨count, -, eq⟩ := partnerPresence_eq t
  rw [eq]
  split
  · split
    · exact losePartner (h.trans (of_same rfl))
    · exact h.trans (of_same rfl)
  · exact h.trans (of_same rfl)

theorem stepComparison (h : NoticesGrow s t) : NoticesGrow s (stepComparison t) := by
  unfold Machine.stepComparison
  split
  · exact h.trans (of_same rfl)
  · split
    · unfold matchStep
      simp only []
      split
      · exact raiseStep (h.trans (of_same rfl))
      · exact h.trans (of_same rfl)
    · unfold mismatchStep
      simp only []
      split
      · exact leaveStep (h.trans (of_same rfl))
      · exact h.trans (of_same rfl)

theorem abandon (h : NoticesGrow s t) : NoticesGrow s (abandon t) := by
  unfold Machine.abandon
  split
  · exact h
  · exact increase (h.trans (of_same rfl))

/-- The end of a period: presence, abandonment and the step comparison raise and count (R12, R13, R164, R166). -/
theorem periodEnded (t : Time) (palarm : Bool) (s : State) : NoticesGrow s (periodEnded t palarm s) := by
  have presence : NoticesGrow s (whenPaired Machine.partnerPresence (sampleAlarm palarm s)) :=
    whenPaired_of (P := NoticesGrow s) (partnerPresence (of_same rfl)) (of_same rfl)
  have shown : ∀ count x, NoticesGrow s x → NoticesGrow s (Machine.abandon (display (advance t count x))) :=
    fun count x h => abandon (h.trans (of_same (by simp)))
  exact whenPaired_of (P := NoticesGrow s) (stepComparison (shown _ _ presence)) (shown _ _ presence)

theorem levelChoice {snap : Snapshot} {budget : Nat} (h : NoticesGrow s t) :
    NoticesGrow s (levelChoice snap budget t) := by
  unfold Machine.levelChoice
  simp only []
  split
  · exact increase (h.trans (of_same rfl))
  · exact h.trans (of_same rfl)

theorem beginComposition (h : NoticesGrow s t) : NoticesGrow s (beginComposition t) := by
  have chosen : NoticesGrow s (levelChosen t) := levelChoice (h.trans (of_same rfl))
  rw [beginComposition_eq]
  exact chosen.trans (of_same rfl)

theorem gapPulse (h : NoticesGrow s t) : NoticesGrow s (gapPulse t) := by
  have offered : ∀ x v, NoticesGrow s v → NoticesGrow s (offerUnit x v) := by
    intro x v h
    unfold offerUnit
    split
    · exact h.trans (of_same rfl)
    · exact increase (h.trans (of_same rfl))
  unfold Machine.gapPulse
  split
  · exact h
  · split
    · exact offered _ _ (h.trans (of_same rfl))
    · exact h.trans (of_same rfl)

end NoticesGrow

/-- ALARM stands when no trip is cleared and the reference state and the alarm enable are as before (R172). -/
theorem alarm_of_grow {s t : State} (grown : NoticesGrow s t) (power : t.power = s.power)
    (ref : t.fcy.ref = s.fcy.ref) (enable : t.cnu.alarmEnable = s.cnu.alarmEnable) (alarmed : alarm s = true) :
    alarm t = true := by
  by_cases running : s.power = .running
  · rw [alarm_iff (power.trans running), enable, ref]
    exact ((alarm_iff running).mp alarmed).imp_left fun ⟨on, c, now⟩ => ⟨on, c, grown.tripped c now⟩
  · exact (outputs_of_stopped (power ▸ running)).2.1

end Sys2Proof.Machine
end

section
/-! PROOFS. The end of a negotiation record, and what stands to the end of a pulse once its role changes are made (R77, R87,
R92, R163, R167, R170). -/

namespace Sys2Proof.Machine

/-! ### FAULT at a role change (R170, R171) -/

theorem roleFault_raiseFault (s : State) : RoleFault (raiseFault Causes.addRole s) := by
  intro p
  cases p <;> exact ⟨rfl, rfl⟩

theorem RoleFault.grow {s t : State} (h : RoleFault s) (grown : NoticesGrow s t) : RoleFault t :=
  fun p => ⟨grown.fault p (h p).1, grown.roleChange p (h p).2⟩

theorem roleFault_faultIfAutomatic {n : Negotiation} (automatic : n.automatic = true) (s : State) :
    RoleFault (faultIfAutomatic n s) := by
  rw [faultIfAutomatic, if_pos automatic]
  exact roleFault_raiseFault s

/-! ### Joined entries complete (R87, R167) -/

/-- The claim about an ended record reads the queue and the completion lists alone. -/
theorem JoinedEnd.of_takes {n : Negotiation} {status : TakeStatus} {applied : Word32} {s t u v : State}
    (h : JoinedEnd n status applied t u) (before : s.tke.queue = t.tke.queue) (queue : v.tke.queue = u.tke.queue)
    (records : v.tke.completions = u.tke.completions) : JoinedEnd n status applied s v := by
  unfold JoinedEnd
  rw [before, queue, records]
  exact h

/-- What has ended stays so while the take engine goes on. -/
theorem JoinedEnd.goesOn {n : Negotiation} {status : TakeStatus} {applied : Word32} {s t u : State} {k : Nat}
    (h : JoinedEnd n status applied s t) (on : TakesGoOn k t u) : JoinedEnd n status applied s u := by
  intro j joined
  obtain ⟨gone, done⟩ := h j joined
  refine ⟨fun x mem named => ?_, fun e queued port tag => on.records _ _ (done e queued port tag)⟩
  obtain ⟨y, memY, same⟩ := on.entries x x mem
  have isY : y.port = x.port ∧ y.tag = x.tag := by simpa [sameTake] using same.symm
  exact gone y memY ⟨isY.1.trans named.1, isY.2.trans named.2⟩

section
variable (status : TakeStatus) (applied : Word32)

theorem completeJoined_goesOn (s : State) (j : JoinedEntry) : TakesGoOn 1 s (completeJoined status applied s j) := by
  unfold completeJoined
  split
  · exact .of_same 1 rfl
  · exact .completeTake _ _ _ _

theorem foldl_completeJoined_goesOn (l : List JoinedEntry) :
    ∀ s, TakesGoOn l.length s (l.foldl (completeJoined status applied) s) := by
  induction l with
  | nil => exact fun s => .of_same 0 rfl
  | cons j rest ih =>
    exact fun s => ((completeJoined_goesOn status applied s j).trans (ih _)).weaken (by rw [List.length_cons]; omega)

theorem completeJoined_takeLaw {s : State} (law : TakeLaw s.tke) (j : JoinedEntry) :
    TakeLaw (completeJoined status applied s j).tke := by
  unfold completeJoined
  split
  · exact law
  · next found => exact completeTake_takeLaw law (List.mem_of_find?_eq_some found) _ _

/-- A joined entry that completes leaves the queue with its record, and every other entry stays. -/
theorem completeJoined_spec {s : State} (law : TakeLaw s.tke) (j : JoinedEntry) :
    (∀ x ∈ (completeJoined status applied s j).tke.queue, x ∈ s.tke.queue ∧ ¬ (x.port = j.port ∧ x.tag = j.tag)) ∧
    ∀ e ∈ s.tke.queue, e ∈ (completeJoined status applied s j).tke.queue ∨
      completionOf e status applied ∈ (completeJoined status applied s j).tke.completions.get e.port := by
  unfold completeJoined
  cases found : findEntry j.port j.tag s.tke.queue with
  | none => exact ⟨fun x mem => ⟨mem, by simpa using List.find?_eq_none.mp found x mem⟩, fun e mem => .inl mem⟩
  | some e =>
    have named : e.port = j.port ∧ e.tag = j.tag := by simpa using List.find?_some found
    have queued := List.mem_of_find?_eq_some found
    refine ⟨fun x mem => ?_, fun y mem => ?_⟩
    · rw [completeTake_queue, List.mem_filter] at mem
      refine ⟨mem.1, fun same => ?_⟩
      simp [sameTake, same, named] at mem
    · by_cases same : sameTake e y = true
      · rw [← take_unique law queued mem same]
        exact .inr (completeTake_finished e status applied s).2
      · refine .inl ?_
        rw [completeTake_queue]
        exact List.mem_filter.mpr ⟨mem, by simpa using same⟩

/-- After the joined entries have completed none is in the queue, and each that was has the record's outcome. -/
theorem foldl_completeJoined_ends (l : List JoinedEntry) : ∀ {s : State}, TakeLaw s.tke → ∀ j ∈ l,
    (∀ x ∈ (l.foldl (completeJoined status applied) s).tke.queue, ¬ (x.port = j.port ∧ x.tag = j.tag)) ∧
    ∀ e ∈ s.tke.queue, e.port = j.port → e.tag = j.tag →
      completionOf e status applied ∈ (l.foldl (completeJoined status applied) s).tke.completions.get j.port := by
  induction l with
  | nil => exact fun _ j joined => nomatch joined
  | cons i rest ih =>
    intro s law j joined
    obtain ⟨stays, leaves⟩ := completeJoined_spec status applied law i
    have law' := completeJoined_takeLaw status applied law i
    have on := foldl_completeJoined_goesOn status applied rest (completeJoined status applied s i)
    have kept : ∀ e ∈ s.tke.queue, e.port = j.port → (e ∈ (completeJoined status applied s i).tke.queue →
        completionOf e status applied ∈ (rest.foldl (completeJoined status applied)
          (completeJoined status applied s i)).tke.completions.get j.port) →
        completionOf e status applied ∈ (rest.foldl (completeJoined status applied)
          (completeJoined status applied s i)).tke.completions.get j.port := by
      intro e queued port later
      rcases leaves e queued with still | done
      · exact later still
      · exact on.records _ _ (port ▸ done)
    rcases List.mem_cons.mp joined with rfl | inRest
    · refine ⟨fun x mem named => ?_, fun e queued port tag => kept e queued port fun still => ?_⟩
      · obtain ⟨y, memY, same⟩ := on.entries x x mem
        have isY : y.port = x.port ∧ y.tag = x.tag := by simpa [sameTake] using same.symm
        exact (stays y memY).2 ⟨isY.1.trans named.1, isY.2.trans named.2⟩
      · exact absurd ⟨port, tag⟩ (stays e still).2
    · obtain ⟨gone, done⟩ := ih law' j inRest
      exact ⟨gone, fun e queued port tag => kept e queued port fun still => done e still port tag⟩

theorem foldl_completeJoined_queue (l : List JoinedEntry) :
    ∀ s : State, ∀ x ∈ (l.foldl (completeJoined status applied) s).tke.queue, x ∈ s.tke.queue := by
  induction l with
  | nil => exact fun _ _ mem => mem
  | cons j rest ih =>
    intro s x mem
    have first := ih _ x mem
    unfold completeJoined at first
    split at first
    · exact first
    · rw [completeTake_queue] at first
      exact List.mem_of_mem_filter first

end

/-- The applied frame of a record's outcome (R87). -/
def endFrameOf (status : TakeStatus) (n : Negotiation) (count : Word32) : Word32 :=
  if status = .done then n.lineFrame else count + 1

theorem endNegotiation_eq {s : State} {n : Negotiation} (record : s.opr.negotiation = some n) (status : TakeStatus) :
    endNegotiation status s =
      n.entries.foldl (completeJoined status (endFrameOf status n s.fcy.count)) (setNegotiation none s) := by
  rw [endNegotiation, record]
  rfl

/-- The end of a record: no record is left, its entries have their outcome, and the rest of the queue stands. -/
theorem endNegotiation_spec {s : State} {n : Negotiation} (record : s.opr.negotiation = some n)
    (law : TakeLaw s.tke) (status : TakeStatus) :
    (endNegotiation status s).opr.negotiation = none ∧
    JoinedEnd n status (endFrameOf status n s.fcy.count) s (endNegotiation status s) ∧
    (∀ x ∈ (endNegotiation status s).tke.queue, x ∈ s.tke.queue) ∧
    (endNegotiation status s).tke.flushMark = s.tke.flushMark := by
  rw [endNegotiation_eq record]
  refine ⟨by simp [setNegotiation], ?_, foldl_completeJoined_queue _ _ _ _,
    (foldl_completeJoined_goesOn _ _ n.entries (setNegotiation none s)).flush⟩
  exact foldl_completeJoined_ends _ _ n.entries (s := setNegotiation none s) law

theorem endNegotiation_of_none {s : State} (free : s.opr.negotiation = none) (status : TakeStatus) :
    endNegotiation status s = s := by
  rw [endNegotiation, free]

/-- A role change outside the negotiation: the new role with FAULT, and the record ended SWAP FAILED (R167, R170, R171). -/
theorem forceRole_spec (r : Role) {s : State} (law : TakeLaw s.tke) :
    (forceRole r s).opr.role = r ∧ (forceRole r s).opr.negotiation = none ∧ RoleFault (forceRole r s) ∧
    ∀ n, s.opr.negotiation = some n → JoinedEnd n .swapFailed (s.fcy.count + 1) s (forceRole r s) := by
  have faulted : RoleFault (forceRole r s) := roleFault_raiseFault _
  cases record : s.opr.negotiation with
  | none =>
    have ended : endNegotiation .swapFailed (setRole r s) = setRole r s :=
      endNegotiation_of_none (by simpa using record) _
    exact ⟨forceRole_role r s, by simp [forceRole, ended, record], faulted, nofun⟩
  | some n =>
    obtain ⟨free, joined, -, -⟩ := endNegotiation_spec (s := setRole r s) (by simpa using record) law .swapFailed
    refine ⟨forceRole_role r s, by simpa [forceRole] using free, faulted, ?_⟩
    rintro m ⟨⟩
    exact joined.of_takes rfl (by simp [forceRole]) (by simp [forceRole])

/-! ### After the role changes of a pulse (R77, R92, R163) -/

theorem applyTakes_goesOn (s : State) (k : Nat) : ∃ most, TakesGoOn most s (applyTakes s k).1 :=
  ⟨_, (TakesGoOn.foldl_applyEntry (dueEntries s) (s, k)).trans (.stepSweep s.tke.queue _)⟩

/-- With every entry NEGOTIATING none is due and no sweep runs (R77). -/
theorem applyTakes_of_negotiating {s : State} (idle : ∀ e ∈ s.tke.queue, e.state = .negotiating) (k : Nat) :
    applyTakes s k = (s, k) := by
  have none_due : dueEntries s = [] :=
    List.filter_eq_nil_iff.mpr fun e mem => by simp [isWaiting, idle e mem]
  have none_sweeps : s.tke.queue.find? isSweeping = none :=
    List.find?_eq_none.mpr fun e mem => by simp [isSweeping, idle e mem]
  simp [applyTakes, none_due, none_sweeps, stepSweep]

/-- The part u stands at the end of a pulse whose role changes leave x with k SWAP takes applied. -/
structure PulseGoesOn (x : State) (k : Nat) (u : State) : Prop where
  role : u.opr.role = x.opr.role
  record : u.opr.negotiation = x.opr.negotiation
  inStep : u.opr.inStep = x.opr.inStep
  count : u.fcy.count = x.fcy.count
  notices : NoticesGrow x u
  alarmed : alarm x = true → alarm u = true
  joined : ∀ {n : Negotiation} {status : TakeStatus} {applied : Word32} {s : State},
    JoinedEnd n status applied s x → JoinedEnd n status applied s u
  ts : (∀ e ∈ x.tke.queue, e.state = .negotiating) → u.tke.ts = tsFor x.tke.flushMark k

/-- What follows the role changes of a pulse clears no notice. -/
theorem servingPulse_notices (t : Time) (palarm : Bool) (s : State) :
    NoticesGrow (pairDone t palarm s).1 (servingPulse t palarm s) := by
  obtain ⟨x, isX⟩ : ∃ x, x = (pairDone t palarm s).1 := ⟨_, rfl⟩
  have begun : NoticesGrow x (compositionStart x (pairDone t palarm s).2).1 :=
    .beginComposition (.of_same (by simp))
  rw [← isX]
  have gone : NoticesGrow x (gapPulse (setTsCode (compositionStart x (pairDone t palarm s).2).2
      (compositionStart x (pairDone t palarm s).2).1)) := .gapPulse (begun.trans (.of_same (by simp)))
  subst isX
  exact gone.trans (.of_same (by rw [servingPulse]; simp [pairDone, periodEnded]))

theorem servingPulse_goesOn (t : Time) (palarm : Bool) (s : State) :
    PulseGoesOn (pairDone t palarm s).1 (pairDone t palarm s).2 (servingPulse t palarm s) := by
  obtain ⟨role, record, inStep, -, -, -, -, -, count⟩ := servingPulse_pair t palarm s
  obtain ⟨-, -, -, takes⟩ := servingPulse_takes t palarm s _ rfl
  have notices := servingPulse_notices t palarm s
  refine ⟨role, record, inStep, count, notices, ?_, fun {n status applied s'} ended => ?_, fun idle => ?_⟩
  · refine alarm_of_grow notices ?_ ?_ ?_
    · simp [pairDone, periodEnded]
    · obtain ⟨ref, -⟩ := servingPulse_leaves_cycle t palarm s
      rw [ref]
      simp [pairDone, periodEnded, endOfPeriod_fcy]
    · simp [pairDone, periodEnded]
  · obtain ⟨most, on⟩ := applyTakes_goesOn (pairDone t palarm s).1 (pairDone t palarm s).2
    exact (ended.goesOn on).of_takes rfl (by rw [takes]) (by rw [takes])
  · rw [takes, applyTakes_of_negotiating idle, ← tsCodeOf_eq]

end Sys2Proof.Machine
end

section
/-! PROOFS. The pair unit when the period a pulse ends has been judged: presence, count and step (R164 to R166), and the loss
of the partner. -/

namespace Sys2Proof.Machine

/-! ### Presence (R164) -/

/-- The presence test of a period that does not lose the partner: the counts alone move. -/
theorem partnerPresence_stays {s : State}
    (stays : s.opr.partnerPresent = false ∨ s.opr.inHand.isSome ∨ s.opr.missed < 2) : ∃ missed loss,
    partnerPresence s = s.onOpr (fun o => { o with missed := missed, lossCount := loss }) ∧
    (missed = if s.opr.inHand.isSome then 0 else min 3 (s.opr.missed + 1)) ∧
    (s.opr.partnerPresent = false → loss = min 25 (s.opr.lossCount + 1)) := by
  obtain ⟨count, made, eq⟩ := partnerPresence_eq s
  cases present : s.opr.partnerPresent with
  | false => exact ⟨count, _, by rw [eq, present]; rfl, made, fun _ => rfl⟩
  | true =>
    have few : count ≠ 3 := by
      rw [made]
      rcases stays with gone | held | short
      · exact absurd (present.symm.trans gone) (by decide)
      · rw [if_pos held]; decide
      · split <;> omega
    exact ⟨count, s.opr.lossCount, by rw [eq, present, if_pos rfl, if_neg few]; rfl, made, nofun⟩

/-- A PRESENT partner's third missed period loses it (R164). -/
theorem partnerPresence_loses {s : State} (present : s.opr.partnerPresent = true) (none_held : s.opr.inHand = none)
    (twice : s.opr.missed = 2) : partnerPresence s = losePartner (s.onOpr fun o => { o with missed := 3 }) := by
  obtain ⟨count, made, eq⟩ := partnerPresence_eq s
  have third : count = 3 := by simpa [none_held, twice] using made
  rw [eq, if_pos present, if_pos third, third]

/-- Leaving IN STEP is counted and raises STEP (R166). -/
theorem leaveStep_spec (s : State) : (leaveStep s).opr = { s.opr with inStep := false } ∧
    (leaveStep s).cnu.counters.stepLosses =
      (if s.opr.inStep then min 65535 (s.cnu.counters.stepLosses + 1) else s.cnu.counters.stepLosses) ∧
    (s.opr.inStep = true → ∀ p, ((leaveStep s).cnu.raised.get p).step = true) := by
  refine ⟨leaveStep_opr s, ?_⟩
  cases inStep : s.opr.inStep
  · simp [leaveStep, inStep]
  · simp only [leaveStep, inStep, if_true, raiseStep_fields, increase_counters]
    exact ⟨rfl, fun _ p => by cases p <;> rfl⟩

/-- A lost partner: OUT OF STEP, the loss count 0, and FAULT with the cause PARTNER LOST (R164, R166, R183). -/
theorem losePartner_spec (s : State) : (losePartner s).opr.partnerPresent = false ∧
    (losePartner s).opr.missed = s.opr.missed ∧ (losePartner s).opr.lossCount = 0 ∧
    (losePartner s).opr.inStep = false ∧ (losePartner s).cnu.counters.stepLosses =
      (if s.opr.inStep then min 65535 (s.cnu.counters.stepLosses + 1) else s.cnu.counters.stepLosses) ∧
    ∀ p, ((losePartner s).cnu.raised.get p).fault = true ∧ ((losePartner s).cnu.causes.get p).partnerLost = true ∧
      (s.opr.inStep = true → ((losePartner s).cnu.raised.get p).step = true) := by
  obtain ⟨v, isV, lost, step⟩ : ∃ v, losePartner s = raiseFault Causes.addPartner (leaveStep v) ∧
      v.opr.partnerPresent = false ∧ v.opr.missed = s.opr.missed ∧ v.opr.lossCount = 0 ∧
      v.opr.inStep = s.opr.inStep ∧ v.cnu = s.cnu := by
    refine ⟨_, rfl, ?_⟩
    cases inStep : s.opr.inStep <;> simp [inStep]
  obtain ⟨missed, loss, same, cnu⟩ := step
  obtain ⟨opr, losses, raised⟩ := leaveStep_spec v
  rw [same, cnu] at losses
  rw [isV]
  refine ⟨by simp [opr, lost], by simp [opr, missed], by simp [opr, loss], by simp [opr], by simpa using losses,
    fun p => ⟨by cases p <;> rfl, by cases p <;> rfl, fun inStep => ?_⟩⟩
  have now := raised (same.trans inStep) p
  cases p <;> exact now

/-! ### The step comparison (R166) -/

theorem sameFrame_iff (a b : Report) : sameFrame a b = true ↔ a.frame = b.frame ∧ a.airSeq = b.airSeq ∧
    a.runId = b.runId ∧ a.cursor = b.cursor ∧ a.level = b.level := by
  simp [sameFrame, and_assoc]

/-- A comparison that agrees: the eighth in a row makes the part IN STEP, with STEP. -/
theorem matchStep_spec (s : State) : (matchStep s).opr.matchRun = min 8 (s.opr.matchRun + 1) ∧
    (matchStep s).opr.mismatchRun = 0 ∧ (matchStep s).opr.inStep = (s.opr.inStep || decide (7 ≤ s.opr.matchRun)) ∧
    (matchStep s).cnu.counters = s.cnu.counters ∧
    (s.opr.inStep = false → 7 ≤ s.opr.matchRun → ∀ p, ((matchStep s).cnu.raised.get p).step = true) := by
  have eighth : min 8 (s.opr.matchRun + 1) = 8 ↔ 7 ≤ s.opr.matchRun := by omega
  unfold matchStep
  simp only [eighth]
  cases inStep : s.opr.inStep <;> by_cases seven : 7 ≤ s.opr.matchRun <;> simp [inStep, seven]
  intro p
  cases p <;> rfl

/-- A comparison that disagrees: the second in a row puts the part OUT OF STEP, counted and with STEP. -/
theorem mismatchStep_spec (s : State) : (mismatchStep s).opr.matchRun = 0 ∧
    (mismatchStep s).opr.mismatchRun = min 2 (s.opr.mismatchRun + 1) ∧
    (mismatchStep s).opr.inStep = (s.opr.inStep && decide (s.opr.mismatchRun = 0)) ∧
    (mismatchStep s).cnu.counters.stepLosses = (if s.opr.inStep = true ∧ 1 ≤ s.opr.mismatchRun
      then min 65535 (s.cnu.counters.stepLosses + 1) else s.cnu.counters.stepLosses) ∧
    (s.opr.inStep = true → 1 ≤ s.opr.mismatchRun → ∀ p, ((mismatchStep s).cnu.raised.get p).step = true) := by
  have second : min 2 (s.opr.mismatchRun + 1) = 2 ↔ 1 ≤ s.opr.mismatchRun := by omega
  unfold mismatchStep
  simp only [second]
  by_cases one : 1 ≤ s.opr.mismatchRun
  · obtain ⟨opr, losses, raised⟩ := leaveStep_spec
      (s.onOpr fun o => { o with matchRun := 0, mismatchRun := min 2 (s.opr.mismatchRun + 1) })
    have more : s.opr.mismatchRun ≠ 0 := by omega
    rw [if_pos one, opr, losses]
    exact ⟨rfl, rfl, by simp [more], by simp [one], fun inStep _ => raised inStep⟩
  · have zero : s.opr.mismatchRun = 0 := by omega
    rw [if_neg one]
    simp [zero]

/-- Without a report the match run ends and the rest stands. -/
theorem stepComparison_of_no_report {s : State} (none_held : s.opr.inHand = none) :
    stepComparison s = s.onOpr fun o => { o with matchRun := 0 } := by
  rw [stepComparison, none_held]

theorem stepComparison_match {s : State} {r : Report} (held : s.opr.inHand = some r)
    (agree : sameFrame (ownReport s) r = true) : stepComparison s = matchStep s := by
  rw [stepComparison, held]
  exact if_pos agree

theorem stepComparison_mismatch {s : State} {r : Report} (held : s.opr.inHand = some r)
    (differ : ¬ sameFrame (ownReport s) r = true) : stepComparison s = mismatchStep s := by
  rw [stepComparison, held]
  exact if_neg differ

/-! ### The period judged -/

theorem nextCount_congr {s t : State} (role : t.opr.role = s.opr.role) (inHand : t.opr.inHand = s.opr.inHand)
    (sent : t.opr.sent = s.opr.sent) (count : t.fcy.count = s.fcy.count) : nextCount t = nextCount s := by
  unfold nextCount ownReport
  rw [role, inHand, sent, count]

/-- The part p, in which the period has been judged, differs from s in the count, the notices and the pair unit's presence
and step alone, of what the role changes read. -/
structure Judged (palarm : Bool) (s p : State) : Prop where
  role : p.opr.role = s.opr.role
  record : p.opr.negotiation = s.opr.negotiation
  inHand : p.opr.inHand = s.opr.inHand
  mains : p.opr.mains = s.opr.mains
  sent : p.opr.sent = s.opr.sent
  strap : p.opr.strap = s.opr.strap
  autoTakeover : p.opr.autoTakeover = s.opr.autoTakeover
  palarm : p.palarm = palarm
  takes : p.tke = s.tke
  count : p.fcy.count = nextCount s
  alarmed : alarm s = true → alarm p = true

/-- The presence test leaves the reports showing MAIN. -/
theorem presence_mains (s : State) : (whenPaired partnerPresence s).opr.mains = s.opr.mains :=
  whenPaired_of (P := fun t => t.opr.mains = s.opr.mains) (by simp) rfl

theorem comparison_mains (s : State) : (whenPaired stepComparison s).opr.mains = s.opr.mains :=
  whenPaired_of (P := fun t => t.opr.mains = s.opr.mains) (by simp) rfl

theorem periodEnded_judged (t : Time) (palarm : Bool) (s : State) : Judged palarm s (periodEnded t palarm s) := by
  have next : nextCount (whenPaired partnerPresence (sampleAlarm palarm s)) = nextCount s :=
    nextCount_congr (by simp) (by simp) (by simp) (by simp)
  refine ⟨by simp [periodEnded], by simp [periodEnded], by simp [periodEnded], ?_, by simp [periodEnded],
    by simp [periodEnded], by simp [periodEnded], by simp [periodEnded], by simp [periodEnded], ?_, ?_⟩
  · simp [periodEnded, comparison_mains, presence_mains]
  · simp [periodEnded, endOfPeriod_fcy, next]
  · exact alarm_of_grow (.periodEnded t palarm s) (by simp [periodEnded]) (by simp [periodEnded, endOfPeriod_fcy])
      (by simp [periodEnded])

/-- The part before its step comparison. -/
def presenceJudged (t : Time) (palarm : Bool) (s : State) : State :=
  abandon (display (advance t (nextCount (partnerPresence (sampleAlarm palarm s))) (partnerPresence (sampleAlarm palarm s))))

section
variable {s : State} (isPaired : s.opr.role ≠ .sole) (t : Time) (palarm : Bool)
include isPaired

theorem periodEnded_of_paired : periodEnded t palarm s = stepComparison (presenceJudged t palarm s) := by
  have first : whenPaired partnerPresence (sampleAlarm palarm s) = partnerPresence (sampleAlarm palarm s) :=
    if_pos (by simpa [paired] using isPaired)
  rw [periodEnded]
  simp only [first]
  exact if_pos (by simpa [paired] using isPaired)

omit isPaired in
theorem presenceJudged_spec : (presenceJudged t palarm s).opr =
      { (partnerPresence (sampleAlarm palarm s)).opr with
        frameLineMode := (partnerPresence (sampleAlarm palarm s)).opr.nextLineMode } ∧
    (presenceJudged t palarm s).cnu.counters.stepLosses =
      (partnerPresence (sampleAlarm palarm s)).cnu.counters.stepLosses ∧
    NoticesGrow (partnerPresence (sampleAlarm palarm s)) (presenceJudged t palarm s) :=
  ⟨by simp [presenceJudged, advance], by simp [presenceJudged], .abandon (.of_same (by simp))⟩

/-- A period that does not lose the partner, before the step comparison: the counts of R164, and the step state as it was. -/
theorem presenceJudged_stays (stays : s.opr.partnerPresent = false ∨ s.opr.inHand.isSome ∨ s.opr.missed < 2) :
    ∃ d, periodEnded t palarm s = stepComparison d ∧ d.opr.inHand = s.opr.inHand ∧ d.opr.sent = s.opr.sent ∧
      (d.opr.missed = if s.opr.inHand.isSome then 0 else min 3 (s.opr.missed + 1)) ∧
      d.opr.partnerPresent = s.opr.partnerPresent ∧
      (s.opr.partnerPresent = false → d.opr.lossCount = min 25 (s.opr.lossCount + 1)) ∧
      d.opr.matchRun = s.opr.matchRun ∧ d.opr.mismatchRun = s.opr.mismatchRun ∧ d.opr.inStep = s.opr.inStep ∧
      d.cnu.counters.stepLosses = s.cnu.counters.stepLosses := by
  obtain ⟨missed, loss, eq, isMissed, isLoss⟩ := partnerPresence_stays (s := sampleAlarm palarm s) stays
  obtain ⟨opr, losses, -⟩ := presenceJudged_spec (s := s) t palarm
  rw [eq] at opr losses
  refine ⟨_, periodEnded_of_paired isPaired t palarm, ?_⟩
  rw [opr, losses]
  exact ⟨rfl, rfl, isMissed, rfl, isLoss, rfl, rfl, rfl, rfl⟩

/-- The presence of a partner whose period was not the third missed (R164). -/
theorem periodEnded_presence (stays : s.opr.partnerPresent = false ∨ s.opr.inHand.isSome ∨ s.opr.missed < 2) :
    (periodEnded t palarm s).opr.partnerPresent = s.opr.partnerPresent ∧
    (s.opr.partnerPresent = false → (periodEnded t palarm s).opr.lossCount = min 25 (s.opr.lossCount + 1)) := by
  obtain ⟨d, eq, -, -, -, present, loss, -⟩ := presenceJudged_stays isPaired t palarm stays
  rw [eq]
  exact ⟨by simpa using present, by simpa using loss⟩

/-- The missed-period count at any pulse of a paired part (R164). -/
theorem periodEnded_missed : (periodEnded t palarm s).opr.missed =
    if s.opr.inHand.isSome then 0 else min 3 (s.opr.missed + 1) := by
  have counted : (partnerPresence (sampleAlarm palarm s)).opr.missed =
      if s.opr.inHand.isSome then 0 else min 3 (s.opr.missed + 1) := by
    obtain ⟨count, made, eq⟩ := partnerPresence_eq (sampleAlarm palarm s)
    have isCount : (partnerPresence (sampleAlarm palarm s)).opr.missed = count := by
      rw [eq]
      split
      · split <;> simp
      · rfl
    exact isCount.trans made
  obtain ⟨opr, -⟩ := presenceJudged_spec (s := s) t palarm
  rw [periodEnded_of_paired isPaired, ← counted]
  simp [opr]

/-- The third missed period of a PRESENT partner (R164, R166, R183). -/
theorem periodEnded_loses (present : s.opr.partnerPresent = true) (none_held : s.opr.inHand = none)
    (twice : s.opr.missed = 2) : ∃ p, p = periodEnded t palarm s ∧ p.opr.partnerPresent = false ∧ p.opr.missed = 3 ∧
      p.opr.lossCount = 0 ∧ p.opr.inStep = false ∧ p.opr.matchRun = 0 ∧
      p.cnu.counters.stepLosses =
        (if s.opr.inStep then min 65535 (s.cnu.counters.stepLosses + 1) else s.cnu.counters.stepLosses) ∧
      ∀ q, (p.cnu.raised.get q).fault = true ∧ (p.cnu.causes.get q).partnerLost = true ∧
        (s.opr.inStep = true → (p.cnu.raised.get q).step = true) := by
  obtain ⟨gone, missed, loss, step, losses, raised⟩ :=
    losePartner_spec ((sampleAlarm palarm s).onOpr fun o => { o with missed := 3 })
  obtain ⟨opr, same, grown⟩ := presenceJudged_spec (s := s) t palarm
  rw [partnerPresence_loses (s := sampleAlarm palarm s) present none_held twice] at opr same grown
  have none_now : (presenceJudged t palarm s).opr.inHand = none := by rw [opr]; simpa using none_held
  refine ⟨_, rfl, ?_⟩
  rw [periodEnded_of_paired isPaired, stepComparison_of_no_report none_now]
  simp only [State.opr_onOpr, State.cnu_onOpr]
  rw [opr, same]
  exact ⟨gone, missed, loss, step, trivial, losses, fun q => ⟨grown.fault q (raised q).1,
    grown.partnerLost q (raised q).2.1, fun inStep => grown.step q ((raised q).2.2 inStep)⟩⟩

end

/-! ### Presence and step after the pulse -/

/-- What the role changes and the rest of a pulse leave of presence and step. -/
theorem servingPulse_step (t : Time) (palarm : Bool) (s : State) :
    (servingPulse t palarm s).opr.missed = (periodEnded t palarm s).opr.missed ∧
    (servingPulse t palarm s).opr.lossCount = (periodEnded t palarm s).opr.lossCount ∧
    (servingPulse t palarm s).opr.partnerPresent = (periodEnded t palarm s).opr.partnerPresent ∧
    (servingPulse t palarm s).opr.matchRun = (periodEnded t palarm s).opr.matchRun ∧
    (servingPulse t palarm s).opr.mismatchRun = (periodEnded t palarm s).opr.mismatchRun ∧
    (servingPulse t palarm s).opr.inStep = (periodEnded t palarm s).opr.inStep ∧
    (servingPulse t palarm s).cnu.counters.stepLosses = (periodEnded t palarm s).cnu.counters.stepLosses := by
  obtain ⟨-, -, inStep, matches_, mismatches, present, missed, loss, -⟩ := servingPulse_pair t palarm s
  rw [inStep, matches_, mismatches, present, missed, loss]
  refine ⟨by simp [pairDone], by simp [pairDone], by simp [pairDone], by simp [pairDone], by simp [pairDone],
    by simp [pairDone], by simp [servingPulse, compositionStart, periodEnded]⟩

end Sys2Proof.Machine
end

section
/-! PROOFS. The loss of the partner, and presence and step at any pulse (R164, R166): the first two claims of O18. -/

namespace Sys2Proof.Machine

/-! ### Role changes clear no notice -/

namespace NoticesGrow

variable {s t : State}

theorem faultIfAutomatic {n : Negotiation} (h : NoticesGrow s t) : NoticesGrow s (faultIfAutomatic n t) := by
  unfold Machine.faultIfAutomatic
  split
  · exact raiseFault h fun _ => ⟨id, fun _ => rfl⟩
  · exact h

theorem setRole {r : Role} (h : NoticesGrow s t) : NoticesGrow s (setRole r t) := h.trans (of_same rfl)

theorem endNegotiation {status : TakeStatus} (h : NoticesGrow s t) : NoticesGrow s (endNegotiation status t) :=
  h.trans (of_same (by simp))

theorem forceRole {r : Role} (h : NoticesGrow s t) : NoticesGrow s (forceRole r t) :=
  raiseFault (endNegotiation (setRole h)) fun _ => ⟨id, fun _ => rfl⟩

theorem doStage {k : Nat} {n : Negotiation} (h : NoticesGrow s t) : NoticesGrow s (doStage k n t).1 := by
  unfold Machine.doStage
  split
  · unfold mainCommit
    split
    · exact h.trans (of_same rfl)
    · exact endNegotiation h
  · unfold mainHandOver
    split
    · exact faultIfAutomatic (setRole h)
    · exact h
  · unfold mainSettle
    split
    · exact h
    · split
      · exact endNegotiation (faultIfAutomatic (setRole h))
      · exact endNegotiation (faultIfAutomatic (setRole h))
  · exact h
  · unfold standbyAtMinus2
    split
    · exact endNegotiation h
    · exact h
  · unfold standbyAtMinus1
    split
    · exact h
    · exact h.trans (of_same rfl)
  · unfold standbyTake
    split
    · exact endNegotiation (faultIfAutomatic (setRole h))
    · exact endNegotiation h
  · exact h

theorem stageStep {acc : State × Nat} (h : NoticesGrow s acc.1) (k : Nat) : NoticesGrow s (stageStep acc k).1 := by
  unfold Machine.stageStep
  split
  · exact h
  · split
    · exact doStage (h.trans (of_same rfl))
    · exact h

theorem negotiationStages (h : NoticesGrow s t) : NoticesGrow s (negotiationStages t).1 := by
  have checked : NoticesGrow s (standbyCheck t) := by
    unfold standbyCheck
    split
    · exact h
    · split
      · exact h.trans (of_same rfl)
      · exact h
  simp only [Machine.negotiationStages, List.foldl_cons, List.foldl_nil]
  exact stageStep (stageStep (stageStep (stageStep checked 0) 1) 2) 3

/-- A role change that is made or not. -/
theorem forced {c : Prop} [Decidable c] {r : Role} (h : NoticesGrow s t) :
    NoticesGrow s (if c then Machine.forceRole r t else t) := by
  split
  · exact forceRole h
  · exact h

theorem roleChanges (before : Word32) (s : State) : NoticesGrow s (roleChanges before s).1 := by
  have auto : NoticesGrow s (autoNegotiate (Machine.negotiationStages s).1) := by
    unfold autoNegotiate
    split
    · exact (negotiationStages (refl s)).trans (of_same rfl)
    · exact negotiationStages (refl s)
  exact forced (forced (forced auto))

end NoticesGrow

/-- From the judged period to the end of the pulse no notice is cleared. -/
theorem servingPulse_notices_of_judged (t : Time) (palarm : Bool) (s : State) :
    NoticesGrow (periodEnded t palarm s) (servingPulse t palarm s) := by
  have changed : NoticesGrow (periodEnded t palarm s) (pairDone t palarm s).1 := by
    unfold pairDone pairChanges
    split
    · exact .roleChanges _ _
    · exact .refl _
  exact changed.trans (servingPulse_notices t palarm s)

/-! ### The loss of the partner (R164) -/

/-- The serving pulse that ends the third missed period. -/
theorem servingPulse_loses {s : State} (isPaired : s.opr.role ≠ .sole) (present : s.opr.partnerPresent = true)
    (none_held : s.opr.inHand = none) (twice : s.opr.missed = 2) (t : Time) (palarm : Bool) :
    ∃ u, u = servingPulse t palarm s ∧ u.opr.partnerPresent = false ∧ u.opr.missed = 3 ∧
      u.opr.lossCount = 0 ∧ u.opr.inStep = false ∧ u.opr.matchRun = 0 ∧
      u.cnu.counters.stepLosses =
        (if s.opr.inStep then min 65535 (s.cnu.counters.stepLosses + 1) else s.cnu.counters.stepLosses) ∧
      ∀ p, (u.cnu.raised.get p).fault = true ∧ (u.cnu.causes.get p).partnerLost = true ∧
        (s.opr.inStep = true → (u.cnu.raised.get p).step = true) := by
  obtain ⟨p, isP, gone, third, loss, outOfStep, run, losses, raised⟩ :=
    periodEnded_loses isPaired t palarm present none_held twice
  obtain ⟨missed, lossCount, partner, matchRun, -, inStep, stepLosses⟩ := servingPulse_step t palarm s
  have grown := servingPulse_notices_of_judged t palarm s
  rw [← isP] at missed lossCount partner matchRun inStep stepLosses grown
  exact ⟨_, rfl, partner.trans gone, missed.trans third, lossCount.trans loss, inStep.trans outOfStep,
    matchRun.trans run, stepLosses.trans losses, fun q => ⟨grown.fault q (raised q).1,
      grown.partnerLost q (raised q).2.1, fun was => grown.step q ((raised q).2.2 was)⟩⟩

/-- The first claim of O18: PARTNER_LOSS is the pulse that loses the partner (log 1). -/
theorem exec_partnerLoss {s : State} {t : Time} (palarm : Bool) (running : s.power = .running)
    (timer : s.fcy.timer = some t) (isPaired : s.opr.role ≠ .sole) (present : s.opr.partnerPresent = true)
    (none_held : s.opr.inHand = none) (twice : s.opr.missed = 2) :
    ∃ u, exec (.partnerLoss (.internal palarm)) s = .next u ∧ u.opr.partnerPresent = false ∧ u.opr.missed = 3 ∧
      u.opr.lossCount = 0 ∧ u.opr.inStep = false ∧ u.opr.matchRun = 0 ∧
      u.cnu.counters.stepLosses =
        (if s.opr.inStep then min 65535 (s.cnu.counters.stepLosses + 1) else s.cnu.counters.stepLosses) ∧
      ∀ p, (u.cnu.raised.get p).fault = true ∧ (u.cnu.causes.get p).partnerLost = true ∧
        (s.opr.inStep = true → (u.cnu.raised.get p).step = true) := by
  obtain ⟨u, isU, gone, rest⟩ := servingPulse_loses
    (s := s.onFcy fun f => { f with timer := some (t + Config.nominal f.rate) }) isPaired present none_held twice t palarm
  have pulse : pulseEvent (.internal palarm) s = u := (pulseEvent_internal timer palarm).trans isU.symm
  have named : partnerWentLost s (pulseEvent (.internal palarm) s) = true := by
    simp [partnerWentLost, present, pulse, gone]
  exact ⟨u, (congrArg Host.Outcome.next (whileRunning_comingAbout running named)).trans (congrArg _ pulse), gone, rest⟩

/-! ### Presence and step at any pulse (R164, R166) -/

section
variable {s : State} (isPaired : s.opr.role ≠ .sole) (t : Time) (palarm : Bool)
include isPaired

/-- The match run with a report in hand that agrees with the own report (R166). -/
theorem servingPulse_match {own r : Report} (sent : s.opr.sent = some own) (held : s.opr.inHand = some r)
    (agree : own.frame = r.frame ∧ own.airSeq = r.airSeq ∧ own.runId = r.runId ∧ own.cursor = r.cursor ∧
      own.level = r.level) :
    ∃ u, u = servingPulse t palarm s ∧ u.opr.matchRun = min 8 (s.opr.matchRun + 1) ∧ u.opr.mismatchRun = 0 ∧
      u.opr.inStep = (s.opr.inStep || decide (7 ≤ s.opr.matchRun)) ∧
      u.cnu.counters.stepLosses = s.cnu.counters.stepLosses ∧
      (s.opr.inStep = false → 7 ≤ s.opr.matchRun → ∀ p, (u.cnu.raised.get p).step = true) := by
  obtain ⟨d, eq, hand, own_sent, -, -, -, run, -, step, losses⟩ :=
    presenceJudged_stays isPaired t palarm (.inr (.inl (by rw [held]; rfl)))
  have isOwn : ownReport d = own := by rw [ownReport, own_sent, sent]; rfl
  rw [stepComparison_match (hand.trans held) (by rw [isOwn]; exact (sameFrame_iff own r).mpr agree)] at eq
  obtain ⟨run', mismatch', step', losses', raised⟩ := matchStep_spec d
  rw [run] at run' step' raised
  rw [step] at step' raised
  obtain ⟨-, -, -, matchRun, mismatchRun, inStep, stepLosses⟩ := servingPulse_step t palarm s
  have grown := servingPulse_notices_of_judged t palarm s
  rw [eq] at matchRun mismatchRun inStep stepLosses grown
  exact ⟨_, rfl, matchRun.trans run', mismatchRun.trans mismatch', inStep.trans step',
    stepLosses.trans ((congrArg _ losses').trans losses), fun out seven p => grown.step p (raised out seven p)⟩

/-- The mismatch run with a report in hand that does not agree with the own report (R166). -/
theorem servingPulse_mismatch {own r : Report} (sent : s.opr.sent = some own) (held : s.opr.inHand = some r)
    (differ : ¬ (own.frame = r.frame ∧ own.airSeq = r.airSeq ∧ own.runId = r.runId ∧ own.cursor = r.cursor ∧
      own.level = r.level)) :
    ∃ u, u = servingPulse t palarm s ∧ u.opr.matchRun = 0 ∧ u.opr.mismatchRun = min 2 (s.opr.mismatchRun + 1) ∧
      u.opr.inStep = (s.opr.inStep && decide (s.opr.mismatchRun = 0)) ∧
      u.cnu.counters.stepLosses = (if s.opr.inStep = true ∧ 1 ≤ s.opr.mismatchRun
        then min 65535 (s.cnu.counters.stepLosses + 1) else s.cnu.counters.stepLosses) ∧
      (s.opr.inStep = true → 1 ≤ s.opr.mismatchRun → ∀ p, (u.cnu.raised.get p).step = true) := by
  obtain ⟨d, eq, hand, own_sent, -, -, -, -, run, step, losses⟩ :=
    presenceJudged_stays isPaired t palarm (.inr (.inl (by rw [held]; rfl)))
  have isOwn : ownReport d = own := by rw [ownReport, own_sent, sent]; rfl
  rw [stepComparison_mismatch (hand.trans held) (by rw [isOwn]; exact mt (sameFrame_iff own r).mp differ)] at eq
  obtain ⟨run', mismatch', step', losses', raised⟩ := mismatchStep_spec d
  rw [run] at mismatch' step' losses' raised
  rw [step] at step' losses' raised
  rw [losses] at losses'
  obtain ⟨-, -, -, matchRun, mismatchRun, inStep, stepLosses⟩ := servingPulse_step t palarm s
  have grown := servingPulse_notices_of_judged t palarm s
  rw [eq] at matchRun mismatchRun inStep stepLosses grown
  exact ⟨_, rfl, matchRun.trans run', mismatchRun.trans mismatch', inStep.trans step', stepLosses.trans losses',
    fun was second p => grown.step p (raised was second p)⟩

/-- Without a report, and without the loss of the partner, the match run alone is ended (R166). -/
theorem servingPulse_no_report (none_held : s.opr.inHand = none)
    (stays : s.opr.partnerPresent = false ∨ s.opr.missed < 2) :
    ∃ u, u = servingPulse t palarm s ∧ u.opr.matchRun = 0 ∧ u.opr.mismatchRun = s.opr.mismatchRun ∧
      u.opr.inStep = s.opr.inStep ∧ u.cnu.counters.stepLosses = s.cnu.counters.stepLosses := by
  obtain ⟨d, eq, hand, -, -, -, -, -, run, step, losses⟩ :=
    presenceJudged_stays isPaired t palarm (stays.imp_right .inr)
  rw [stepComparison_of_no_report (hand.trans none_held)] at eq
  obtain ⟨-, -, -, matchRun, mismatchRun, inStep, stepLosses⟩ := servingPulse_step t palarm s
  rw [eq] at matchRun mismatchRun inStep stepLosses
  exact ⟨_, rfl, matchRun, mismatchRun.trans run, inStep.trans step, stepLosses.trans losses⟩

/-- The counts of presence (R164). -/
theorem servingPulse_presence : ∃ u, u = servingPulse t palarm s ∧
    u.opr.missed = (if s.opr.inHand.isSome then 0 else min 3 (s.opr.missed + 1)) ∧
    (s.opr.partnerPresent = false → u.opr.partnerPresent = false ∧ u.opr.lossCount = min 25 (s.opr.lossCount + 1)) ∧
    (s.opr.partnerPresent = true → (s.opr.inHand.isSome ∨ s.opr.missed < 2) → u.opr.partnerPresent = true) := by
  obtain ⟨missed, loss, partner, -⟩ := servingPulse_step t palarm s
  refine ⟨_, rfl, missed.trans (periodEnded_missed isPaired t palarm), fun gone => ?_, fun present kept => ?_⟩
  · obtain ⟨same, counted⟩ := periodEnded_presence isPaired t palarm (.inl gone)
    exact ⟨partner.trans (same.trans gone), loss.trans (counted gone)⟩
  · exact partner.trans ((periodEnded_presence isPaired t palarm (.inr kept)).1.trans present)

end

end Sys2Proof.Machine
end

section
/-! PROOFS. The stages of a negotiation at a pulse (R167 to R170): the third claim of O18. -/

namespace Sys2Proof.Machine

/-! ### Frames -/

theorem reached_self (f : Word32) : reached f f = true := by
  simp [reached]

theorem not_reached_next (f : Word32) : reached (f + 1#32) f = false := by
  simp only [reached, decide_eq_false_iff_not]
  bv_omega

/-- Pulse F is the one that makes the count F (R168). -/
theorem isPulse_next (f before : Word32) : isPulse f before (before + 1) = true ↔ f = before + 1 := by
  simp only [isPulse, reached, Bool.and_eq_true, Bool.not_eq_true', decide_eq_true_eq, decide_eq_false_iff_not]
  constructor
  · rintro ⟨now, late⟩
    bv_omega
  · rintro rfl
    exact ⟨by bv_omega, by bv_omega⟩

/-! ### Which stage falls due (log 18) -/

/-- A stage keeps the record's line frame and the stage frames behind it, or ends the record. -/
theorem doStage_record (k : Nat) {n m : Negotiation} {s : State} (record : s.opr.negotiation = some n)
    (after : (doStage k n s).1.opr.negotiation = some m) : m.passed = n.passed ∧ m.lineFrame = n.lineFrame := by
  have ended : ∀ status t, t.opr.negotiation = some n → (endNegotiation status t).opr.negotiation = none := by
    intro status t known
    rw [endNegotiation_eq known]
    simp [setNegotiation]
  have stands : ∀ t : State, t.opr.negotiation = some n → t.opr.negotiation = some m →
      m.passed = n.passed ∧ m.lineFrame = n.lineFrame := by
    intro t known same
    obtain rfl := Option.some.inj (known.symm.trans same)
    exact ⟨rfl, rfl⟩
  have gone : ∀ status t, t.opr.negotiation = some n → (endNegotiation status t).opr.negotiation = some m →
      m.passed = n.passed ∧ m.lineFrame = n.lineFrame :=
    fun status t known same => nomatch (ended status t known).symm.trans same
  have replaced : ∀ x : Negotiation, x.passed = n.passed → x.lineFrame = n.lineFrame →
      (setNegotiation (some x) s).opr.negotiation = some m → m.passed = n.passed ∧ m.lineFrame = n.lineFrame := by
    intro x passed line same
    obtain rfl := Option.some.inj same
    exact ⟨passed, line⟩
  have changed : ∀ r, (faultIfAutomatic n (setRole r s)).opr.negotiation = some n :=
    fun r => by simpa using record
  unfold doStage at after
  split at after
  · unfold mainCommit at after
    split at after
    · exact replaced { n with stage := .released } rfl rfl after
    · exact gone _ _ record after
  · unfold mainHandOver at after
    split at after
    · exact stands _ (changed _) after
    · exact stands _ record after
  · unfold mainSettle at after
    split at after
    · exact stands _ record after
    · split at after
      · exact gone _ _ (changed _) after
      · exact gone _ _ (changed _) after
  · exact stands _ record after
  · unfold standbyAtMinus2 at after
    split at after
    · exact gone _ _ record after
    · exact stands _ record after
  · unfold standbyAtMinus1 at after
    split at after
    · exact stands _ record after
    · exact replaced { n with stage := .withdrawn } rfl rfl after
  · unfold standbyTake at after
    split at after
    · exact gone _ _ (changed _) after
    · exact gone _ _ record after
  · exact stands _ record after

theorem stageStep_stands {acc : State × Nat} {k : Nat}
    (early : ∀ n, acc.1.opr.negotiation = some n → stageDue k n acc.1.fcy.count = false) : stageStep acc k = acc := by
  unfold stageStep
  split
  · rfl
  · next n record => rw [if_neg (by simp [early n record])]

/-- A stage of another number than the record's next does not fall due. -/
theorem stageStep_other {acc : State × Nat} {k : Nat}
    (other : ∀ n, acc.1.opr.negotiation = some n → n.passed ≠ k) : stageStep acc k = acc :=
  stageStep_stands fun n record => by simp [stageDue, other n record]

theorem stageStep_due {acc : State × Nat} {k : Nat} {n : Negotiation} (record : acc.1.opr.negotiation = some n)
    (due : stageDue k n acc.1.fcy.count = true) : stageStep acc k =
      ((doStage k { n with passed := k + 1 } (setNegotiation (some { n with passed := k + 1 }) acc.1)).1,
        acc.2 + (doStage k { n with passed := k + 1 } (setNegotiation (some { n with passed := k + 1 }) acc.1)).2) := by
  unfold stageStep
  rw [record]
  exact if_pos due

/-- The part in which stage k of a record is dealt with: the record has passed it. -/
def atStage (k : Nat) (n : Negotiation) (s : State) : State := setNegotiation (some { n with passed := k + 1 }) s

/-- The outcome of stage k of a record, with the takes it applies. -/
def stageOutcome (k : Nat) (n : Negotiation) (s : State) : State × Nat :=
  doStage k { n with passed := k + 1 } (atStage k n s)

/-- At the frame of the record's next stage that stage is dealt with and no other. -/
theorem negotiationStages_at {s : State} {n : Negotiation} {k : Nat} (few : k ≤ 3)
    (record : (standbyCheck s).opr.negotiation = some n) (passed : n.passed = k)
    (frame : n.lineFrame - 2 + BitVec.ofNat 32 k = s.fcy.count) :
    negotiationStages s = stageOutcome k n (standbyCheck s) := by
  obtain ⟨c, isC⟩ : ∃ c, c = standbyCheck s := ⟨_, rfl⟩
  have count : c.fcy.count = s.fcy.count := by rw [isC]; simp
  have due : stageDue k n c.fcy.count = true := by
    simp only [stageDue, passed, count, frame, reached_self, decide_true, Bool.and_self]
  have made : stageStep (c, 0) k = stageOutcome k n c := by
    rw [stageStep_due (acc := (c, 0)) (isC ▸ record) due, Nat.zero_add]
    rfl
  have before : ∀ j, j ≠ k → stageStep (c, 0) j = (c, 0) := by
    intro j differs
    refine stageStep_other fun m known => ?_
    obtain rfl := Option.some.inj ((isC ▸ record).symm.trans known)
    exact fun same => differs (same.symm.trans passed)
  have after : ∀ j, k < j → stageStep (stageOutcome k n c) j = stageOutcome k n c := by
    intro j later
    refine stageStep_stands fun m known => ?_
    obtain ⟨isPassed, line⟩ := doStage_record k (s := atStage k n c) rfl known
    have next : n.lineFrame - 2 + BitVec.ofNat 32 (k + 1) = s.fcy.count + 1#32 := by
      rw [← frame, BitVec.ofNat_add]
      bv_omega
    by_cases same : j = k + 1
    · have unreached : reached (m.lineFrame - 2 + BitVec.ofNat 32 j) (stageOutcome k n c).1.fcy.count = false := by
        have countAfter : (stageOutcome k n c).1.fcy.count = s.fcy.count := by simp [stageOutcome, atStage, count]
        rw [line, same, countAfter]
        exact (congrArg (reached · _) next).trans (not_reached_next _)
      simp only [stageDue, unreached, Bool.and_false]
    · have other : m.passed ≠ j := fun isJ => same (isJ.symm.trans isPassed)
      simp [stageDue, other]
  rw [negotiationStages, ← isC]
  simp only [List.foldl_cons, List.foldl_nil]
  obtain rfl | rfl | rfl | rfl : k = 0 ∨ k = 1 ∨ k = 2 ∨ k = 3 := by omega
  · rw [made, after 1 (by decide), after 2 (by decide), after 3 (by decide)]
  · rw [before 0 (by decide), made, after 2 (by decide), after 3 (by decide)]
  · rw [before 0 (by decide), before 1 (by decide), made, after 3 (by decide)]
  · rw [before 0 (by decide), before 1 (by decide), before 2 (by decide), made]

/-! ### The standby's check (R169) -/

theorem standbyCheck_mainSide {s : State} {n : Negotiation} (record : s.opr.negotiation = some n)
    (side : n.side = .mainSide) : standbyCheck s = s := by
  simp [standbyCheck, record, side]

theorem standbyCheck_behind {s : State} {n : Negotiation} (record : s.opr.negotiation = some n)
    (passed : n.passed ≠ 0) (reached_ : reached (n.lineFrame - 1#32) s.fcy.count = true) : standbyCheck s = s := by
  simp [standbyCheck, record, stageDue, passed, reached_]

theorem standbyCheck_checks {s : State} {n : Negotiation} (record : s.opr.negotiation = some n)
    (side : n.side = .standbySide) (ahead : reached (n.lineFrame - 1#32) s.fcy.count = false) :
    standbyCheck s = setNegotiation (some (offerCheck n s)) s := by
  simp [standbyCheck, record, side, ahead]

/-- The check moves the stage of a record at most. -/
theorem standbyCheck_spec (s : State) : ∃ record, standbyCheck s = setNegotiation record s ∧
    (s.opr.negotiation = none → record = none) ∧
    ∀ n, s.opr.negotiation = some n → ∃ stage, record = some { n with stage := stage } := by
  have stands : s = setNegotiation s.opr.negotiation s := rfl
  unfold standbyCheck
  cases known : s.opr.negotiation with
  | none => exact ⟨none, stands.trans (by rw [known]), fun _ => rfl, nofun⟩
  | some n =>
    simp only []
    split
    · refine ⟨_, rfl, nofun, ?_⟩
      rintro m ⟨⟩
      unfold offerCheck
      split
      · exact ⟨_, rfl⟩
      · exact ⟨n.stage, rfl⟩
    · refine ⟨some n, stands.trans (by rw [known]), nofun, ?_⟩
      rintro m ⟨⟩
      exact ⟨n.stage, rfl⟩

/-- With no record, or none at its first stage frame, the check is all there is. -/
theorem negotiationStages_idle {s : State}
    (early : ∀ n, s.opr.negotiation = some n → n.passed = 0 ∧ reached (n.lineFrame - 2#32) s.fcy.count = false) :
    negotiationStages s = (standbyCheck s, 0) := by
  obtain ⟨record, eq, free, staged⟩ := standbyCheck_spec s
  have stands : ∀ k, stageStep (standbyCheck s, 0) k = (standbyCheck s, 0) := by
    intro k
    refine stageStep_stands fun m known => ?_
    have isRecord : record = some m := by rw [eq] at known; exact known
    cases before : s.opr.negotiation with
    | none => exact nomatch (free before).symm.trans isRecord
    | some n =>
      obtain ⟨stage, isM⟩ := staged n before
      obtain rfl := Option.some.inj (isM.symm.trans isRecord)
      obtain ⟨passed, ahead⟩ := early n before
      by_cases first : k = 0
      · subst first
        simp [stageDue, ahead, passed]
      · have other : 0 ≠ k := fun zero => first zero.symm
        simp [stageDue, passed, other]
  simp only [negotiationStages, List.foldl_cons, List.foldl_nil, stands]

/-! ### Takeover and contention that do not come about (R170, R171) -/

theorem autoNegotiate_stands {s : State} (idle : s.opr.role ≠ .standby ∨ s.opr.inStep = false ∨
    s.opr.negotiation ≠ none ∨ seesAlarm s = false) : autoNegotiate s = s := by
  refine if_neg fun all => ?_
  simp only [Bool.and_eq_true, decide_eq_true_eq, Option.isNone_iff_eq_none] at all
  obtain ⟨⟨⟨⟨role, -⟩, inStep⟩, free⟩, sees⟩ := all
  rcases idle with other | out | known | blind
  · exact other role
  · exact Bool.false_ne_true (out.symm.trans inStep)
  · exact known free
  · exact Bool.false_ne_true (blind.symm.trans sees)

theorem forcedTakeover_stands {s : State} (idle : s.opr.role ≠ .standby ∨ s.opr.partnerPresent = true) :
    forcedTakeover s = s := by
  refine if_neg fun all => ?_
  simp only [Bool.and_eq_true, decide_eq_true_eq, Bool.not_eq_true'] at all
  obtain ⟨⟨⟨⟨role, -⟩, lost⟩, -⟩, -⟩ := all
  exact idle.elim (· role) fun here => Bool.false_ne_true (lost.symm.trans here)

theorem selfRelease_stands {s : State}
    (idle : s.opr.role ≠ .main ∨ s.opr.partnerPresent = true ∨ s.palarm = true) : selfRelease s = s := by
  refine if_neg fun all => ?_
  simp only [Bool.and_eq_true, decide_eq_true_eq, Bool.not_eq_true'] at all
  obtain ⟨⟨⟨⟨role, -⟩, lost⟩, -⟩, quiet⟩ := all
  rcases idle with other | here | alarmed
  · exact other role
  · exact Bool.false_ne_true (lost.symm.trans here)
  · exact Bool.false_ne_true (quiet.symm.trans alarmed)

theorem contention_stands {before : Word32} {s : State}
    (idle : s.opr.role ≠ .main ∨ ∀ m ∈ s.opr.mains, yieldsTo before s m = false) : contention before s = s := by
  refine if_neg fun all => ?_
  simp only [Bool.and_eq_true, decide_eq_true_eq, List.any_eq_true] at all
  obtain ⟨role, m, shown, yields⟩ := all
  exact idle.elim (· role) fun calm => Bool.false_ne_true ((calm m shown).symm.trans yields)

/-- The role changes outside the negotiation's stages. -/
def otherChanges (before : Word32) (s : State) : State :=
  contention before (selfRelease (forcedTakeover (autoNegotiate s)))

theorem roleChanges_eq (before : Word32) (s : State) : roleChanges before s =
    (otherChanges before (negotiationStages s).1, (negotiationStages s).2) := rfl

/-- With the partner PRESENT and no report to yield to, what is left is the automatic negotiation. -/
theorem otherChanges_present {before : Word32} {s : State} (present : (autoNegotiate s).opr.partnerPresent = true)
    (calm : (autoNegotiate s).opr.role ≠ .main ∨
      ∀ m ∈ (autoNegotiate s).opr.mains, yieldsTo before (autoNegotiate s) m = false) :
    otherChanges before s = autoNegotiate s := by
  rw [otherChanges, forcedTakeover_stands (.inr present), selfRelease_stands (.inr (.inl present)), contention_stands calm]

/-- A report that carries RELEASE of the frame begun asks nobody to yield (R171). -/
theorem yieldsTo_released {before : Word32} {s : State} {m : Report} (count : s.fcy.count = before + 1)
    (release : m.swap = .release ∧ m.lineFrame = before + 1) : yieldsTo before s m = false := by
  have pulse : isPulse m.lineFrame before s.fcy.count = true := by rw [count]; exact (isPulse_next _ _).mpr release.2
  simp [yieldsTo, release.1, pulse]

theorem pairDone_of_paired {s : State} (isPaired : s.opr.role ≠ .sole) (t : Time) (palarm : Bool) :
    pairDone t palarm s = roleChanges s.fcy.count (periodEnded t palarm s) := by
  have pair : paired (periodEnded t palarm s) = true := by
    simpa [paired, (periodEnded_judged t palarm s).role] using isPaired
  rw [pairDone, pairChanges, if_pos pair]

end Sys2Proof.Machine
end

section
/-! PROOFS. The stages of a record at the pulse of a part whose partner stays PRESENT (R167 to R170): the third claim of
O18. -/

namespace Sys2Proof.Machine

/-! ### The pulse of a part with a record -/

/-- A paired part with a record, whose partner stays PRESENT at the next pulse and which does not sync its count there; what
`SwapPulse` says beside the timer. -/
structure Swaps (s : State) (n : Negotiation) : Prop where
  takes : TakeLaw s.tke
  record : s.opr.negotiation = some n
  present : s.opr.partnerPresent = true
  kept : s.opr.inHand.isSome ∨ s.opr.missed < 2
  noSync : s.opr.role = .standby → ∀ r, s.opr.inHand = some r →
    r.frame = match s.opr.sent with | none => 0#32 | some own => own.frame

theorem Swaps.count {s : State} {n : Negotiation} (h : Swaps s n) : nextCount s = s.fcy.count + 1 := by
  by_cases standby : s.opr.role = .standby
  · cases held : s.opr.inHand with
    | none => exact nextCount_of_no_sync (.inr held)
    | some r =>
      rw [nextCount_of_sync standby held]
      exact if_pos ((h.noSync standby r held).trans (ownReport_frame s).symm)
  · exact nextCount_of_no_sync (.inl standby)

/-- In p the period of s has been judged and the stages of the record n come next; u stands after the pulse. -/
structure StagePulse (palarm : Bool) (s p u : State) (n : Negotiation) : Prop where
  judged : Judged palarm s p
  record : p.opr.negotiation = some n
  present : p.opr.partnerPresent = true
  count : p.fcy.count = s.fcy.count + 1
  law : TakeLaw p.tke
  goesOn : PulseGoesOn (roleChanges s.fcy.count p).1 (roleChanges s.fcy.count p).2 u

theorem Swaps.pulse {s : State} {n : Negotiation} (h : Swaps s n) (isPaired : s.opr.role ≠ .sole) (t : Time)
    (palarm : Bool) : StagePulse palarm s (periodEnded t palarm s) (servingPulse t palarm s) n := by
  have judged := periodEnded_judged t palarm s
  exact ⟨judged, judged.record.trans h.record,
    (periodEnded_presence isPaired t palarm (.inr h.kept)).1.trans h.present, judged.count.trans h.count,
    judged.takes ▸ h.takes, pairDone_of_paired isPaired t palarm ▸ servingPulse_goesOn t palarm s⟩

/-- In p no report makes a MAIN yield. -/
theorem StagePulse.calm {palarm : Bool} {s p u x : State} {n : Negotiation} (h : StagePulse palarm s p u n)
    (quiet : NoContender s) (mains : x.opr.mains = p.opr.mains) (count : x.fcy.count = p.fcy.count) :
    ∀ m ∈ x.opr.mains, yieldsTo s.fcy.count x m = false := by
  rw [mains, h.judged.mains]
  exact fun m shown => yieldsTo_released (count.trans h.count) (quiet m shown)

/-- The pulse at a stage frame: the stage is dealt with, and no other role change comes about. -/
theorem StagePulse.outcome {palarm : Bool} {s p u : State} {n m : Negotiation} {k : Nat} (h : StagePulse palarm s p u n)
    (few : k ≤ 3) (checked : (standbyCheck p).opr.negotiation = some m) (passed : m.passed = k)
    (frame : m.lineFrame - 2 + BitVec.ofNat 32 k = s.fcy.count + 1) {x : State × Nat}
    (isX : x = stageOutcome k m (standbyCheck p))
    (idle : x.1.opr.role ≠ .standby ∨ x.1.opr.inStep = false ∨ x.1.opr.negotiation ≠ none ∨ seesAlarm x.1 = false)
    (calm : x.1.opr.role ≠ .main ∨ NoContender s) : PulseGoesOn x.1 x.2 u := by
  have auto := autoNegotiate_stands idle
  have present : x.1.opr.partnerPresent = true := by
    rw [isX]
    simpa [stageOutcome, atStage] using h.present
  have mains : x.1.opr.mains = p.opr.mains := by rw [isX]; simp [stageOutcome, atStage]
  have count : x.1.fcy.count = p.fcy.count := by rw [isX]; simp [stageOutcome, atStage]
  have others : otherChanges s.fcy.count x.1 = x.1 := by
    refine (otherChanges_present (by rw [auto]; exact present) ?_).trans auto
    rw [auto]
    exact calm.imp_right fun quiet => h.calm quiet mains count
  have stages := negotiationStages_at few checked passed (frame.trans h.count.symm)
  have eq : roleChanges s.fcy.count p = x := by rw [roleChanges_eq, stages, ← isX, others]
  exact eq ▸ h.goesOn

/-- After the pulse IN STEP is what the stages found. -/
theorem StagePulse.inStep {palarm : Bool} {s p u : State} {n : Negotiation} (h : StagePulse palarm s p u n) :
    u.opr.inStep = p.opr.inStep := by
  rw [h.goesOn.inStep]
  simp

/-! ### What each stage does -/

section
variable (n : Negotiation) (s : State)

theorem stageOutcome_main (side : n.side = .mainSide) :
    stageOutcome 1 n s = (mainCommit { n with passed := 2 } (atStage 1 n s), 0) ∧
    stageOutcome 2 n s = mainHandOver { n with passed := 3 } (atStage 2 n s) ∧
    stageOutcome 3 n s = (mainSettle { n with passed := 4 } (atStage 3 n s), 0) := by
  simp only [stageOutcome, doStage, side]
  exact ⟨trivial, trivial, trivial⟩

theorem stageOutcome_standby (side : n.side = .standbySide) :
    stageOutcome 0 n s = (standbyAtMinus2 { n with passed := 1 } (atStage 0 n s), 0) ∧
    stageOutcome 1 n s = (standbyAtMinus1 { n with passed := 2 } (atStage 1 n s), 0) ∧
    stageOutcome 2 n s = standbyTake { n with passed := 3 } (atStage 2 n s) := by
  simp only [stageOutcome, doStage, side]
  exact ⟨trivial, trivial, trivial⟩

end

/-- A record that ends at stage k has its outcome in its entries. -/
theorem stage_ends {n : Negotiation} {s v : State} {k : Nat} (law : TakeLaw s.tke) (tke : v.tke = s.tke)
    (record : v.opr.negotiation = some { n with passed := k + 1 }) (count : v.fcy.count = s.fcy.count)
    (status : TakeStatus) : (endNegotiation status v).opr.negotiation = none ∧
    JoinedEnd n status (endFrameOf status n s.fcy.count) s (endNegotiation status v) ∧
    (∀ x ∈ (endNegotiation status v).tke.queue, x ∈ s.tke.queue) ∧
    (endNegotiation status v).tke.flushMark = s.tke.flushMark := by
  obtain ⟨free, joined, queue, flush⟩ := endNegotiation_spec record (tke ▸ law) status
  rw [tke] at queue flush
  rw [count] at joined
  exact ⟨free, JoinedEnd.of_takes (n := n) joined (by rw [tke]) rfl rfl, queue, flush⟩

/-- A role change of a record, with FAULT when it began automatic, leaves the takes, the record and the count. -/
theorem changeRole_spec (n : Negotiation) (r : Role) (s : State) :
    (faultIfAutomatic n (setRole r s)).opr.role = r ∧ (faultIfAutomatic n (setRole r s)).tke = s.tke ∧
    (faultIfAutomatic n (setRole r s)).opr.negotiation = s.opr.negotiation ∧
    (faultIfAutomatic n (setRole r s)).fcy.count = s.fcy.count ∧
    (n.automatic = true → RoleFault (faultIfAutomatic n (setRole r s))) :=
  ⟨by simp [setRole], by simp, by simp, by simp, fun automatic => roleFault_faultIfAutomatic automatic _⟩

/-- The record's end leaves the role and the notices. -/
theorem endNegotiation_role (status : TakeStatus) (s : State) : (endNegotiation status s).opr.role = s.opr.role ∧
    NoticesGrow s (endNegotiation status s) :=
  ⟨by simp, .endNegotiation (.refl s)⟩

/-! ### The main side (R168) -/

section
variable {palarm : Bool} {s p u : State} {n : Negotiation} (h : StagePulse palarm s p u n)
  (side : n.side = .mainSide)
include h side

/-- The pulse at a stage frame of a main side record. -/
theorem StagePulse.mainOutcome {k : Nat} (few : k ≤ 3) (passed : n.passed = k)
    (frame : n.lineFrame - 2 + BitVec.ofNat 32 k = s.fcy.count + 1) {x : State × Nat} (isX : x = stageOutcome k n p)
    (idle : x.1.opr.role ≠ .standby ∨ x.1.opr.inStep = false ∨ x.1.opr.negotiation ≠ none ∨ seesAlarm x.1 = false)
    (calm : x.1.opr.role ≠ .main ∨ NoContender s) : PulseGoesOn x.1 x.2 u := by
  have unchecked := standbyCheck_mainSide h.record side
  exact h.outcome few (by rw [unchecked]; exact h.record) passed frame (by rw [unchecked]; exact isX) idle calm

/-- Pulse F - 1 on the main side (R168). -/
theorem StagePulse.atMainCommit (role : s.opr.role = .main) (quiet : NoContender s) (passed : n.passed = 1)
    (frame : n.lineFrame = s.fcy.count + 2) :
    (n.offerSeen = true → (n.entries ≠ [] ∨ n.origin = .automatic ∧ alarm s = true) →
      u.opr.role = .main ∧ u.opr.negotiation = some { n with stage := .released, passed := 2 }) ∧
    ((n.offerSeen = false ∨ n.entries = [] ∧ (n.origin ≠ .automatic ∨ alarm u = false)) →
      u.opr.role = .main ∧ u.opr.negotiation = none ∧ JoinedEnd n .swapFailed (s.fcy.count + 2) s u) := by
  obtain ⟨q, isQ⟩ : ∃ q, q = atStage 1 n p := ⟨_, rfl⟩
  have roleQ : q.opr.role = .main := by rw [isQ]; exact h.judged.role.trans role
  have alarmQ : alarm q = alarm p := by rw [isQ]; rfl
  have presentQ : q.opr.partnerPresent = true := by rw [isQ]; exact h.present
  have isCommit : stageOutcome 1 n p = (mainCommit { n with passed := 2 } q, 0) :=
    isQ ▸ (stageOutcome_main n p side).1
  have commits_iff : commits { n with passed := 2 } q = true ↔
      n.offerSeen = true ∧ (n.entries ≠ [] ∨ n.origin = .automatic ∧ alarm p = true) := by
    simp [commits, roleQ, presentQ, alarmQ]
  have roleAfter : (mainCommit { n with passed := 2 } q).opr.role = .main := by
    unfold mainCommit
    split
    · exact roleQ
    · exact (endNegotiation_role _ q).1.trans roleQ
  have on : PulseGoesOn (mainCommit { n with passed := 2 } q) 0 u :=
    h.mainOutcome side (k := 1) (by decide) passed (by rw [frame]; bv_omega) isCommit.symm
      (.inl (by rw [roleAfter]; decide)) (.inr quiet)
  refine ⟨fun seen meant => ?_, fun unmeant => ?_⟩
  · have commit : commits { n with passed := 2 } q = true :=
      commits_iff.mpr ⟨seen, meant.imp_right fun ⟨origin, alarmed⟩ => ⟨origin, h.judged.alarmed alarmed⟩⟩
    have eq : mainCommit { n with passed := 2 } q =
        setNegotiation (some { n with stage := .released, passed := 2 }) q := if_pos commit
    rw [eq] at on
    exact ⟨on.role.trans roleQ, on.record⟩
  · have declines : ¬ commits { n with passed := 2 } q = true := by
      rw [commits_iff]
      rintro ⟨seen, meant⟩
      rcases unmeant with unseen | ⟨none_joined, other⟩
      · exact Bool.false_ne_true (unseen.symm.trans seen)
      · obtain ⟨origin, alarmed⟩ := meant.resolve_left (· none_joined)
        refine other.elim (· origin) fun quietU => ?_
        have alarmX : alarm (mainCommit { n with passed := 2 } q) = true := by
          refine Eq.trans ?_ (alarmQ.trans alarmed)
          simp [alarm, anyTripped]
        exact Bool.false_ne_true (quietU.symm.trans (on.alarmed alarmX))
    have eq : mainCommit { n with passed := 2 } q = endNegotiation .swapFailed q := if_neg declines
    obtain ⟨free, joined, -⟩ := stage_ends (n := n) (k := 1) h.law (by rw [isQ]; rfl) (by rw [isQ]; rfl)
      (by rw [isQ]; rfl) .swapFailed (v := q)
    rw [eq] at on
    refine ⟨on.role.trans (eq ▸ roleAfter), on.record.trans free, ?_⟩
    have ended := on.joined joined
    rw [show endFrameOf .swapFailed n p.fcy.count = s.fcy.count + 2 by
      rw [endFrameOf, if_neg (by decide), h.count]; bv_omega] at ended
    exact ended.of_takes (by rw [h.judged.takes]) rfl rfl

/-- Pulse F on the main side: a RELEASED main hands over (R92, R168; log 16). -/
theorem StagePulse.atMainHandOver (role : s.opr.role = .main) (passed : n.passed = 2)
    (frame : n.lineFrame = s.fcy.count + 1) (stage : n.stage = .released) :
    u.opr.role = .handingOver ∧ u.opr.negotiation = some { n with passed := 3 } ∧
    (n.automatic = true → RoleFault u) ∧
    ((∀ e ∈ s.tke.queue, e.state = .negotiating) → u.tke.ts = tsFor s.tke.flushMark n.entries.length) := by
  obtain ⟨q, isQ⟩ : ∃ q, q = atStage 2 n p := ⟨_, rfl⟩
  have takesQ : q.tke = s.tke := by rw [isQ]; exact h.judged.takes
  have roleQ : q.opr.role = .main := by rw [isQ]; exact h.judged.role.trans role
  have recordQ : q.opr.negotiation = some { n with passed := 3 } := by rw [isQ]; rfl
  obtain ⟨roleX, takesX, recordX, -, faulted⟩ := changeRole_spec { n with passed := 3 } .handingOver q
  obtain ⟨x, isX⟩ : ∃ x, x = faultIfAutomatic { n with passed := 3 } (setRole .handingOver q) := ⟨_, rfl⟩
  rw [← isX] at roleX takesX recordX faulted
  have handsOver : stageOutcome 2 n p = (x, n.entries.length) := by
    rw [(stageOutcome_main n p side).2.1, ← isQ, isX]
    exact if_pos (by simp [stage, roleQ])
  have on := h.mainOutcome side (k := 2) (by decide) passed (by rw [frame]; bv_omega) handsOver.symm
    (.inl (by rw [roleX]; decide)) (.inl (by rw [roleX]; decide))
  refine ⟨on.role.trans roleX, on.record.trans (recordX.trans recordQ), fun automatic => (faulted automatic).grow on.notices,
    fun idle => ?_⟩
  have ts := on.ts (by rw [takesX, takesQ]; exact idle)
  rw [ts, takesX, takesQ]

/-- A HANDING OVER main that settles in a role, its record ended. -/
theorem StagePulse.settles {status : TakeStatus} {r : Role} (passed : n.passed = 3)
    (frame : n.lineFrame = s.fcy.count)
    (outcome : stageOutcome 3 n p = (endNegotiation status
      (faultIfAutomatic { n with passed := 4 } (setRole r (atStage 3 n p))), 0))
    (idle : r ≠ .standby ∨ seesAlarm p = false) (calm : r ≠ .main ∨ NoContender s) :
    u.opr.role = r ∧ u.opr.negotiation = none ∧ JoinedEnd n status (endFrameOf status n (s.fcy.count + 1)) s u ∧
    (n.automatic = true → RoleFault u) := by
  obtain ⟨q, isQ⟩ : ∃ q, q = faultIfAutomatic { n with passed := 4 } (setRole r (atStage 3 n p)) := ⟨_, rfl⟩
  obtain ⟨roleQ, takesQ, recordQ, countQ, faulted⟩ := changeRole_spec { n with passed := 4 } r (atStage 3 n p)
  rw [← isQ] at roleQ takesQ recordQ countQ faulted outcome
  obtain ⟨free, joined, -⟩ := stage_ends (n := n) (k := 3) (v := q) h.law takesQ recordQ countQ status
  obtain ⟨roleX, grown⟩ := endNegotiation_role status q
  have handX : (endNegotiation status q).opr.inHand = p.opr.inHand := by
    rw [isQ]
    simp [atStage]
  have sees : seesAlarm (endNegotiation status q) = seesAlarm p := by rw [seesAlarm, seesAlarm, handX]
  have on := h.mainOutcome side (k := 3) (by decide) passed (by rw [frame]; bv_omega) outcome.symm
    (idle.imp (by rw [roleX, roleQ]; exact id) fun blind => .inr (.inr (sees.trans blind)))
    (calm.imp_left (by rw [roleX, roleQ]; exact id))
  rw [h.count] at joined
  exact ⟨on.role.trans (roleX.trans roleQ), on.record.trans free,
    (on.joined joined).of_takes (by rw [h.judged.takes]) rfl rfl,
    fun automatic => (faulted automatic).grow (grown.trans on.notices)⟩

/-- Pulse F + 1 on the main side (R168). -/
theorem StagePulse.atMainSettle (role : s.opr.role = .handingOver) (passed : n.passed = 3)
    (frame : n.lineFrame = s.fcy.count) :
    ((∃ r, s.opr.inHand = some r ∧ r.frame = n.lineFrame ∧ r.role = .main ∧ r.alarm = false) →
      u.opr.role = .standby ∧ u.opr.negotiation = none ∧ JoinedEnd n .done n.lineFrame s u ∧
      (n.automatic = true → RoleFault u)) ∧
    ((∀ r, s.opr.inHand = some r → ¬ (r.frame = n.lineFrame ∧ r.role = .main)) → NoContender s →
      u.opr.role = .main ∧ u.opr.negotiation = none ∧ JoinedEnd n .swapFailed (s.fcy.count + 2) s u ∧
      (n.automatic = true → RoleFault u)) := by
  have roleQ : (atStage 3 n p).opr.role = .handingOver := h.judged.role.trans role
  have handQ : (atStage 3 n p).opr.inHand = s.opr.inHand := h.judged.inHand
  have settle : stageOutcome 3 n p = (mainSettle { n with passed := 4 } (atStage 3 n p), 0) :=
    (stageOutcome_main n p side).2.2
  have handing : ¬ (atStage 3 n p).opr.role ≠ .handingOver := fun other => other roleQ
  refine ⟨fun ⟨r, held, line, shows, quiet⟩ => ?_, fun untaken quiet => ?_⟩
  · have took : partnerTook { n with passed := 4 } (atStage 3 n p) = true := by
      simp [partnerTook, handQ, held, line, shows]
    have blind : seesAlarm p = false := by simp [seesAlarm, h.judged.inHand, held, quiet]
    rw [mainSettle, if_neg handing, if_pos took] at settle
    exact h.settles side passed frame settle (.inr blind) (.inl (by decide))
  · have kept : ¬ partnerTook { n with passed := 4 } (atStage 3 n p) = true := by
      unfold partnerTook
      rw [handQ]
      cases held : s.opr.inHand with
      | none => exact Bool.false_ne_true
      | some r => simpa using untaken r held
    rw [mainSettle, if_neg handing, if_neg kept] at settle
    have settled := h.settles side passed frame settle (.inl (by decide)) (.inr quiet)
    rwa [show endFrameOf .swapFailed n (s.fcy.count + 1) = s.fcy.count + 2 by
      rw [endFrameOf, if_neg (by decide)]; bv_omega] at settled

end

/-! ### The standby side (R169) -/

theorem offerCheck_open {m : Negotiation} (stage : m.stage = .waiting ∨ m.stage = .offering) (t : State) :
    offerCheck m t = { m with stage := if fit m t then .offering else .waiting } :=
  if_pos (by simpa using stage)

section
variable {palarm : Bool} {s p u : State} {n : Negotiation} (h : StagePulse palarm s p u n)
  (side : n.side = .standbySide) (role : s.opr.role = .standby)
include h side role

omit side role in
theorem StagePulse.fit_iff : fit n p = true ↔ u.opr.inStep = true ∨ n.force = true := by
  simp [fit, h.inStep]

/-- Before F - 2 the stage follows the step state (R169, step 1). -/
theorem StagePulse.beforeStages (passed : n.passed = 0)
    (first : reached (n.lineFrame - 2) (s.fcy.count + 1) = false)
    (second : reached (n.lineFrame - 1) (s.fcy.count + 1) = false)
    (stage : n.stage = .waiting ∨ n.stage = .offering) :
    u.opr.role = .standby ∧ u.opr.negotiation =
      some { n with stage := if u.opr.inStep = true ∨ n.force = true then .offering else .waiting } := by
  rw [← h.count] at first second
  have checked := standbyCheck_checks h.record side second
  rw [offerCheck_open stage] at checked
  have stages : negotiationStages p = (standbyCheck p, 0) := by
    refine negotiationStages_idle fun m known => ?_
    obtain rfl := Option.some.inj (h.record.symm.trans known)
    exact ⟨passed, first⟩
  have roleX : (standbyCheck p).opr.role = .standby := by
    rw [checked]
    exact h.judged.role.trans role
  have recordX : (standbyCheck p).opr.negotiation =
      some { n with stage := if fit n p then .offering else .waiting } := by rw [checked]; rfl
  have auto := autoNegotiate_stands (s := standbyCheck p) (.inr (.inr (.inl (by rw [recordX]; exact nofun))))
  have others : otherChanges s.fcy.count (standbyCheck p) = standbyCheck p := by
    refine (otherChanges_present ?_ (.inl ?_)).trans auto
    · rw [auto, checked]
      exact h.present
    · rw [auto, roleX]
      decide
  have eq : roleChanges s.fcy.count p = (standbyCheck p, 0) := by rw [roleChanges_eq, stages, others]
  have on : PulseGoesOn (standbyCheck p) 0 u := by
    have goes := h.goesOn
    rwa [eq] at goes
  refine ⟨on.role.trans roleX, on.record.trans (recordX.trans ?_)⟩
  simp only [h.fit_iff]

/-- Pulse F - 2 on the standby side: checked once more, a WAITING record ends NOT IN STEP (R169, step 2). -/
theorem StagePulse.atStandbyMinus2 (passed : n.passed = 0) (frame : n.lineFrame = s.fcy.count + 3)
    (stage : n.stage = .waiting ∨ n.stage = .offering) : u.opr.role = .standby ∧
    ((u.opr.inStep = true ∨ n.force = true) →
      u.opr.negotiation = some { n with stage := .offering, passed := 1 }) ∧
    (u.opr.inStep = false → n.force = false →
      u.opr.negotiation = none ∧ JoinedEnd n .notInStep (s.fcy.count + 2) s u) := by
  obtain ⟨m, isM⟩ : ∃ m : Negotiation, m = { n with stage := if fit n p then .offering else .waiting } := ⟨_, rfl⟩
  have sideM : m.side = .standbySide := by rw [isM]; exact side
  have passedM : m.passed = 0 := by rw [isM]; exact passed
  have frameM : m.lineFrame - 2 + BitVec.ofNat 32 0 = s.fcy.count + 1 := by rw [isM, frame]; bv_omega
  have second : reached (n.lineFrame - 1#32) p.fcy.count = false := by
    rw [h.count, frame, show s.fcy.count + 3 - 1#32 = s.fcy.count + 1 + 1#32 by bv_omega]
    exact not_reached_next _
  have checked := standbyCheck_checks h.record side second
  rw [offerCheck_open stage, ← isM] at checked
  have recordC : (standbyCheck p).opr.negotiation = some m := by rw [checked]; rfl
  obtain ⟨q, isQ⟩ : ∃ q, q = atStage 0 m (standbyCheck p) := ⟨_, rfl⟩
  have takesQ : q.tke = p.tke := by rw [isQ, checked]; rfl
  have roleQ : q.opr.role = .standby := by rw [isQ, checked]; exact h.judged.role.trans role
  have countQ : q.fcy.count = p.fcy.count := by rw [isQ, checked]; rfl
  have recordQ : q.opr.negotiation = some { m with passed := 1 } := by rw [isQ]; rfl
  have stepQ : q.opr.inStep = u.opr.inStep := by rw [isQ, checked, h.inStep]; rfl
  have outcome : stageOutcome 0 m (standbyCheck p) = (standbyAtMinus2 { m with passed := 1 } q, 0) :=
    isQ ▸ (stageOutcome_standby m _ sideM).1
  by_cases isFit : u.opr.inStep = true ∨ n.force = true
  · have offering : m.stage = .offering := by rw [isM]; exact if_pos (h.fit_iff.mpr isFit)
    have eq : standbyAtMinus2 { m with passed := 1 } q = q := if_neg (by simp [offering])
    rw [eq] at outcome
    have on := h.outcome (k := 0) (by decide) recordC passedM frameM outcome.symm
      (.inr (.inr (.inl (by rw [recordQ]; exact nofun)))) (.inl (by rw [roleQ]; decide))
    refine ⟨on.role.trans roleQ, fun _ => on.record.trans (recordQ.trans ?_), fun out unforced => ?_⟩
    · rw [isM, if_pos (h.fit_iff.mpr isFit)]
    · simp [out, unforced] at isFit
  · have waiting : m.stage = .waiting := by rw [isM]; exact if_neg (mt h.fit_iff.mp isFit)
    have eq : standbyAtMinus2 { m with passed := 1 } q = endNegotiation .notInStep q := if_pos waiting
    rw [eq] at outcome
    have out : u.opr.inStep = false := by simpa using fun inStep => isFit (.inl inStep)
    obtain ⟨roleX, -⟩ := endNegotiation_role .notInStep q
    obtain ⟨free, joined, -⟩ := stage_ends (n := m) (k := 0) (v := q) h.law takesQ recordQ countQ .notInStep
    have on := h.outcome (k := 0) (by decide) recordC passedM frameM outcome.symm
      (.inr (.inl (by simpa [stepQ] using out))) (.inl (by rw [roleX, roleQ]; decide))
    refine ⟨on.role.trans (roleX.trans roleQ), fun fits => absurd fits isFit, fun _ _ => ⟨on.record.trans free, ?_⟩⟩
    have ended := on.joined joined
    rw [show endFrameOf .notInStep m p.fcy.count = s.fcy.count + 2 by
      rw [endFrameOf, if_neg (by decide), h.count]; bv_omega] at ended
    rw [isM] at ended
    exact JoinedEnd.of_takes (n := n) ended (by rw [h.judged.takes]) rfl rfl

omit side role in
/-- From F - 1 on the standby makes no check but its stages'. -/
theorem StagePulse.unchecked (passed : n.passed ≠ 0)
    (reached_ : reached (n.lineFrame - 1#32) (s.fcy.count + 1) = true) : standbyCheck p = p :=
  standbyCheck_behind h.record passed (h.count ▸ reached_)

/-- Pulse F - 1 on the standby side: a fit OFFERING record stays, any other is WITHDRAWN (R169, step 3). -/
theorem StagePulse.atStandbyMinus1 (passed : n.passed = 1) (frame : n.lineFrame = s.fcy.count + 2) :
    u.opr.role = .standby ∧ u.opr.negotiation = some { n with
      stage := if n.stage = .offering ∧ (u.opr.inStep = true ∨ n.force = true) then .offering else .withdrawn
      passed := 2 } := by
  have unchecked := h.unchecked (by omega) (by
    rw [frame, show s.fcy.count + 2 - 1#32 = s.fcy.count + 1 by bv_omega]; exact reached_self _)
  obtain ⟨q, isQ⟩ : ∃ q, q = atStage 1 n p := ⟨_, rfl⟩
  have roleQ : q.opr.role = .standby := by rw [isQ]; exact h.judged.role.trans role
  obtain ⟨x, isX⟩ : ∃ x, x = standbyAtMinus1 { n with passed := 2 } q := ⟨_, rfl⟩
  have isFit : fit { n with passed := 2 } q = true ↔ u.opr.inStep = true ∨ n.force = true := by
    rw [← h.fit_iff, isQ]
    rfl
  have after : x.opr.role = .standby ∧ x.opr.negotiation = some { n with
      stage := if n.stage = .offering ∧ (u.opr.inStep = true ∨ n.force = true) then .offering else .withdrawn
      passed := 2 } := by
    by_cases goes : n.stage = .offering ∧ (u.opr.inStep = true ∨ n.force = true)
    · rw [isX, standbyAtMinus1, if_pos (by
        rw [Bool.and_eq_true, decide_eq_true_eq]
        exact ⟨goes.1, isFit.mpr goes.2⟩), if_pos goes, isQ, ← goes.1]
      exact ⟨h.judged.role.trans role, rfl⟩
    · rw [isX, standbyAtMinus1, if_neg (by simpa [isFit] using goes), if_neg goes]
      exact ⟨roleQ, rfl⟩
  have outcome : stageOutcome 1 n (standbyCheck p) = (x, 0) := by
    rw [unchecked, (stageOutcome_standby n p side).2.1, isX, isQ]
  have on := h.outcome (k := 1) (by decide) (by rw [unchecked]; exact h.record) passed (by rw [frame]; bv_omega)
    outcome.symm (.inr (.inr (.inl (by rw [after.2]; exact nofun)))) (.inl (by rw [after.1]; decide))
  exact ⟨on.role.trans after.1, on.record.trans after.2⟩

/-- Pulse F on the standby side: it takes the line, or the record ends SWAP FAILED (R92, R169, step 5; log 16). -/
theorem StagePulse.atStandbyTake (passed : n.passed = 2) (frame : n.lineFrame = s.fcy.count + 1) :
    (n.stage = .releaseReceived → (u.opr.inStep = true ∨ n.force = true) → NoContender s →
      u.opr.role = .main ∧ u.opr.negotiation = none ∧ JoinedEnd n .done n.lineFrame s u ∧
      (n.automatic = true → RoleFault u) ∧
      ((∀ e ∈ s.tke.queue, e.state = .negotiating) → u.tke.ts = tsFor s.tke.flushMark n.entries.length)) ∧
    ((n.stage ≠ .releaseReceived ∨ u.opr.inStep = false ∧ n.force = false) →
      (∀ r, s.opr.inHand = some r → r.alarm = false) →
      u.opr.role = .standby ∧ u.opr.negotiation = none ∧ JoinedEnd n .swapFailed (s.fcy.count + 2) s u) := by
  have unchecked := h.unchecked (by omega) (by
    rw [frame, reached, decide_eq_true_eq]; bv_omega)
  have recordC : (standbyCheck p).opr.negotiation = some n := by rw [unchecked]; exact h.record
  have frameC : n.lineFrame - 2 + BitVec.ofNat 32 2 = s.fcy.count + 1 := by rw [frame]; bv_omega
  obtain ⟨q, isQ⟩ : ∃ q, q = atStage 2 n p := ⟨_, rfl⟩
  have roleQ : q.opr.role = .standby := by rw [isQ]; exact h.judged.role.trans role
  have takesQ : q.tke = p.tke := by rw [isQ]; rfl
  have countQ : q.fcy.count = p.fcy.count := by rw [isQ]; rfl
  have recordQ : q.opr.negotiation = some { n with passed := 3 } := by rw [isQ]; rfl
  have handQ : q.opr.inHand = s.opr.inHand := by rw [isQ]; exact h.judged.inHand
  have isFit : fit { n with passed := 3 } q = true ↔ u.opr.inStep = true ∨ n.force = true := by
    rw [← h.fit_iff, isQ]
    rfl
  have take : stageOutcome 2 n (standbyCheck p) = standbyTake { n with passed := 3 } q := by
    rw [unchecked, (stageOutcome_standby n p side).2.2, isQ]
  refine ⟨fun stage fits quiet => ?_, fun unfit silent => ?_⟩
  · obtain ⟨roleX, takesX, recordX, countX, faulted⟩ := changeRole_spec { n with passed := 3 } .main q
    obtain ⟨x, isX⟩ : ∃ x, x = faultIfAutomatic { n with passed := 3 } (setRole .main q) := ⟨_, rfl⟩
    rw [← isX] at roleX takesX recordX countX faulted
    obtain ⟨free, joined, queue, flush⟩ := stage_ends (n := n) (k := 2) (v := x) h.law (takesX.trans takesQ)
      (recordX.trans recordQ) (countX.trans countQ) .done
    obtain ⟨roleY, grown⟩ := endNegotiation_role .done x
    have eq : standbyTake { n with passed := 3 } q = (endNegotiation .done x, n.entries.length) := by
      rw [isX]
      exact if_pos (by rw [Bool.and_eq_true, decide_eq_true_eq]; exact ⟨stage, isFit.mpr fits⟩)
    have on := h.outcome (k := 2) (by decide) recordC passed frameC (take.trans eq).symm
      (.inl (by rw [roleY, roleX]; decide)) (.inr quiet)
    rw [h.judged.takes] at queue flush
    refine ⟨on.role.trans (roleY.trans roleX), on.record.trans free,
      (on.joined joined).of_takes (by rw [h.judged.takes]) rfl rfl,
      fun automatic => (faulted automatic).grow (grown.trans on.notices), fun idle => ?_⟩
    rw [on.ts fun e mem => idle e (queue e mem), flush]
  · have declines : ¬ (decide (n.stage = .releaseReceived) && fit { n with passed := 3 } q) = true := by
      rw [Bool.and_eq_true, isFit, decide_eq_true_eq]
      rintro ⟨stage, fits⟩
      rcases unfit with other | ⟨out, unforced⟩
      · exact other stage
      · simp [out, unforced] at fits
    obtain ⟨free, joined, -⟩ := stage_ends (n := n) (k := 2) (v := q) h.law takesQ recordQ countQ .swapFailed
    obtain ⟨roleX, -⟩ := endNegotiation_role .swapFailed q
    have eq : standbyTake { n with passed := 3 } q = (endNegotiation .swapFailed q, 0) := if_neg declines
    have blind : seesAlarm (endNegotiation .swapFailed q) = false := by
      unfold seesAlarm
      rw [show (endNegotiation .swapFailed q).opr.inHand = s.opr.inHand by simpa using handQ]
      cases held : s.opr.inHand with
      | none => rfl
      | some r => simp [silent r held]
    have on := h.outcome (k := 2) (by decide) recordC passed frameC (take.trans eq).symm
      (.inr (.inr (.inr blind))) (.inl (by rw [roleX, roleQ]; decide))
    refine ⟨on.role.trans (roleX.trans roleQ), on.record.trans free, ?_⟩
    have ended := on.joined joined
    rw [show endFrameOf .swapFailed n p.fcy.count = s.fcy.count + 2 by
      rw [endFrameOf, if_neg (by decide), h.count]; bv_omega] at ended
    exact ended.of_takes (by rw [h.judged.takes]) rfl rfl

end

end Sys2Proof.Machine
end

section
/-! PROOFS. Automatic negotiation, forced takeover, self-release and contention at a pulse (R170, R171), and the settlement of
O18. -/

namespace Sys2Proof.Machine

/-! ### A pulse without a record -/

theorem negotiationStages_free {s : State} (free : s.opr.negotiation = none) : negotiationStages s = (s, 0) := by
  have unchecked : standbyCheck s = s := by simp only [standbyCheck, free]
  rw [negotiationStages_idle (fun n record => nomatch free.symm.trans record), unchecked]

/-- A paired part without a record: its pulse goes on from the role changes outside the stages. -/
theorem servingPulse_free {s : State} (isPaired : s.opr.role ≠ .sole) (free : s.opr.negotiation = none) (t : Time)
    (palarm : Bool) :
    PulseGoesOn (otherChanges s.fcy.count (periodEnded t palarm s)) 0 (servingPulse t palarm s) := by
  have on := servingPulse_goesOn t palarm s
  have freeP : (periodEnded t palarm s).opr.negotiation = none := (periodEnded_judged t palarm s).record.trans free
  rwa [pairDone_of_paired isPaired, roleChanges_eq, negotiationStages_free freeP] at on

/-! ### Automatic negotiation (R170) -/

theorem seesAlarm_of_held {s : State} {r : Report} (held : s.opr.inHand = some r) (shows : r.role = .main)
    (alarmed : r.alarm = true) : seesAlarm s = true := by
  simp [seesAlarm, held, shows, alarmed]

theorem autoNegotiate_role (s : State) : (autoNegotiate s).opr.role = s.opr.role := by
  unfold autoNegotiate
  split <;> rfl

/-- A STANDBY with AUTO TAKEOVER that sees the MAIN in alarm negotiates by itself when it is IN STEP. -/
theorem servingPulse_negotiates {s : State} {r : Report} (role : s.opr.role = .standby)
    (auto : s.opr.autoTakeover = true) (present : s.opr.partnerPresent = true) (free : s.opr.negotiation = none)
    (held : s.opr.inHand = some r) (shows : r.role = .main) (alarmed : r.alarm = true) (t : Time) (palarm : Bool) :
    ∃ u, u = servingPulse t palarm s ∧ u.opr.role = .standby ∧
      (u.opr.inStep = false → u.opr.negotiation = none) ∧
      (u.opr.inStep = true → ∃ n, u.opr.negotiation = some n ∧ n.lineFrame = u.fcy.count + 4 ∧ n.side = .standbySide ∧
        n.origin = .automatic ∧ n.force = false ∧ n.stage = .offering ∧ n.entries = []) := by
  have isPaired : s.opr.role ≠ .sole := by rw [role]; decide
  have judged := periodEnded_judged t palarm s
  have stays := periodEnded_presence isPaired t palarm (.inr (.inl (by rw [held]; rfl)))
  have on := servingPulse_free isPaired free t palarm
  obtain ⟨p, isP⟩ : ∃ p, p = periodEnded t palarm s := ⟨_, rfl⟩
  rw [← isP] at judged stays on
  have roleP : p.opr.role = .standby := judged.role.trans role
  have freeP : p.opr.negotiation = none := judged.record.trans free
  have roleA : (autoNegotiate p).opr.role = .standby := (autoNegotiate_role p).trans roleP
  have presentA : (autoNegotiate p).opr.partnerPresent = true := by simpa using stays.1.trans present
  rw [otherChanges_present presentA (.inl (by rw [roleA]; decide))] at on
  have inStep : (servingPulse t palarm s).opr.inStep = p.opr.inStep := on.inStep.trans (by simp)
  refine ⟨_, rfl, on.role.trans roleA, fun out => ?_, fun stepping => ?_⟩
  · rw [on.record, autoNegotiate_stands (.inr (.inl (inStep.symm.trans out)))]
    exact freeP
  · have sees : seesAlarm p = true := seesAlarm_of_held (judged.inHand.trans held) shows alarmed
    have begins : autoNegotiate p = setNegotiation (some (newNegotiation (p.fcy.count + 4) .standbySide .automatic
        false .offering false [] p.fcy.count)) p :=
      if_pos (by simp [roleP, judged.autoTakeover, auto, inStep.symm.trans stepping, freeP, sees])
    rw [begins] at on
    exact ⟨_, on.record, congrArg (· + 4) on.count.symm, rfl, rfl, rfl, rfl, rfl⟩

/-! ### Forced takeover and self-release (R170) -/

/-- A paired part alone for 24 periods or more, with no record or one before its stages; what the fifth claim of O18 says of
it beside the timer. -/
structure Alone (s : State) : Prop where
  takes : TakeLaw s.tke
  none_held : s.opr.inHand = none
  gone : s.opr.partnerPresent = false
  long : 24 ≤ s.opr.lossCount
  early : ∀ n, s.opr.negotiation = some n → n.passed = 0 ∧ reached (n.lineFrame - 2) (s.fcy.count + 1) = false

/-- In y the stages of a part alone are done; u stands after the pulse. -/
structure AlonePulse (palarm : Bool) (s y u : State) : Prop where
  role : y.opr.role = s.opr.role
  autoTakeover : y.opr.autoTakeover = s.opr.autoTakeover
  mains : y.opr.mains = s.opr.mains
  gone : y.opr.partnerPresent = false
  limit : y.opr.lossCount = Config.lossLimit
  palarm : y.palarm = palarm
  count : y.fcy.count = s.fcy.count + 1
  takes : y.tke = s.tke
  entries : ∀ n, s.opr.negotiation = some n → ∃ m, y.opr.negotiation = some m ∧ m.entries = n.entries
  alarmed : alarm s = true → alarm y = true
  goesOn : PulseGoesOn (contention s.fcy.count (selfRelease (forcedTakeover y))) 0 u

theorem Alone.pulse {s : State} (h : Alone s) (isPaired : s.opr.role ≠ .sole) (t : Time) (palarm : Bool) :
    ∃ y, AlonePulse palarm s y (servingPulse t palarm s) := by
  have judged := periodEnded_judged t palarm s
  obtain ⟨present, loss⟩ := periodEnded_presence isPaired t palarm (.inl h.gone)
  have on := servingPulse_goesOn t palarm s
  rw [pairDone_of_paired isPaired] at on
  obtain ⟨p, isP⟩ : ∃ p, p = periodEnded t palarm s := ⟨_, rfl⟩
  rw [← isP] at judged present loss on
  have count : p.fcy.count = s.fcy.count + 1 := judged.count.trans (nextCount_of_no_sync (.inr h.none_held))
  have stages : negotiationStages p = (standbyCheck p, 0) :=
    negotiationStages_idle fun n record => by
      rw [count]
      exact h.early n (judged.record.symm.trans record)
  obtain ⟨record, eq, -, staged⟩ := standbyCheck_spec p
  have blind : seesAlarm (standbyCheck p) = false := by
    rw [eq]
    simp [seesAlarm, setNegotiation, judged.inHand, h.none_held]
  rw [roleChanges_eq, stages, otherChanges, autoNegotiate_stands (.inr (.inr (.inr blind))), eq] at on
  refine ⟨setNegotiation record p, judged.role, judged.autoTakeover, judged.mains, present.trans h.gone, ?_,
    judged.palarm, count, judged.takes, fun n known => ?_, judged.alarmed, on⟩
  · have full : min 25 (s.opr.lossCount + 1) = 25 := by have := h.long; omega
    exact (loss h.gone).trans full
  · obtain ⟨stage, isRecord⟩ := staged n (judged.record.trans known)
    exact ⟨_, isRecord, rfl⟩

section
variable {palarm : Bool} {s y u : State} (h : AlonePulse palarm s y u)
include h

/-- A role change of a part alone. -/
theorem AlonePulse.changes {r : Role} (law : TakeLaw s.tke)
    (changed : contention s.fcy.count (selfRelease (forcedTakeover y)) = forceRole r y) :
    u.opr.role = r ∧ u.opr.negotiation = none ∧ RoleFault u ∧
      ∀ n, s.opr.negotiation = some n → JoinedEnd n .swapFailed (s.fcy.count + 2) s u := by
  obtain ⟨role, free, faulted, ended⟩ := forceRole_spec r (s := y) (h.takes ▸ law)
  have on := h.goesOn
  rw [changed] at on
  refine ⟨on.role.trans role, on.record.trans free, faulted.grow on.notices, fun n record => ?_⟩
  obtain ⟨m, recordY, entries⟩ := h.entries n record
  have joined := on.joined (ended m recordY)
  rw [show y.fcy.count + 1 = s.fcy.count + 2 by rw [h.count]; bv_omega] at joined
  unfold JoinedEnd at joined
  rw [entries, h.takes] at joined
  exact joined

/-- A STANDBY with AUTO TAKEOVER takes the line when the partner alarm is asserted. -/
theorem AlonePulse.takesOver (law : TakeLaw s.tke) (role : s.opr.role = .standby)
    (auto : s.opr.autoTakeover = true) (asserted : palarm = true) (quiet : NoContender s) :
    u.opr.role = .main ∧ u.opr.negotiation = none ∧ RoleFault u ∧
      ∀ n, s.opr.negotiation = some n → JoinedEnd n .swapFailed (s.fcy.count + 2) s u := by
  have takes : forcedTakeover y = forceRole .main y :=
    if_pos (by simp [h.role, role, h.autoTakeover, auto, h.gone, h.limit, h.palarm, asserted])
  have palarm_forced : (forceRole .main y).palarm = true := by simpa using h.palarm.trans asserted
  have calm : ∀ m ∈ (forceRole .main y).opr.mains, yieldsTo s.fcy.count (forceRole .main y) m = false := by
    have mains : (forceRole .main y).opr.mains = s.opr.mains := by simpa using h.mains
    rw [mains]
    exact fun m shown => yieldsTo_released (by simpa using h.count) (quiet m shown)
  refine h.changes law ?_
  rw [takes, selfRelease_stands (.inr (.inr palarm_forced)), contention_stands (.inr calm)]

/-- A MAIN in alarm gives the line up when the partner alarm is not asserted. -/
theorem AlonePulse.releases (law : TakeLaw s.tke) (role : s.opr.role = .main) (alarmed : alarm s = true)
    (quiet : palarm = false) : u.opr.role = .standby ∧ u.opr.negotiation = none ∧ RoleFault u ∧
      ∀ n, s.opr.negotiation = some n → JoinedEnd n .swapFailed (s.fcy.count + 2) s u := by
  have roleY : y.opr.role = .main := h.role.trans role
  have releases : selfRelease y = forceRole .standby y :=
    if_pos (by simp [roleY, h.alarmed alarmed, h.gone, h.limit, h.palarm, quiet])
  refine h.changes law ?_
  rw [forcedTakeover_stands (.inl (by rw [roleY]; decide)), releases,
    contention_stands (.inl (by rw [forceRole_role]; decide))]

end

/-! ### Contention (R171) -/

/-- The contention test of one report, at the pulse that makes the next count. -/
theorem yieldsTo_iff {before : Word32} {s : State} {own m : Report} (count : s.fcy.count = before + 1)
    (sent : s.opr.sent = some own) : yieldsTo before s m = true ↔
      ¬ (m.swap = .release ∧ m.lineFrame = before + 1) ∧ Outranks m own s.opr.strap := by
  have isOwn : ownReport s = own := by rw [ownReport, sent]; rfl
  have level : m.frame = own.frame ↔ (m.frame - own.frame).toNat = 0 := by
    constructor
    · intro same
      simp [same]
    · intro zero
      bv_omega
  have pulse : isPulse m.lineFrame before s.fcy.count = true ↔ m.lineFrame = before + 1 := by
    rw [count]
    exact isPulse_next _ _
  have ahead : (1 ≤ (m.frame - own.frame).toNat ∧ (m.frame - own.frame).toNat ≤ 2147483647) ↔
      m.frame ≠ own.frame ∧ (m.frame - own.frame).toNat < 2147483648 := by
    rw [Ne, level]
    omega
  have asked : yieldsTo before s m = true ↔
      ¬ (m.swap = .release ∧ isPulse m.lineFrame before s.fcy.count = true) ∧
        ((1 ≤ (m.frame - own.frame).toNat ∧ (m.frame - own.frame).toNat ≤ 2147483647) ∨
          ((m.frame - own.frame).toNat = 0 ∨ (m.frame - own.frame).toNat = 2147483648) ∧
            s.opr.strap = .pairSecond) := by
    rw [yieldsTo, isOwn]
    simp only [Bool.and_eq_true, Bool.or_eq_true, Bool.not_eq_true', decide_eq_true_eq, ← Bool.not_eq_true]
  rw [asked, pulse, ahead, ← level, Outranks]

/-- A MAIN without a record yields to a report that outranks its own, and keeps the line when none does and its partner stays
PRESENT. -/
theorem servingPulse_contends {s : State} {own : Report} (role : s.opr.role = .main) (sent : s.opr.sent = some own)
    (free : s.opr.negotiation = none) (t : Time) (palarm : Bool) : ∃ u, u = servingPulse t palarm s ∧
      ((∃ m ∈ s.opr.mains, ¬ (m.swap = .release ∧ m.lineFrame = s.fcy.count + 1) ∧ Outranks m own s.opr.strap) →
        u.opr.role = .standby ∧ RoleFault u) ∧
      (s.opr.partnerPresent = true → (s.opr.inHand.isSome ∨ s.opr.missed < 2) →
        (∀ m ∈ s.opr.mains, m.swap = .release ∧ m.lineFrame = s.fcy.count + 1 ∨ ¬ Outranks m own s.opr.strap) →
        u.opr.role = .main) := by
  have isPaired : s.opr.role ≠ .sole := by rw [role]; decide
  have judged := periodEnded_judged t palarm s
  have presence := fun stays => (periodEnded_presence isPaired t palarm stays).1
  have on := servingPulse_free isPaired free t palarm
  obtain ⟨p, isP⟩ : ∃ p, p = periodEnded t palarm s := ⟨_, rfl⟩
  rw [← isP] at judged presence on
  have roleP : p.opr.role = .main := judged.role.trans role
  have notStandby : p.opr.role ≠ .standby := by rw [roleP]; decide
  have auto : autoNegotiate p = p := autoNegotiate_stands (.inl notStandby)
  have count : p.fcy.count = s.fcy.count + 1 :=
    judged.count.trans (nextCount_of_no_sync (.inl (by rw [role]; decide)))
  have yields := fun m => judged.strap ▸ yieldsTo_iff (m := m) count (judged.sent.trans sent)
  refine ⟨_, rfl, fun ⟨m, shown, asks⟩ => ?_, fun present kept calm => ?_⟩
  · have stepsDown : otherChanges s.fcy.count p = forceRole .standby p := by
      rw [otherChanges, auto, forcedTakeover_stands (.inl notStandby)]
      unfold selfRelease
      split
      · exact contention_stands (.inl (by rw [forceRole_role]; decide))
      · refine if_pos ?_
        simp only [roleP, decide_true, Bool.true_and, List.any_eq_true]
        exact ⟨m, judged.mains ▸ shown, (yields m).mpr asks⟩
    rw [stepsDown] at on
    exact ⟨on.role.trans (forceRole_role _ _), (roleFault_raiseFault _).grow on.notices⟩
  · have stands : otherChanges s.fcy.count p = p := by
      refine (otherChanges_present ?_ (.inr ?_)).trans auto
      · rw [auto]
        exact (presence (.inr kept)).trans present
      · rw [auto, judged.mains]
        intro m shown
        rw [← Bool.not_eq_true, yields m]
        rintro ⟨other, outranks⟩
        exact (calm m shown).elim other (· outranks)
    rw [stands] at on
    exact on.role.trans roleP

/-! ### O18 -/

/-- The part whose serving pulse the internal pulse due at t is (R4, R8). -/
def timerSetOn (t : Time) (s : State) : State :=
  { s with fcy := { s.fcy with timer := some (t + Config.nominal s.fcy.rate) } }

theorem exec_internalPulse_timerSetOn {s : State} {t : Time} (running : s.power = .running)
    (due : s.fcy.timer = some t) (palarm : Bool) :
    exec (.internalPulse palarm) s = .next (servingPulse t palarm (timerSetOn t s)) := by
  obtain ⟨_, rfl, pulse⟩ := exec_internalPulse running due palarm
  exact pulse

/-- Settles O18: the loss of the partner, then presence and step, the stages of a record, automatic negotiation, forced
takeover with self-release, and contention, each at the serving pulse of the part with its timer set on. -/
theorem thirdMissedPeriodLosesThePartner : Obligations.ThirdMissedPeriodLosesThePartner := by
  unfold Obligations.ThirdMissedPeriodLosesThePartner
  refine ⟨fun palarm s t => exec_partnerLoss palarm, ?presence, ?stages, ?negotiation, ?alone, ?contention⟩
  case presence =>
    intro palarm s t own running timer isPaired sent
    obtain ⟨u, isU, missed, gone, stays⟩ := servingPulse_presence (s := timerSetOn t s) isPaired t palarm
    have pulse := exec_internalPulse_timerSetOn running timer palarm
    rw [← isU] at pulse
    refine ⟨u, pulse, missed, gone, stays, fun r held agree => ?_, fun r held differ => ?_, fun none_held kept => ?_⟩
    · obtain ⟨v, isV, agreed⟩ := servingPulse_match (s := timerSetOn t s) isPaired t palarm sent held agree
      obtain rfl := isU.trans isV.symm
      exact agreed
    · obtain ⟨v, isV, differed⟩ := servingPulse_mismatch (s := timerSetOn t s) isPaired t palarm sent held differ
      obtain rfl := isU.trans isV.symm
      exact differed
    · obtain ⟨v, isV, unreported⟩ := servingPulse_no_report (s := timerSetOn t s) isPaired t palarm none_held kept
      obtain rfl := isU.trans isV.symm
      exact unreported
  case stages =>
    rintro palarm s t n f h rfl
    have pulse := exec_internalPulse_timerSetOn h.running h.timer palarm
    have swaps : Swaps (timerSetOn t s) n :=
      ⟨h.takes, h.record, h.present, h.kept, h.noSync⟩
    have stage := fun isPaired => swaps.pulse isPaired t palarm
    refine ⟨_, pulse, fun side role quiet => ?_, fun side role passed frame => ?_, fun side role => ?_⟩
    · have main := stage (role.symm ▸ nofun)
      exact ⟨main.atMainCommit side role quiet, main.atMainHandOver side role⟩
    · exact (stage (role.symm ▸ nofun)).atMainSettle side role passed frame
    · have standby := stage (role.symm ▸ nofun)
      exact ⟨standby.beforeStages side role, standby.atStandbyMinus2 side role, standby.atStandbyMinus1 side role,
        standby.atStandbyTake side role⟩
  case negotiation =>
    intro palarm s t r running timer role auto present free held shows alarmed
    have pulse := exec_internalPulse_timerSetOn running timer palarm
    obtain ⟨u, isU, negotiates⟩ :=
      servingPulse_negotiates (s := timerSetOn t s) role auto present free held shows alarmed t palarm
    exact ⟨u, pulse.trans (congrArg _ isU.symm), negotiates⟩
  case alone =>
    intro palarm s t running timer takes none_held gone long early
    have pulse := exec_internalPulse_timerSetOn running timer palarm
    have alone : Alone (timerSetOn t s) :=
      ⟨takes, none_held, gone, long, early⟩
    refine ⟨_, pulse, fun role auto asserted quiet => ?_, fun role alarmed unasserted => ?_⟩
    · obtain ⟨y, pulsed⟩ := alone.pulse (role.symm ▸ nofun) t palarm
      exact pulsed.takesOver takes role auto asserted quiet
    · obtain ⟨y, pulsed⟩ := alone.pulse (role.symm ▸ nofun) t palarm
      exact pulsed.releases takes role alarmed unasserted
  case contention =>
    intro palarm s t own running timer role sent free
    have pulse := exec_internalPulse_timerSetOn running timer palarm
    obtain ⟨u, isU, contends⟩ := servingPulse_contends (s := timerSetOn t s) role sent free t palarm
    exact ⟨u, pulse.trans (congrArg _ isU.symm), contends⟩

end Sys2Proof.Machine
end

section
/-! PROOFS. Frames on a control port (R176 to R179): what the bytes after a lead amount to, the end of a frame, and the
execution of one. -/

namespace Sys2Proof.Machine

/-! ### The progress of a frame (R176, R177) -/

/-- A length of 1 to 250 is taken. -/
theorem progressOf_length {b : Byte} (low : 1 ≤ b.toNat) (high : b.toNat ≤ 250) : progressOf [b] = .growing := by
  have some_length : b ≠ 0#8 := by
    rintro rfl
    exact absurd low (by decide)
  simp [progressOf, some_length, high]

/-- A length of 0 or above 250 ends the frame. -/
theorem progressOf_badLength {b : Byte} (bad : b.toNat = 0 ∨ 250 < b.toNat) : progressOf [b] = .error := by
  rcases bad with zero | long
  · obtain rfl : b = 0 := BitVec.eq_of_toNat_eq zero
    rfl
  · simp [progressOf, long]

/-- A frame of which bytes are missing grows. -/
theorem progressOf_short {len code : Byte} {rest : List Byte} (short : rest.length ≠ len.toNat) :
    progressOf (len :: code :: rest) = .growing := if_neg short

theorem progressOf_badSum {len code : Byte} {rest : List Byte} (last : rest.length = len.toNat)
    (bad : sumBytes (len :: code :: rest) ≠ 0) : progressOf (len :: code :: rest) = .error :=
  (if_pos last).trans (if_neg bad)

theorem progressOf_goodSum {len code : Byte} {rest : List Byte} (last : rest.length = len.toNat)
    (good : sumBytes (len :: code :: rest) = 0) : progressOf (len :: code :: rest) = .complete code rest.dropLast :=
  (if_pos last).trans (if_pos good)

/-- A frame completes with its last byte and a sum of 0 alone. -/
theorem progressOf_complete {bytes params : List Byte} {code : Byte} (done : progressOf bytes = .complete code params) :
    ∃ len rest, bytes = len :: code :: rest ∧ rest.length = len.toNat ∧ sumBytes bytes = 0 ∧
      params = rest.dropLast := by
  unfold progressOf at done
  split at done
  · cases done
  · split at done <;> cases done
  · next len code' rest =>
    split at done
    · next last =>
      split at done
      · next good =>
        cases done
        exact ⟨len, rest, rfl, last, good, rfl⟩
      · cases done
    · cases done

/-! ### The end of a frame (R177, R179) -/

/-- The port HUNTING with a reply held behind the one in progress, or the frame discarded when one waits already
(R179). -/
def heldBehind (p : Port) (r : Reply) (s : State) : State :=
  { s with cnu := { s.cnu with
      receiver := s.cnu.receiver.set p none
      waiting := match s.cnu.waiting.get p with
        | none => s.cnu.waiting.set p (some r)
        | some _ => s.cnu.waiting } }

theorem holdReply_endFrame (r : Reply) (s : State) : holdReply p r (endFrame p s) = heldBehind p r s := by
  have same : (endFrame p s).cnu.waiting.get p = s.cnu.waiting.get p := rfl
  unfold holdReply heldBehind
  rw [same]
  cases s.cnu.waiting.get p <;> rfl

section FrameError
variable (p : Port) (bytes : List Byte) {s : State}

/-- On an idle port FRAME ERROR is sent, with the command code or 0. -/
theorem frameError_idle (idle : s.cnu.reply.get p = none) :
    frameError p bytes s = answered p (bytes.getD 1 0) .frameError [] s := by
  have same : (endFrame p s).cnu.reply.get p = none := idle
  simp only [frameError, postReply, same]
  rfl

/-- Behind a reply in progress FRAME ERROR waits, or is discarded. -/
theorem frameError_busy {r : Reply} (busy : s.cnu.reply.get p = some r) : frameError p bytes s =
    heldBehind p { code := bytes.getD 1 0, status := .frameError, data := [] } s := by
  have same : (endFrame p s).cnu.reply.get p = some r := busy
  simp only [frameError, postReply, same, holdReply_endFrame]

end FrameError

/-! ### The commands that bring the end of a frame (R177; logs 12 and 13) -/

section Receiving
variable {p : Port} {s : State} (running : s.power = .running)
include running

theorem exec_portCharacter_hunting (hunting : s.cnu.receiver.get p = none) (b : Byte) (palarm : Bool) :
    exec (.portCharacter p b palarm) s = .next
      (if b = 0x5A#8 then { s with cnu := { s.cnu with receiver := s.cnu.receiver.set p (some []) } } else s) := by
  simp only [exec, execPortCharacter, whileRunning_running _ running, portCharacter, hunting]
  rfl

variable {bytes : List Byte} (receiving : s.cnu.receiver.get p = some bytes)
include receiving

theorem exec_portCharacter_receiving (b : Byte) (palarm : Bool) :
    exec (.portCharacter p b palarm) s = .next (receiveByte p (bytes ++ [b]) palarm s) := by
  simp only [exec, execPortCharacter, whileRunning_running _ running, portCharacter, receiving]

/-- A frame that grows. -/
theorem exec_portCharacter_grows {b : Byte} (grows : progressOf (bytes ++ [b]) = .growing) (palarm : Bool) :
    exec (.portCharacter p b palarm) s = .next
      { s with cnu := { s.cnu with receiver := s.cnu.receiver.set p (some (bytes ++ [b])) } } := by
  rw [exec_portCharacter_receiving running receiving, receiveByte, grows]
  rfl

/-- A frame whose sum is correct. -/
theorem exec_portCharacter_completes {b code : Byte} {params : List Byte}
    (completes : progressOf (bytes ++ [b]) = .complete code params) (palarm : Bool) :
    exec (.portCharacter p b palarm) s = .next (executeFrame p code params palarm s) := by
  rw [exec_portCharacter_receiving running receiving, receiveByte, completes]

/-- The 20 ms timeout and a bad character end any frame. -/
theorem exec_frameError : exec (.portReceiveTimeout p) s = .next (frameError p bytes s) ∧
    exec (.requestFrameError p .bad) s = .next (frameError p bytes s) := by
  simp only [exec, execPortReceiveTimeout, execRequestFrameError, whileRunning_running _ running, receiveTimeout,
    frameErrorBy, receiving, and_self]

/-- The character that makes the length or the sum bad ends the frame, by either command. -/
theorem exec_frameError_good {b : Byte} (bad : progressOf (bytes ++ [b]) = .error) :
    exec (.requestFrameError p (.good b)) s = .next (frameError p (bytes ++ [b]) s) ∧
    ∀ palarm, exec (.portCharacter p b palarm) s = .next (frameError p (bytes ++ [b]) s) := by
  constructor
  · simp only [exec, execRequestFrameError, whileRunning_running _ running, frameErrorBy, receiving, bad, if_true]
  · intro palarm
    rw [exec_portCharacter_receiving running receiving, receiveByte, bad]

end Receiving

/-- Settles O25: each character is one of the cases of the progress, and each ending a FRAME ERROR on an idle port. -/
theorem portReceiverAssemblesFramesOrAnswersFrameError :
    Obligations.PortReceiverAssemblesFramesOrAnswersFrameError := by
  refine ⟨fun p palarm s running => ⟨fun hunting b => exec_portCharacter_hunting running hunting b palarm,
    fun bytes receiving b taken => exec_portCharacter_grows running receiving ?_ palarm⟩,
    fun p s bytes running receiving idle => ?_⟩
  · rcases taken with ⟨rfl, low, high⟩ | ⟨len, rest, rfl, low, short⟩
    · exact progressOf_length low high
    · cases rest with
      | nil => exact progressOf_short (Nat.ne_of_lt low)
      | cons code rest =>
        refine progressOf_short (rest := rest ++ [b]) ?_
        simp only [List.length_append, List.length_cons, List.length_nil] at short ⊢
        omega
  · obtain ⟨timeout, badCharacter⟩ := exec_frameError running receiving
    rw [frameError_idle p bytes idle] at timeout badCharacter
    refine ⟨timeout, badCharacter, ?_, ?_⟩
    · rintro b rfl bad
      have ends := exec_frameError_good running receiving (progressOf_badLength bad)
      rwa [frameError_idle p _ idle] at ends
    · rintro b len code rest rfl last bad
      have ends := exec_frameError_good running receiving
        (progressOf_badSum (rest := rest ++ [b]) (by simpa using last) bad)
      rwa [frameError_idle p _ idle] at ends

end Sys2Proof.Machine
end

section
/-! PROOFS. Requests framed on a control port, and a port that is sending a reply (R176 to R179): O26 and O27. -/

namespace Sys2Proof.Machine

/-! ### The codes of the table (R176, R178) -/

/-- A code that has a rule stands in the table. -/
theorem code_of_handler {code : Byte} {h : Handler} (known : handlerOf code = some h) :
    code ∈ Config.commandCodes := by
  have listed : code.toNat ∈ Config.commandCodes.map BitVec.toNat := by
    unfold handlerOf at known
    split at known
    case h_40 => cases known
    all_goals next isCode => rw [isCode]; decide
  obtain ⟨c, mem, same⟩ := List.mem_map.mp listed
  rwa [← BitVec.eq_of_toNat_eq same]

/-- A code outside the table has none. -/
theorem handlerOf_unknown {code : Byte} (unknown : Config.commandCodes.contains code = false) :
    handlerOf code = none := by
  cases known : handlerOf code with
  | none => rfl
  | some h => rw [List.contains_iff_mem.mpr (code_of_handler known)] at unknown; cases unknown

/-! ### A request's row is the execution of its frame (log 12) -/

/-- The command is the execution of a frame with this code and these parameters. -/
def Executes (p : Port) (code : Byte) (params : List Byte) (palarm : Bool) (i : Instr) : Prop :=
  ∀ s, exec i s = .next (whileRunning (executeFrame p code params palarm) s)

/-- R176's table: the codes with the commands they frame on a port. -/
def requestTable (p : Port) (params : List Byte) (palarm : Bool) : List (Byte × Instr) :=
  [(0x10#8, .requestHold p params), (0x11#8, .releaseHold p params), (0x12#8, .setView p params),
   (0x13#8, .setCursor p params), (0x14#8, .setLayers p params), (0x15#8, .setGauge p params),
   (0x16#8, .clearGauge p params), (0x17#8, .setAreas p params), (0x18#8, .copyAirToDraft p params),
   (0x19#8, .readPlan p params), (0x1A#8, .setAirLock p params), (0x1B#8, .clearAirLock p params),
   (0x20#8, .readRunStatus p params), (0x21#8, .readFrameTable p params), (0x28#8, .loadSegment p params),
   (0x29#8, .deleteSegment p params), (0x2A#8, .readSegments p params), (0x2C#8, .loadStation p params),
   (0x2D#8, .deleteStation p params), (0x2E#8, .readStation p params), (0x30#8, .submitTake p params),
   (0x31#8, .flushTakes p params), (0x32#8, .readCompletions p params), (0x33#8, .readTakeLog p params),
   (0x38#8, .readFrameRecord p params), (0x3C#8, .readTiming p params), (0x40#8, .readIngestStatus p params),
   (0x41#8, .setIngestLevels p params), (0x42#8, .ingestReset p params), (0x48#8, .readOutputStatus p params palarm),
   (0x49#8, .setAutoTakeover p params), (0x50#8, .readNotice p params), (0x51#8, .setNoticeMask p params),
   (0x52#8, .readFaultStatus p params), (0x53#8, .readHealth p params), (0x54#8, .setThreshold p params),
   (0x55#8, .clearHealth p params), (0x56#8, .setAlarmEnable p params), (0x5F#8, .restart p params)]

theorem requestTable_executes (p : Port) (params : List Byte) (palarm : Bool) :
    ∀ entry ∈ requestTable p params palarm, Executes p entry.1 params palarm entry.2 := by
  simp only [requestTable, List.forall_mem_cons, List.not_mem_nil, false_implies, implies_true, and_true]
  and_intros
  all_goals exact fun _ => rfl

/-- UNKNOWN is the execution of a frame with a code outside the table. -/
theorem unknown_executes {code : Byte} (unknown : Config.commandCodes.contains code = false) (p : Port)
    (params : List Byte) (palarm : Bool) : Executes p code params palarm (.unknown p code) := by
  intro s
  have none_known := handlerOf_unknown unknown
  simp only [exec, execUnknown, whileRunning, executeFrame, none_known, Option.isSome_none, Bool.false_eq_true,
    if_false]

/-- Settles O26: the check byte completes the frame, and completing it is the command of its code. -/
theorem framedRequestExecutes : Obligations.FramedRequestExecutes := by
  intro p code params check palarm s running few sum receiving
  have length : (BitVec.ofNat 8 (params.length + 1)).toNat = params.length + 1 := by
    rw [BitVec.toNat_ofNat]
    omega
  have completes : progressOf (BitVec.ofNat 8 (params.length + 1) :: code :: params ++ [check]) =
      .complete code params := by
    have ends := progressOf_goodSum (rest := params ++ [check]) (by simp [length]) sum
    rwa [List.dropLast_concat] at ends
  have framed : ∀ {i : Instr}, Executes p code params palarm i →
      exec (.portCharacter p check palarm) s = exec i s := by
    intro i executes
    rw [exec_portCharacter_completes running receiving completes, executes, whileRunning_running _ running]
  refine ⟨fun entry listed isCode => framed ?_, fun unknown => framed (unknown_executes unknown p params palarm)⟩
  rw [isCode]
  exact requestTable_executes p params palarm entry listed

/-! ### A port that is sending a reply (R179) -/

/-- While a reply is in progress a frame that completes is not executed. -/
theorem executeFrame_busy {p : Port} {s : State} {r : Reply} (busy : s.cnu.reply.get p = some r) (code : Byte)
    (params : List Byte) : executeFrame p code params s.palarm s = busyFrame p code s := by
  have sampled : (if code = 0x48 then sampleAlarm s.palarm s else s) = s := ite_self s
  unfold executeFrame
  rw [sampled]
  cases handlerOf code <;> simp only [completeUnknown, completeRequest, busyFrame, busy]

/-- Every command that executes a frame is BUSY then. -/
theorem Executes.busy {p : Port} {s : State} {r : Reply} {code : Byte} {params : List Byte} {i : Instr}
    (executes : Executes p code params s.palarm i) (busy : s.cnu.reply.get p = some r) :
    exec i s = exec (.busy p code) s := by
  rw [executes]
  show _ = Host.Outcome.next (whileRunning (busyFrame p code) s)
  unfold whileRunning
  rw [executeFrame_busy busy]

/-- BUSY waits, or the frame is discarded. -/
theorem exec_busy {p : Port} {s : State} {r : Reply} (running : s.power = .running)
    (busy : s.cnu.reply.get p = some r) (code : Byte) :
    exec (.busy p code) s = .next (heldBehind p { code := code, status := .busy, data := [] } s) := by
  simp only [exec, execBusy, whileRunning_running _ running, busyFrame, busy, holdReply_endFrame]

/-- READ OUTPUT STATUS presents the PARTNER-ALARM level all the same (log 6). -/
theorem exec_readOutputStatus_busy {p : Port} {s : State} {r : Reply} (running : s.power = .running)
    (busy : s.cnu.reply.get p = some r) (params : List Byte) (palarm : Bool) :
    exec (.readOutputStatus p params palarm) s = exec (.busy p 0x48#8) (sampleAlarm palarm s) := by
  have executes : Executes p 0x48#8 params palarm (.readOutputStatus p params palarm) := fun _ => rfl
  have runs : (sampleAlarm palarm s).power = .running := running
  have busyAfter : (sampleAlarm palarm s).cnu.reply.get p = some r := busy
  rw [← Executes.busy executes busyAfter, executes, executes, whileRunning_running _ running,
    whileRunning_running _ runs]
  rfl

/-- The end of a reply sends the waiting one. -/
theorem exec_replySent {p : Port} {s : State} {r : Reply} (running : s.power = .running)
    (busy : s.cnu.reply.get p = some r) : exec (.replySent p) s = .next (finishReply p s) := by
  simp only [exec, execReplySent, whileRunning_running _ running, replySent, busy, Option.isSome_some, if_true]

/-- Settles O27: the frames that complete are BUSY by their table, and those that do not are FRAME ERROR held behind the
reply. -/
theorem busyPortsHoldOneReply : Obligations.BusyPortsHoldOneReply := by
  intro p s running
  refine ⟨fun code unknown idle => ?_, fun r busy => ⟨fun code free => ?_, fun code w waits => ?_,
    fun params entry listed => ?_, exec_readOutputStatus_busy running busy, ?_, fun code unknown => ?_, ?_,
    exec_replySent running busy⟩⟩
  · rw [unknown_executes unknown p [] false, whileRunning_running _ running, executeFrame, handlerOf_unknown unknown]
    simp only [completeUnknown, idle]
    rfl
  · rw [exec_busy running busy, heldBehind, free]
  · rw [exec_busy running busy, heldBehind, waits]
  · have inTable : entry ∈ requestTable p params s.palarm := List.mem_of_mem_eraseIdx (i := 29) listed
    exact (requestTable_executes p params s.palarm entry inTable).busy busy
  · rintro rfl ignored
    exact Executes.busy (params := [ignored ++ 1#1]) (fun _ => rfl) busy
  · exact (unknown_executes unknown p [] s.palarm).busy busy
  · rintro bytes u receiving rfl
    obtain ⟨timeout, badCharacter⟩ := exec_frameError running receiving
    rw [frameError_busy p bytes busy] at timeout badCharacter
    refine ⟨timeout, badCharacter, fun b ends => ?_⟩
    have same : progressOf (bytes ++ [b]) = .error ∧ (bytes ++ [b]).getD 1 0 = bytes.getD 1 0 := by
      rcases ends with ⟨rfl, bad⟩ | ⟨len, code, rest, rfl, last, bad⟩
      · exact ⟨progressOf_badLength bad, rfl⟩
      · exact ⟨progressOf_badSum (rest := rest ++ [b]) (by simpa using last) bad, rfl⟩
    have ended := exec_frameError_good running receiving same.1
    rwa [frameError_busy p _ busy, same.2] at ended

end Sys2Proof.Machine
end

section
/-! PROOFS. The health counters and their trips, which the serving pulse, the ingest link and the loader
only make greater (R13, R133, R147, R154, R166, R184). -/

namespace Sys2Proof.Machine

/-! ### What only counts -/

/-- From s to t the health law is kept and no counter falls. -/
structure HealthGrows (s t : State) : Prop where
  law : HealthLaw s.cnu → HealthLaw t.cnu
  counters : HealthLaw s.cnu → ∀ c, s.cnu.counters.get c ≤ t.cnu.counters.get c

namespace HealthGrows

variable {s t u : State}

theorem refl (s : State) : HealthGrows s s := ⟨id, fun _ _ => Nat.le_refl _⟩

theorem trans (h : HealthGrows s t) (k : HealthGrows t u) : HealthGrows s u :=
  ⟨fun law => k.law (h.law law), fun law c => Nat.le_trans (h.counters law c) (k.counters (h.law law) c)⟩

/-- An operation that leaves the counters, the thresholds and the trips. -/
theorem of_fields (h : HealthGrows s t) (counters : u.cnu.counters = t.cnu.counters)
    (thresholds : u.cnu.thresholds = t.cnu.thresholds) (tripped : u.cnu.tripped = t.cnu.tripped) : HealthGrows s u := by
  refine h.trans ⟨fun law c => ?_, fun _ c => ?_⟩
  · rw [counters, thresholds, tripped]
    exact law c
  · rw [counters]

/-- An operation that leaves the control and notice unit. -/
theorem of_same (h : HealthGrows s t) (same : u.cnu = t.cnu) : HealthGrows s u :=
  h.of_fields (by rw [same]) (by rw [same]) (by rw [same])

theorem raiseFault {add : Causes → Causes} (h : HealthGrows s t) : HealthGrows s (raiseFault add t) :=
  h.of_fields rfl rfl rfl

theorem raiseStep (h : HealthGrows s t) : HealthGrows s (raiseStep t) := h.of_fields rfl rfl rfl

end HealthGrows

/-- The test of a counter makes its law hold whatever its value and threshold, within the ranges, and leaves that of the
others (R184, R185). -/
theorem tested_healthLaw {c : Counter} {u : Cnu} (range : u.counters.get c ≤ 65535 ∧ u.thresholds.get c ≤ 65535)
    (others : ∀ k, c ≠ k → u.counters.get k ≤ 65535 ∧ u.thresholds.get k ≤ 65535 ∧
      (u.thresholds.get k ≠ 0 → u.thresholds.get k ≤ u.counters.get k → u.tripped.get k = true)) :
    HealthLaw (tested c u) := by
  intro k
  unfold tested
  by_cases same : c = k
  · subst same
    split
    · exact ⟨range.1, range.2, fun _ _ => PerCounter.get_set_same _ _ _⟩
    · next stands =>
      refine ⟨range.1, range.2, fun set reached => ?_⟩
      by_contra clear
      exact stands ⟨set, reached, Bool.eq_false_of_not_eq_true clear⟩
  · split
    · have kept : (u.tripped.set c true).get k = u.tripped.get k := by rw [PerCounter.get_set, if_neg same]
      obtain ⟨counter, threshold, trip⟩ := others k same
      exact ⟨counter, threshold, fun set reached => kept.trans (trip set reached)⟩
    · exact others k same

/-- The test of a counter leaves the counters. -/
theorem tested_counters (c : Counter) (u : Cnu) : (tested c u).counters = u.counters := by
  unfold tested
  split <;> rfl

/-- An increase keeps the law and lowers no counter (R184). -/
theorem increase_healthGrows (c : Counter) (s : State) : HealthGrows s (increase c s) := by
  rw [increase_eq]
  constructor
  · intro law
    refine tested_healthLaw ⟨?_, (law c).2.1⟩ fun k other => ?_
    · rw [PerCounter.get_set_same]
      exact Nat.min_le_left _ _
    · simp only [PerCounter.get_set, if_neg other]
      exact law k
  · intro law k
    simp only [counted, tested_counters, PerCounter.get_set]
    have range := (law k).1
    split
    · next same => subst same; omega
    · exact Nat.le_refl _

/-- A new threshold with its test keeps the law and leaves the counters (R185). -/
theorem storeThreshold_healthGrows (c : Counter) {threshold : Nat} (range : threshold ≤ 65535) (s : State) :
    HealthGrows s (storeThreshold c threshold s) := by
  rw [storeThreshold, testTrip_eq]
  constructor
  · intro law
    refine tested_healthLaw ⟨(law c).1, ?_⟩ fun k other => ?_
    · simp only [State.cnu_onCnu, PerCounter.get_set_same]
      exact range
    · simp only [State.cnu_onCnu, PerCounter.get_set, if_neg other]
      exact law k
  · intro _ k
    simp only [tested_counters, State.cnu_onCnu]
    exact Nat.le_refl _

namespace HealthGrows

variable {s t u : State}

theorem increase {c : Counter} (h : HealthGrows s t) : HealthGrows s (increase c t) :=
  h.trans (increase_healthGrows c t)

/-! ### The serving pulse and the expiries -/

theorem leaveStep (h : HealthGrows s t) : HealthGrows s (leaveStep t) := by
  unfold Machine.leaveStep
  split
  · exact raiseStep (increase (h.of_same rfl))
  · exact h

theorem partnerPresence (h : HealthGrows s t) : HealthGrows s (partnerPresence t) := by
  obtain ⟨count, -, eq⟩ := partnerPresence_eq t
  rw [eq]
  split
  · split
    · exact raiseFault (leaveStep (h.of_same rfl))
    · exact h.of_same rfl
  · exact h.of_same rfl

theorem stepComparison (h : HealthGrows s t) : HealthGrows s (stepComparison t) := by
  unfold Machine.stepComparison
  split
  · exact h.of_same rfl
  · split
    · unfold matchStep
      simp only []
      split
      · exact raiseStep (h.of_same rfl)
      · exact h.of_same rfl
    · unfold mismatchStep
      simp only []
      split
      · exact leaveStep (h.of_same rfl)
      · exact h.of_same rfl

theorem abandon (h : HealthGrows s t) : HealthGrows s (abandon t) := by
  unfold Machine.abandon
  split
  · exact h
  · exact increase (h.of_same rfl)

/-- The end of a period counts step losses and late frames (R13, R166). -/
theorem periodEnded (moment : Time) (palarm : Bool) (s : State) : HealthGrows s (periodEnded moment palarm s) := by
  have presence : HealthGrows s (whenPaired Machine.partnerPresence (sampleAlarm palarm s)) :=
    whenPaired_of (P := HealthGrows s) (partnerPresence ((refl s).of_same rfl)) ((refl s).of_same rfl)
  have shown : ∀ count x, HealthGrows s x → HealthGrows s (Machine.abandon (display (advance moment count x))) :=
    fun count x h => abandon (h.of_same (by simp))
  exact whenPaired_of (P := HealthGrows s) (stepComparison (shown _ _ presence)) (shown _ _ presence)

/-- A composition start counts degraded entries (R133). -/
theorem beginComposition (h : HealthGrows s t) : HealthGrows s (beginComposition t) := by
  have chosen : HealthGrows s (levelChosen t) := by
    unfold levelChosen levelChoice
    simp only []
    split
    · exact increase (h.of_same rfl)
    · exact h.of_same rfl
  rw [beginComposition_eq]
  exact chosen.of_same rfl

/-- A closed unit that finds the queue full is counted (R147). -/
theorem offerUnit {x : IngestUnit} (h : HealthGrows s t) : HealthGrows s (offerUnit x t) := by
  unfold Machine.offerUnit
  split
  · exact h.of_same rfl
  · exact increase (h.of_same rfl)

theorem gapPulse (h : HealthGrows s t) : HealthGrows s (gapPulse t) := by
  unfold Machine.gapPulse
  split
  · exact h
  · split
    · exact offerUnit (h.of_same rfl)
    · exact h.of_same rfl

theorem servingPulse (moment : Time) (palarm : Bool) (s : State) : HealthGrows s (servingPulse moment palarm s) := by
  have changed : HealthGrows s (pairDone moment palarm s).1 :=
    (periodEnded moment palarm s).of_fields (by simp [pairDone]) (by simp [pairDone]) (by simp [pairDone])
  obtain ⟨r, isR⟩ : ∃ r, r = compositionStart (pairDone moment palarm s).1 (pairDone moment palarm s).2 := ⟨_, rfl⟩
  have begun : HealthGrows s r.1 := by
    rw [isR]
    exact beginComposition (changed.of_same (by simp))
  have pulsed : HealthGrows s (Machine.gapPulse (setTsCode r.2 r.1)) := gapPulse (begun.of_same (by simp))
  refine pulsed.of_same ?_
  subst isR
  rw [Machine.servingPulse]
  simp [pairDone, Machine.periodEnded]

/-- A pulse or expiry, and with it what comes about inside it (R6; log 1). -/
theorem pulseEvent (e : PulseEvent) (s : State) : HealthGrows s (pulseEvent e s) :=
  pulseEvent_induct (P := HealthGrows s) (fun _ _ h => h.of_same rfl)
    (fun moment palarm v h => h.trans (servingPulse moment palarm v)) (fun _ _ h => increase h)
    (fun _ _ h => raiseFault h) e (refl s)

theorem comingAbout (named : State → State → Bool) (e : PulseEvent) (s : State) :
    HealthGrows s (comingAbout named e s) := by
  unfold Machine.comingAbout
  split
  · exact pulseEvent e s
  · exact refl s

end HealthGrows

/-! ### The ingest link and the loader -/

/-- What rewriting the stores, raising RUN and recording a loader error keep, every good unit keeps (R153). -/
theorem loadGood_induct {P : State → Prop} (wind : ∀ s w, P s → P { s with fsw := w })
    (tide : ∀ s f, P s → P (s.onFst f)) (run : ∀ s, P s → P (raiseRun s))
    (fails : ∀ k type_ runId station s, P s → P (loaderError k type_ runId station s)) (type_ : Byte)
    (payload : List Byte) {s : State} (h : P s) : P (loadGood type_ payload s) := by
  have failed : ∀ k b id n, P (loaderError k b id n s) := fun k b id n => fails k b id n s h
  have acted : ∀ b id (r : LoaderOutcome × State), P r.2 → P (afterWind b id r) := by
    intro b id r h
    unfold afterWind
    split
    · exact h
    · exact fails _ _ _ _ _ h
  have stored : ∀ n (r : LoaderOutcome × State), P r.2 → P (afterTide n r) := by
    intro n r h
    unfold afterTide
    split
    · exact h
    · exact fails _ _ _ _ _ h
  unfold loadGood
  split
  · unfold loadRunStart
    split
    · exact acted _ _ _ (wind _ _ h)
    · exact failed _ _ _ _
  split
  · unfold loadWindRow
    split
    · split
      · exact acted _ _ _ (wind _ _ h)
      · exact failed _ _ _ _
    · exact failed _ _ _ _
  split
  · unfold loadFrameEnd
    split
    · exact acted _ _ _ (wind _ _ h)
    · exact failed _ _ _ _
  split
  · unfold loadRunEndUnit loadRunEnd
    split
    · refine acted _ _ _ ?_
      split
      · exact run _ (wind _ _ h)
      · exact wind _ _ h
    · exact failed _ _ _ _
  split
  · unfold loadStationUnit
    split
    · exact failed _ _ _ _
    · refine stored _ _ ?_
      unfold loadTideStation
      split
      · exact h
      · split
        · exact h
        · exact tide _ _ h
  · exact failed _ _ _ _

namespace HealthGrows

variable {s t u : State}

theorem moveHead (s : State) : HealthGrows s (moveHead s) := by
  have dealt : ∀ x t, HealthGrows s t → HealthGrows s (dealWith x t) := by
    intro x t h
    unfold dealWith
    split
    · exact increase h
    · exact loadGood_induct (P := HealthGrows s) (fun _ _ h => h.of_same rfl) (fun _ _ h => h.of_same rfl)
        (fun _ h => h.of_fields rfl rfl rfl) (fun _ _ _ _ _ h => increase (h.of_same rfl)) _ _ h
  unfold Machine.moveHead
  split
  · exact refl s
  · split
    · exact dealt _ _ (of_same (refl s) rfl)
    · exact refl s

theorem ingestCharacter (c : Character) (s : State) : HealthGrows s (ingestCharacter c s) := by
  have same : ∀ {u : State}, u.cnu = s.cnu → HealthGrows s u := (refl s).of_same
  unfold Machine.ingestCharacter
  split
  · split <;> exact same rfl
  · exact refl s
  · exact offerUnit (same rfl)
  · unfold takeBytes
    split
    · exact same rfl
    · exact same rfl
    · split
      · exact offerUnit (same rfl)
      · split
        · exact offerUnit (same rfl)
        · exact same rfl

end HealthGrows

/-! ### The partner link -/

/-- A report of the partner leaves the control and notice unit (R163). -/
theorem receiveReport_cnu (r : Report) (s : State) : (receiveReport r s).cnu = s.cnu := by
  have acted : ∀ u : State, (actOnSwapWord r u).cnu = u.cnu := by
    intro u
    unfold actOnSwapWord receiveOffer receiveRequest receiveRelease
    repeat' split
    all_goals simp
  have noted : (noteMain r s).cnu = s.cnu := by
    unfold noteMain
    split <;> simp
  unfold receiveReport
  simp only []
  split
  · simp [acted, takeInHand, noted]
  · exact noted

/-- So does a character on its link. -/
theorem linkCharacter_cnu (c : Character) (s : State) : (linkCharacter c s).cnu = s.cnu := by
  unfold linkCharacter
  split
  · split <;> rfl
  · rfl
  · rfl
  · unfold linkByte
    simp only []
    split
    · rfl
    · split
      · rfl
      · exact receiveReport_cnu _ _

end Sys2Proof.Machine
end

section
/-! PROOFS. What the requests and the other commands do to the health counters (R184 to R186): O59. -/

namespace Sys2Proof.Machine

/-! ### The requests -/

/-- The rules of R176's table but that of CLEAR HEALTH. -/
def countingHandlers : List Handler := handlers.eraseIdx 36

/-- The rule of a code of the table is one of these, unless the code is that of CLEAR HEALTH (R176). -/
theorem handlerOf_counting {code : Byte} {h : Handler} (known : handlerOf code = some h) (other : code ≠ 0x55#8) :
    h ∈ countingHandlers := by
  unfold handlerOf at known
  split at known
  case h_37 isClear => exact absurd (BitVec.eq_of_toNat_eq isClear) other
  all_goals cases known
  all_goals simp [countingHandlers, handlers]

namespace HealthGrows

/-- SET THRESHOLD stores a 16-bit threshold and tests its counter (R185). -/
theorem reqSetThreshold (p : Port) (params : List Byte) (s : State) :
    HealthGrows s (reqSetThreshold p params s).state := by
  unfold Machine.reqSetThreshold
  split
  · next t0 t1 =>
    split
    · exact refl s
    · exact storeThreshold_healthGrows _ (Nat.lt_succ_iff.mp (le16 t0 t1).isLt) s
  · exact refl s

/-- No other request touches a counter, a threshold or a trip (R178). -/
theorem handler : ∀ h ∈ countingHandlers, ∀ (p : Port) (params : List Byte) (s : State),
    HealthGrows s (h p params s).state := by
  have noticed : ∀ {s u : State}, u.cnu.counters = s.cnu.counters → u.cnu.thresholds = s.cnu.thresholds →
      u.cnu.tripped = s.cnu.tripped → HealthGrows s u := (refl _).of_fields
  have requestHold : ∀ p params s, HealthGrows s (reqRequestHold p params s).state := by
    intro p params s
    unfold reqRequestHold
    repeat' split
    all_goals exact noticed rfl rfl rfl
  have releaseHold : ∀ p params s, HealthGrows s (reqReleaseHold p params s).state := by
    intro p params s
    unfold reqReleaseHold Machine.releaseHold
    simp only []
    repeat' split
    all_goals exact noticed rfl rfl rfl
  have runStatus : ∀ p params s, HealthGrows s (reqReadRunStatus p params s).state := by
    intro p params s
    unfold reqReadRunStatus
    split <;> exact noticed rfl rfl rfl
  have notice : ∀ p params s, HealthGrows s (reqReadNotice p params s).state := by
    intro p params s
    unfold reqReadNotice
    split <;> exact noticed rfl rfl rfl
  have mask : ∀ p params s, HealthGrows s (reqSetNoticeMask p params s).state := by
    intro p params s
    unfold reqSetNoticeMask
    split <;> exact noticed rfl rfl rfl
  have faultStatus : ∀ p params s, HealthGrows s (reqReadFaultStatus p params s).state := by
    intro p params s
    unfold reqReadFaultStatus
    split <;> exact noticed rfl rfl rfl
  have alarmEnable : ∀ p params s, HealthGrows s (reqSetAlarmEnable p params s).state := by
    intro p params s
    unfold reqSetAlarmEnable
    split <;> exact noticed rfl rfl rfl
  have restart : ∀ p params s, HealthGrows s (reqRestart p params s).state := by
    intro p params s
    unfold reqRestart
    split
    · split
      · exact refl s
      · exact noticed rfl rfl rfl
    · exact refl s
  simp only [countingHandlers, handlers, List.eraseIdx, List.forall_mem_cons]
  refine ⟨requestHold, releaseHold, ?_, ?_, ?_, ?_, ?_, ?_, ?_, ?_, ?_, ?_, runStatus, ?_, ?_, ?_, ?_, ?_, ?_, ?_, ?_,
    ?_, ?_, ?_, ?_, ?_, ?_, ?_, ?_, ?_, ?_, notice, mask, faultStatus, ?_, reqSetThreshold, alarmEnable, restart, nofun⟩
  all_goals exact fun p params s => (refl s).of_same (by simp)

end HealthGrows

/-! ### The commands -/

namespace HealthGrows

/-- What happens on a part that runs alone. -/
theorem whileRunning {f : State → State} {s : State} (h : HealthGrows s (f s)) :
    HealthGrows s (whileRunning f s) := by
  unfold Machine.whileRunning
  split
  · exact h
  · exact refl s

theorem holdReply (p : Port) (r : Reply) (s : State) : HealthGrows s (holdReply p r (endFrame p s)) := by
  rw [holdReply_endFrame]
  exact (refl s).of_fields rfl rfl rfl

theorem postReply (p : Port) (r : Reply) (s : State) : HealthGrows s (postReply p r (endFrame p s)) := by
  unfold Machine.postReply
  split
  · exact (refl s).of_fields rfl rfl rfl
  · exact holdReply p r s

theorem completeUnknown (p : Port) (code : Byte) (s : State) : HealthGrows s (completeUnknown p code s) := by
  unfold Machine.completeUnknown
  split
  · exact (refl s).of_fields rfl rfl rfl
  · exact holdReply p _ s

/-- A request only counts when its rule does. -/
theorem completeRequest {s t : State} (h : HealthGrows s t) (p : Port) (code : Byte) {params : List Byte} {f : Handler}
    (rule : ∀ u, HealthGrows u (f p params u).state) : HealthGrows s (completeRequest p code params f t) := by
  refine h.trans ?_
  unfold Machine.completeRequest
  split
  · have ended : HealthGrows t (endFrame p t) := (refl t).of_fields rfl rfl rfl
    exact (ended.trans (rule _)).of_fields rfl rfl rfl
  · exact holdReply p _ t

/-- A request of the table other than CLEAR HEALTH. -/
theorem request (p : Port) (params : List Byte) (s : State) {code : Byte} {h : Handler}
    (known : handlerOf code = some h) (other : code ≠ 0x55#8) : HealthGrows s (request p code params h s) :=
  whileRunning (completeRequest (refl s) p code fun u => handler h (handlerOf_counting known other) p params u)

/-- A frame that is executed only counts, unless it is a good CLEAR HEALTH (R178, R186). -/
theorem executeFrame (p : Port) {code : Byte} {params : List Byte} (palarm : Bool) (s : State)
    (counting : code = 0x55#8 → params ≠ []) : HealthGrows s (executeFrame p code params palarm s) := by
  have sampled : HealthGrows s (if code = 0x48 then sampleAlarm palarm s else s) := by
    split
    · exact (refl s).of_same rfl
    · exact refl s
  unfold Machine.executeFrame
  split
  · exact completeUnknown p code s
  · next h known =>
    refine completeRequest sampled p code fun u => ?_
    by_cases isClear : code = 0x55#8
    · subst isClear
      obtain ⟨b, rest, rfl⟩ := List.exists_cons_of_ne_nil (counting rfl)
      cases known
      exact refl u
    · exact handler h (handlerOf_counting known isClear) p params u

end HealthGrows

/-- CLEAR HEALTH keeps the law: nothing is counted and nothing tripped, and a threshold of 0 tests nothing (R186). -/
theorem reqClearHealth_healthLaw (p : Port) (params : List Byte) {s : State} (law : HealthLaw s.cnu) :
    HealthLaw (reqClearHealth p params s).state.cnu := by
  unfold reqClearHealth
  split
  · intro c
    simp only [done_state, State.cnu_onCnu, PerCounter.get_all]
    exact ⟨Nat.zero_le _, (law c).2.1, fun set reached => absurd (Nat.le_zero.mp reached) set⟩
  · exact law

/-- So does the frame that carries it. -/
theorem completeRequest_clearHealth_healthLaw (p : Port) (code : Byte) (params : List Byte) {s : State}
    (law : HealthLaw s.cnu) : HealthLaw (completeRequest p code params reqClearHealth s).cnu := by
  unfold completeRequest
  split
  · exact reqClearHealth_healthLaw p params (s := endFrame p s) law
  · exact (HealthGrows.holdReply p _ s).law law

/-- A frame that completes as CLEAR HEALTH without parameters has had its length and its code. -/
theorem progressOf_clearHealth {bytes : List Byte} {b : Byte} (done : progressOf (bytes ++ [b]) = .complete 0x55#8 []) :
    ∃ len, bytes = [len, 0x55#8] := by
  obtain ⟨len, rest, eq, last, sum, none_given⟩ := progressOf_complete done
  cases rest with
  | nil =>
    obtain rfl : len = 0#8 := BitVec.eq_of_toNat_eq last.symm
    rw [eq] at sum
    exact absurd sum (by decide)
  | cons x later =>
    cases later with
    | nil =>
      have cut : bytes ++ [b] = [len, 0x55#8] ++ [x] := eq
      exact ⟨len, List.append_inj_left' cut rfl⟩
    | cons y _ => cases none_given

/-- The commands that may make a counter smaller: CLEAR HEALTH, also framed on a port, and the end of a hard reset. -/
def MayLower (i : Instr) (s : State) : Prop :=
  (∃ p params, i = .clearHealth p params) ∨ (∃ moment straps, i = .endOfHardReset moment straps) ∨
    ∃ p b palarm len, i = .portCharacter p b palarm ∧ s.cnu.receiver.get p = some [len, 0x55#8]

/-- What a command does to the health counters: it only counts, or it is one of these and keeps the law. -/
def KeepsHealth (i : Instr) (s t : State) : Prop :=
  HealthGrows s t ∨ MayLower i s ∧ (HealthLaw s.cnu → HealthLaw t.cnu)

/-- A character on a control port counts nothing but by the request it completes. -/
theorem portCharacter_keepsHealth (p : Port) (b : Byte) (palarm : Bool) (s : State) :
    KeepsHealth (.portCharacter p b palarm) s (portCharacter p b palarm s) := by
  unfold portCharacter
  split
  · left
    split
    · exact (HealthGrows.refl s).of_fields rfl rfl rfl
    · exact .refl s
  · next bytes receiving =>
    unfold receiveByte
    split
    · exact .inl ((HealthGrows.refl s).of_fields rfl rfl rfl)
    · exact .inl (.postReply p _ s)
    · next code params completes =>
      by_cases clears : code = 0x55#8 ∧ params = []
      · obtain ⟨rfl, rfl⟩ := clears
        obtain ⟨len, rfl⟩ := progressOf_clearHealth completes
        exact .inr ⟨.inr (.inr ⟨p, b, palarm, len, rfl, receiving⟩),
          completeRequest_clearHealth_healthLaw p 0x55#8 []⟩
      · exact .inl (.executeFrame p palarm s fun isClear none_given => clears ⟨isClear, none_given⟩)

/-- Every command. -/
theorem exec_keepsHealth {i : Instr} {s t : State} (h : exec i s = .next t) : KeepsHealth i s t := by
  have of_eq : ∀ {u}, HealthGrows s u → exec i s = .next u → KeepsHealth i s t := by
    intro u grows eq
    rw [eq] at h
    cases h
    exact .inl grows
  have stops : ∀ power, HealthGrows s (halt power s) := fun _ => (HealthGrows.refl s).of_fields rfl rfl rfl
  have reported : ∀ {f : State → State}, (∀ u, (f u).cnu = u.cnu) → HealthGrows s (whileRunning (whenPaired f) s) :=
    fun {f} same => .whileRunning (whenPaired_of (P := HealthGrows s) ((HealthGrows.refl s).of_same (same s)) (.refl s))
  cases i with
  | hardReset => exact of_eq (stops _) rfl
  | powerLoss => exact of_eq (stops _) rfl
  | endOfHardReset moment straps =>
    cases h
    refine .inr ⟨.inr (.inl ⟨moment, straps, rfl⟩), fun law => ?_⟩
    split
    · exact cnuReset_healthLaw
    · exact law
  | clearHealth p params =>
    cases h
    refine .inr ⟨.inl ⟨p, params, rfl⟩, fun law => ?_⟩
    unfold request whileRunning
    split
    · exact completeRequest_clearHealth_healthLaw p _ params law
    · exact law
  | portCharacter p b palarm =>
    cases h
    unfold whileRunning
    split
    · exact portCharacter_keepsHealth p b palarm s
    · exact .inl (.refl s)
  | internalPulse palarm => exact of_eq (.whileRunning (.pulseEvent (.internal palarm) s)) rfl
  | referencePulse moment palarm => exact of_eq (.whileRunning (.pulseEvent (.reference moment palarm) s)) rfl
  | lossExpiry palarm => exact of_eq (.whileRunning (.pulseEvent (.loss palarm) s)) rfl
  | takeExpiry e => exact of_eq (.whileRunning (.comingAbout _ e s)) rfl
  | relaxation e => exact of_eq (.whileRunning (.comingAbout _ e s)) rfl
  | stale e => exact of_eq (.whileRunning (.comingAbout _ e s)) rfl
  | partnerLoss e => exact of_eq (.whileRunning (.comingAbout _ e s)) rfl
  | partnerReportTimeout e => exact of_eq (.whileRunning (.comingAbout _ e s)) rfl
  | regainExpiry =>
    obtain ⟨f, eq⟩ := regainExpiry_fcy s
    exact of_eq (.whileRunning ((HealthGrows.refl s).of_same (by rw [eq]; rfl))) rfl
  | compositionCompletion =>
    obtain ⟨_, _, eq⟩ := complete_fcy s
    exact of_eq (.whileRunning ((HealthGrows.refl s).of_same (by rw [eq]; rfl))) rfl
  | compositionBudgetSpent =>
    obtain ⟨_, eq⟩ := spend_fcy s
    exact of_eq (.whileRunning ((HealthGrows.refl s).of_same (by rw [eq]; rfl))) rfl
  | partnerReport r => exact of_eq (reported fun u => receiveReport_cnu r (setLink none u)) rfl
  | partnerLinkCharacter c => exact of_eq (reported (linkCharacter_cnu c)) rfl
  | ingestCharacter c => exact of_eq (.whileRunning (.ingestCharacter c s)) rfl
  | symbolOutputDone => exact of_eq (.whileRunning ((HealthGrows.refl s).of_same rfl)) rfl
  | loaderMove => exact of_eq (.whileRunning (.moveHead s)) rfl
  | requestFrameError p c =>
    refine of_eq (.whileRunning ?_) rfl
    unfold frameErrorBy
    split
    · exact .refl s
    · exact .postReply p _ s
    · split
      · exact .postReply p _ s
      · exact .refl s
  | portReceiveTimeout p =>
    refine of_eq (.whileRunning ?_) rfl
    unfold receiveTimeout
    split
    · exact .refl s
    · exact .postReply p _ s
  | unknown p code =>
    refine of_eq (.whileRunning ?_) rfl
    split
    · exact .refl s
    · exact .completeUnknown p code s
  | busy p code =>
    refine of_eq (.whileRunning ?_) rfl
    unfold busyFrame
    split
    · exact .refl s
    · exact .holdReply p _ s
  | replySent p =>
    refine of_eq (.whileRunning ?_) rfl
    unfold replySent
    split
    · exact (HealthGrows.refl s).of_fields rfl rfl rfl
    · exact .refl s
  | readOutputStatus p params palarm =>
    exact of_eq (.whileRunning (.executeFrame p (code := 0x48#8) palarm s nofun)) rfl
  | _ => exact of_eq (.request _ _ s (by rfl) (by decide)) rfl

/-- Settles O59: a step is idle or the command at the front of the queue, and each command only counts but the three. -/
theorem stepKeepsTheHealthLaw : Obligations.StepKeepsTheHealthLaw := by
  constructor
  · intro s t h law
    unfold step at h
    split at h
    · cases h
      exact law
    · rcases exec_keepsHealth h with grows | ⟨-, keeps⟩
      · exact grows.law law
      · exact keeps law
  · intro i s t h law notClear notReleased notFramed
    rcases exec_keepsHealth h with grows | ⟨lowers, -⟩
    · exact grows.counters law
    · rcases lowers with ⟨p, params, eq⟩ | ⟨moment, straps, eq⟩ | ⟨p, b, palarm, len, eq, receiving⟩
      · exact absurd eq (notClear p params)
      · exact absurd eq (notReleased moment straps)
      · exact absurd receiving (notFramed p b palarm len eq)

end Sys2Proof.Machine
end

section
/-! PROOFS. Notices, fault status and the health requests (R181 to R186): O46, O47 and O48. -/

namespace Sys2Proof.Machine

/-- One flag as a byte. -/
theorem flagByte_one (b : Bool) : flagByte [b] = if b then 1#8 else 0#8 := by
  cases b <;> rfl

/-- The bits of a number of flags are the flags. -/
theorem testBit_bits (l : List Bool) (i : Nat) : (bits l).testBit i = l.getD i false := by
  induction l generalizing i with
  | nil => simp [bits]
  | cons b rest ih =>
    cases i with
    | zero => cases b <;> simp [bits, bit, Nat.testBit_zero, Nat.add_mod]
    | succ i =>
      have half : (bit b + 2 * bits rest) / 2 = bits rest := by
        cases b <;> simp only [bit, if_true, Bool.false_eq_true, if_false] <;> omega
      rw [bits, Nat.testBit_succ, half, ih, List.getD_cons_succ]

/-! ### READ NOTICE and SET NOTICE MASK (R181, R182) -/

/-- HOLD and STEP alone cease to be pending, each when it is returned (R182). -/
theorem clearReturned_eq (cls : Byte) (r : Raised) :
    clearReturned cls r = { r with hold := r.hold && cls ≠ 3#8, step := r.step && cls ≠ 6#8 } := by
  unfold clearReturned
  by_cases isHold : cls = 3#8
  · subst isHold
    simp
  · by_cases isStep : cls = 6#8
    · subst isStep
      simp
    · simp [isHold, isStep]

/-- The class returned is the first pending and enabled in the order of priority (R180, R182). -/
theorem topClass_shownSet (s : State) (p : Port) {n m : Notices} (isPending : n = pendingSet s p)
    (isMask : m = s.cnu.mask.get p) : topClass (shownSet s p) =
      if n.fault && m.fault then 1#8 else if n.ingest && m.ingest then 2#8 else if n.hold && m.hold then 3#8
      else if n.take && m.take then 4#8 else if n.run && m.run then 5#8 else if n.step && m.step then 6#8 else 0#8 := by
  subst isPending isMask
  rfl

/-- The detail of HOLD is the port's hold event, that of STEP the step state (R182). -/
theorem classDetail_eq (cls : Byte) (p : Port) (s : State) : classDetail cls p s =
    if cls = 3#8 then (s.pln.event.get p).code else if cls = 6#8 then (if s.opr.inStep then 1#8 else 0#8) else 0#8 := by
  rw [← flagByte_one]
  rfl

theorem reqReadNotice_eq (p : Port) (s : State) : reqReadNotice p [] s =
    done [topClass (shownSet s p), classDetail (topClass (shownSet s p)) p s, (pendingSet s p).byte]
      (updateRaised p (clearReturned (topClass (shownSet s p))) s) := rfl

/-- A mask read back is bits 0 to 5 of the byte stored (R181). -/
theorem Notices.byte_ofByte (b : Byte) : (Notices.ofByte b).byte = b &&& 0x3F#8 := by
  refine BitVec.eq_of_getLsbD_eq fun i inByte => ?_
  rw [Notices.byte, flagByte, Machine.byte, BitVec.getLsbD_ofNat, testBit_bits, BitVec.getLsbD_and]
  match i, inByte with
  | 0, _ | 1, _ | 2, _ | 3, _ | 4, _ | 5, _ | 6, _ | 7, _ => simp [Notices.ofByte]

theorem reqSetNoticeMask_misfit (p : Port) {params : List Byte} (misfit : params.length ≠ 1) (s : State) :
    reqSetNoticeMask p params s = refuse .range s := by
  unfold reqSetNoticeMask
  split
  · exact absurd rfl misfit
  · rfl

theorem reqSetNoticeMask_eq (p : Port) (b : Byte) (s : State) : reqSetNoticeMask p [b] s =
    done [b &&& 0x3F#8, (pendingSet s p).byte]
      (s.onCnu fun c => { c with mask := c.mask.set p (Notices.ofByte b) }) := by
  simp only [reqSetNoticeMask, State.cnu_onCnu, PerPort.get_set_same, Notices.byte_ofByte]
  rfl

/-- Settles O46: READ NOTICE by its class, detail and clearing, SET NOTICE MASK by the mask it stores. -/
theorem readNoticeReturnsTheTopClass : Obligations.ReadNoticeReturnsTheTopClass := by
  intro p params s ready
  refine ⟨fun given => next_of_parameters ready given fun _ _ _ => rfl, ?_,
    fun misfit => next_of_refused ready (reqSetNoticeMask_misfit p misfit _), ?_⟩
  · rintro rfl n m isPending isMask
    refine ⟨topClass (shownSet s p), clearReturned (topClass (shownSet s p)) (s.cnu.raised.get p), ?_,
      topClass_shownSet s p isPending isMask, clearReturned_eq _ _⟩
    rw [← classDetail_eq, isPending]
    exact next_of_done ready (reqReadNotice_eq p (endFrame p s))
  · rintro b rfl
    exact next_of_done ready (reqSetNoticeMask_eq p b (endFrame p s))

/-! ### READ FAULT STATUS and READ HEALTH (R183, R185) -/

/-- The reading's seven bytes. -/
theorem faultStatus_eq (p : Port) (s : State) : faultStatus p s =
    [(s.cnu.causes.get p).byte, counterByte (s.cnu.trippedSince.get p), counterByte s.cnu.tripped, s.fcy.ref.code,
     if s.opr.partnerPresent then 1#8 else 0#8, s.opr.role.code,
     BitVec.ofNat 8 ((if alarm s then 1 else 0) + if s.cnu.alarmEnable then 2 else 0)] := by
  rw [faultStatus, flagByte_one, flagByte_pair]

/-- The layout of the reading: the counters, the thresholds, the trips and the enable. -/
theorem healthData_layout (u : Cnu) : (healthData u).length = 26 ∧
    (healthData u).take 12 = (u.counters.toList.map nat16).flatten ∧
    ((healthData u).drop 12).take 12 = (u.thresholds.toList.map nat16).flatten ∧
    (healthData u).drop 24 = [counterByte u.tripped, if u.alarmEnable then 1#8 else 0#8] := by
  rw [← flagByte_one]
  exact ⟨rfl, rfl, rfl, rfl⟩

/-- Settles O47: a reading that clears the port's fault, and one that changes nothing. -/
theorem readFaultStatusClearsThePortsFault : Obligations.ReadFaultStatusClearsThePortsFault := by
  intro p params s ready
  refine ⟨fun given => ⟨next_of_parameters ready given fun _ _ _ => rfl,
    next_of_parameters ready given fun _ _ _ => rfl⟩, ?_⟩
  rintro rfl
  constructor
  · rw [← faultStatus_eq]
    exact next_of_done ready rfl
  · exact ⟨healthData s.cnu, next_of_done ready rfl, healthData_layout s.cnu⟩

/-! ### SET THRESHOLD, CLEAR HEALTH and SET ALARM ENABLE (R184 to R186) -/

/-- The counters in the order of their indices (R185). -/
theorem ofIndex_eq (index : Nat) : Counter.ofIndex index =
    [Counter.lateFrames, .degradedEntries, .ingestErrors, .overruns, .referenceLosses, .stepLosses][index]? := by
  match index with
  | 0 | 1 | 2 | 3 | 4 | 5 => rfl
  | _ + 6 => rfl

/-- Two bytes as a number and back. -/
theorem nat16_le16 (b0 b1 : Byte) : nat16 (le16 b0 b1).toNat = [b0, b1] := by
  simp only [nat16, bytes16, le16, BitVec.ofNat_toNat, BitVec.setWidth_eq]
  rw [BitVec.extractLsb'_append_eq_right, BitVec.extractLsb'_append_eq_left]

theorem reqSetThreshold_misfit (p : Port) {params : List Byte} (misfit : params.length ≠ 3) (s : State) :
    reqSetThreshold p params s = refuse .range s := by
  unfold reqSetThreshold
  split
  · exact absurd rfl misfit
  · rfl

theorem reqSetThreshold_noCounter (p : Port) {index : Byte} (high : 5 < index.toNat) (t0 t1 : Byte) (s : State) :
    reqSetThreshold p [index, t0, t1] s = refuse .range s := by
  have none_named : Counter.ofIndex index.toNat = none := by
    rw [ofIndex_eq]
    exact List.getElem?_eq_none high
  simp only [reqSetThreshold, none_named]

/-- A counter's test does not look at the port. -/
theorem testTrip_endFrame (c : Counter) (p : Port) (s : State) :
    testTrip c (endFrame p s) = endFrame p (testTrip c s) := by
  have same : trips c (endFrame p s) = trips c s := rfl
  unfold testTrip
  rw [same]
  split <;> rfl

/-- The threshold is stored and its counter tested (R184, R185). -/
theorem reqSetThreshold_eq (p : Port) {index : Byte} {c : Counter} (named : Counter.ofIndex index.toNat = some c)
    (t0 t1 : Byte) {s : State} {stored : Cnu}
    (isStored : stored = { s.cnu with thresholds := s.cnu.thresholds.set c (t1 ++ t0).toNat }) :
    reqSetThreshold p [index, t0, t1] (endFrame p s) =
      done [t0, t1, counterByte (tested c stored).tripped] (endFrame p { s with cnu := tested c stored }) := by
  have after : storeThreshold c (le16 t0 t1).toNat (endFrame p s) = endFrame p { s with cnu := tested c stored } := by
    subst isStored
    exact (testTrip_endFrame c p { s with cnu := { s.cnu with
      thresholds := s.cnu.thresholds.set c (t1 ++ t0).toNat } }).trans (congrArg (endFrame p) (testTrip_eq c _))
  have threshold : (tested c stored).thresholds.get c = (le16 t0 t1).toNat := by
    have kept : (tested c stored).thresholds = stored.thresholds := by
      unfold tested
      split <;> rfl
    rw [kept, isStored]
    exact PerCounter.get_set_same _ _ _
  have reading : (endFrame p { s with cnu := tested c stored }).cnu.thresholds.get c = (le16 t0 t1).toNat := threshold
  simp only [reqSetThreshold, named, after, reading, nat16_le16]
  rfl

theorem reqSetAlarmEnable_misfit (p : Port) {params : List Byte} (misfit : params.length ≠ 1) (s : State) :
    reqSetAlarmEnable p params s = refuse .range s := by
  unfold reqSetAlarmEnable
  split
  · exact absurd rfl misfit
  · rfl

/-- Settles O48: SET THRESHOLD by the counter its index names; the other two by their one equation. -/
theorem thresholdsClearingAndAlarmEnable : Obligations.ThresholdsClearingAndAlarmEnable := by
  intro p params s ready
  refine ⟨fun misfit => next_of_refused ready (reqSetThreshold_misfit p misfit _), ?_,
    fun given => next_of_parameters ready given fun _ _ _ => rfl, ?_,
    fun misfit => next_of_refused ready (reqSetAlarmEnable_misfit p misfit _), ?_⟩
  · rintro index t0 t1 rfl
    refine ⟨fun high => next_of_refused ready (reqSetThreshold_noCounter p high t0 t1 _),
      fun c stored named isStored => ?_⟩
    rw [← ofIndex_eq] at named
    exact next_of_done ready (reqSetThreshold_eq p named t0 t1 isStored)
  · rintro rfl
    exact next_of_done ready rfl
  · rintro b rfl
    rw [← flagByte_one]
    exact next_of_done ready rfl

end Sys2Proof.Machine
end

section
/-! PROOFS. One step takes the front command, and no command stops the part or touches the queue of commands: O1 and O2. -/

namespace Sys2Proof.Machine

/-! ### The queue through the operations of the blocks -/

/-- Receiving a report leaves the queue of commands (R163). -/
theorem receiveReport_pending (r : Report) (s : State) : (receiveReport r s).pending = s.pending := by
  have noted : (noteMain r s).pending = s.pending := by rw [noteMain_eq]
  have acted : ∀ u : State, (actOnSwapWord r u).pending = u.pending := by
    intro u
    obtain ⟨_, eq⟩ := actOnSwapWord_eq r u
    rw [eq]
  unfold receiveReport
  simp only []
  split
  · exact (acted _).trans noted
  · exact noted

/-- The ingest receiver leaves the queue of commands (R140 to R147). -/
theorem ingestCharacter_pending (c : Character) (s : State) : (ingestCharacter c s).pending = s.pending := by
  unfold ingestCharacter takeBytes
  repeat' split
  all_goals simp

/-- The loader leaves the queue of commands (R151 to R154). -/
theorem moveHead_pending (s : State) : (moveHead s).pending = s.pending := by
  have dealt : ∀ u t, (dealWith u t).pending = t.pending := by
    intro u t
    unfold dealWith
    split
    · simp
    · exact loadGood_induct (P := fun v => v.pending = t.pending) (fun _ _ h => h) (fun _ _ h => h)
        (fun _ h => by simpa using h) (fun _ _ _ _ _ h => by simpa [loaderError] using h) _ _ rfl
  unfold moveHead
  split
  · rfl
  · split
    · exact dealt _ _
    · rfl

/-- A pulse or an expiry leaves the queue of commands (R2, R4 to R9). -/
theorem pulseEvent_pending (e : PulseEvent) (s : State) : (pulseEvent e s).pending = s.pending :=
  pulseEvent_induct (P := fun t => t.pending = s.pending) (fun _ _ h => h) (fun _ _ _ h => by simpa using h)
    (fun _ _ h => by simpa using h) (fun _ _ h => by simpa using h) e rfl

/-- No request touches the queue of commands (R176). -/
theorem handler_pending : ∀ h ∈ handlers, ∀ (p : Port) (params : List Byte) (s : State),
    (h p params s).state.pending = s.pending := by
  simp [handlers]

/-- Whatever a part that runs does, the queue of commands is as it was. -/
theorem Acted.pending {s t : State} (act : Acted s t) : t.pending = s.pending := by
  cases act with
  | stands => rfl
  | pulse e => exact pulseEvent_pending e s
  | regainExpiry => obtain ⟨f, eq⟩ := regainExpiry_fcy s; rw [eq]; rfl
  | complete => obtain ⟨_, _, eq⟩ := complete_fcy s; rw [eq]; rfl
  | spend => obtain ⟨_, eq⟩ := spend_fcy s; rw [eq]; rfl
  | report r _ => exact receiveReport_pending r (setLink none s)
  | link l _ => rfl
  | ingest c => exact ingestCharacter_pending c s
  | symbol => rfl
  | loader => exact moveHead_pending s
  | request p r params palarm known =>
    simp only [sendReply_keeps]
    exact handler_pending _ known p params (endFrame p (sampleAlarm palarm s))
  | ports palarm receiver reply waiting => rfl

/-- Nor does RESET, its end, or loss of supply touch it. -/
theorem Effect.pending {s t : State} (e : Effect s t) : t.pending = s.pending := by
  cases e with
  | stands => rfl
  | halted power _ => rfl
  | released t straps => rfl
  | acted running act => exact act.pending

/-! ### O2 -/

/-- No command ends in a fault or a refusal (log 26). -/
theorem exec_goes_on (c : Instr) (s : State) : ∃ t, exec c s = .next t := by
  cases c
  all_goals exact ⟨_, rfl⟩

/-- Settles O2: every command answers a next state, which is one of the effects, and each effect leaves the queue. -/
theorem everyCommandGoesOn : Obligations.EveryCommandGoesOn := by
  intro c s
  obtain ⟨t, goes⟩ := exec_goes_on c s
  exact ⟨t, goes, (exec_effect goes).pending⟩

/-! ### O1 -/

/-- With a command in front the step is that command's, on the state with the rest waiting. -/
theorem step_cons (c : Instr) (rest : List Instr) (s : State) :
    step { s with pending := c :: rest } = exec c { s with pending := rest } := rfl

/-- With no command waiting the step idles (log 3). -/
theorem step_nil {s : State} (empty : s.pending = []) : step s = .next s := by
  unfold step
  rw [empty]

/-- Settles O1. -/
theorem stepTakesTheFrontCommand : Obligations.StepTakesTheFrontCommand := ⟨step_cons, fun _ => step_nil⟩

end Sys2Proof.Machine
end
